-- ==== Sys2Proof/Word.lean ====
section
/-! DEFINITION. The plain types every other file is written over: bytes of a frame, vectors of sixteen counts,
fixed tables, and the identities of the objects the manual names ("Identifiers" of spec/00_scope.md). -/

namespace Sys2Proof

/-- One byte of a frame or of a Counter Link block (R202, R207). -/
abbrev Byte := BitVec 8

/-- A denomination vector: sixteen counts, one per index of the denomination table, signed where the rule says so
(R3, R7). The counts of a holding lie in 0..65,535 (R6), which is an invariant and not part of the type. -/
abbrev Counts := Vector Int 16

/-- Index of the denomination table, 0 to 15. -/
abbrev DenomIx := Fin 16

/-- Till T00 to T63. -/
abbrev TillIx := Fin 64

/-- Compartment C00 to C15. -/
abbrev CompIx := Fin 16

/-- Tray A (0) or Tray B (1). -/
abbrev TrayIx := Fin 2

/-- Bag record B00 to B31. -/
abbrev BagIx := Fin 32

/-- Courier window W0 to W3. -/
abbrev WindowIx := Fin 4

/-- Float profile P0 to P7. -/
abbrev ProfileIx := Fin 8

/-- Tolerance class K0 to K3. -/
abbrev ClassIx := Fin 4

/-- Day Plan entry 0 to 63. -/
abbrev PlanIx := Fin 64

/-- Request tag 0 to 7 (R191). -/
abbrev Tag := Fin 8

/-- Entry `i` of a table. -/
def look {α : Type} {n : Nat} (v : Vector α n) (i : Fin n) : α :=
  v[i]

/-- The table with entry `i` replaced. -/
def put {α : Type} {n : Nat} (v : Vector α n) (i : Fin n) (x : α) : Vector α n :=
  v.set i.1 x i.2

theorem look_put {α : Type} {n : Nat} (v : Vector α n) (i j : Fin n) (x : α) :
    look (put v i x) j = if j = i then x else look v j := by
  by_cases h : j = i
  · subst h; simp [look, put]
  · have : i.1 ≠ j.1 := fun e => h (Fin.ext e.symm)
    simp [look, put, Vector.getElem_set_ne, this, h]

@[simp] theorem look_put_self {α : Type} {n : Nat} (v : Vector α n) (i : Fin n) (x : α) :
    look (put v i x) i = x := by
  simp [look_put]

theorem look_put_ne {α : Type} {n : Nat} (v : Vector α n) {i j : Fin n} (x : α) (h : j ≠ i) :
    look (put v i x) j = look v j := by
  simp [look_put, h]

/-- A number as an index of a table of `n` entries, where it is one: how an operand that names an object is read. -/
def index? (n k : Nat) : Option (Fin n) :=
  if h : k < n then some ⟨k, h⟩ else none

/-- The vector of sixteen zero counts. -/
def Counts.zero : Counts := Vector.replicate 16 0

/-- The sum of two vectors, index by index. -/
def Counts.add (a b : Counts) : Counts := Vector.zipWith (· + ·) a b

/-- The difference of two vectors, index by index. -/
def Counts.sub (a b : Counts) : Counts := Vector.zipWith (· - ·) a b

end Sys2Proof
end

