-- ==== Sys2Proof/Syntax.lean ====
section
/-! DEFINITION. The commands of the Z64: one constructor of `Instr` for each row of spec/opcode_table.json, with the
row's operands as the request's rule (or the event's rule) names them. An operand is held as it arrives: a number that
may lie outside its range stays a `Nat`, and a field whose code or encoding may lie outside its list (R204) is a
`Coded` value, so that every form a master can send is a term. -/

namespace Sys2Proof

/-- The three master ports (R188). -/
inductive Port
  | office | till | courier
  deriving DecidableEq, Repr

/-- A field of a request as it arrived: the thing its encoding stands for, or an encoding outside its list, which
R204 refuses with BAD_OPERAND. -/
inductive Coded (α : Type)
  | ok (a : α)
  | bad
  deriving DecidableEq, Repr

/-- Anything that holds cash in the record (R6). -/
inductive Container
  | till (i : TillIx)
  | comp (i : CompIx)
  | tray (i : TrayIx)
  | bag (i : BagIx)
  deriving DecidableEq, Repr

/-- Status of a denomination entry (R1). -/
inductive DenomStatus
  | unused | active | retired
  deriving DecidableEq, Repr

/-- Form of a denomination (R1). -/
inductive Form
  | note | coin
  deriving DecidableEq, Repr

/-- Role of an operator (R17). -/
inductive OpRole
  | clerk | supervisor | manager
  deriving DecidableEq, Repr

/-- Standing of an operator (R17). -/
inductive Standing
  | active | suspended
  deriving DecidableEq, Repr

/-- The role field of SET OPERATOR: a role, or the word REMOVE (R17, R204). -/
inductive RoleArg
  | role (r : OpRole)
  | remove
  deriving DecidableEq, Repr

/-- Role of a compartment (R120). -/
inductive CompRole
  | floatReserve | takings | changeFund | outbound | general
  deriving DecidableEq, Repr

/-- The limits of SET LIMIT, in the order of their codes (R205, "Request codes"). -/
inductive Limit
  | floatWait | accessWait | counterWait | destinationWait | counterStep | doorHeld | handoverIdle | autoPost
  deriving DecidableEq, Repr

/-- The notice kinds, in the order of the routing table (R196). -/
inductive NoticeKind
  | pickupDue | reserveLow | countDone | countFault | counterDown | tillHeld | tillSettled | postDiverted
  | postHeld | doorForced | doorHeld | windowOpen | windowClosed | windowMissed | handoverDone
  | handoverAborted | badgeRefused | journalHigh | journalFull | auditStep | varianceNoted
  | planEntryRefused | dayState | clockLimit | powerReturn | memorySuspect
  deriving DecidableEq, Repr

/-- A set of the three ports (R196). -/
structure PortSet where
  office : Bool
  till : Bool
  courier : Bool
  deriving DecidableEq, Repr

/-- What SET FLOAT PROFILE gives for a DEFINED profile (R44). The mask is a denomination index set (R204). -/
structure ProfileArg where
  target : Nat
  template : Coded Counts
  mask : BitVec 16
  deriving DecidableEq, Repr

/-- A plan action with its arguments as LOAD PLAN ENTRY carries them (R33, R34); `stop` is END. -/
inductive PlanArg
  | windowOpen (w : Nat)
  | windowClose (w : Nat)
  | openRange (low high : Nat)
  | lockAll
  | freeze
  | pickupRound
  | stop
  deriving DecidableEq, Repr

/-- A count source as START COUNT and MANUAL COUNT name it (R80, R204). -/
inductive SourceArg
  | drawer (till : Nat)
  | pouch (till number : Nat)
  | inbound (bag : Nat)
  | compartment (comp : Nat)
  | loose
  deriving DecidableEq, Repr

/-- Why a received frame is discarded (R189). -/
inductive DiscardCause
  | gap | length | crc | type | payload
  deriving DecidableEq, Repr

/-- What every request carries beside its own fields: the port it arrived on, its tag, and its operator numbers,
0 for none (R18, R19, R191). -/
structure Req where
  port : Port
  tag : Tag
  op1 : Nat
  op2 : Nat
  deriving DecidableEq, Repr

/-- The commands: the requests of the masters, then the frames and line events of the ports, the replies and lines of
the counting station, the events the units make of their own accord, and the timebase and supply events. -/
inductive Instr
  -- configuration (Office)
  | setDenomination (h : Req) (index : Nat) (status : Coded DenomStatus) (face : Nat) (form : Coded Form) (pack mass : Nat)
  | setOperator (h : Req) (number : Nat) (role : Coded RoleArg) (standing : Coded Standing)
  | setFloatProfile (h : Req) (index : Nat) (profile : Coded (Option ProfileArg))
  | setTill (h : Req) (till limit cls : Nat)
  | setToleranceClass (h : Req) (cls a p : Nat)
  | setLimit (h : Req) (limit : Coded Limit) (value : Nat)
  | setCompartment (h : Req) (comp : Nat) (role : Coded CompRole) (link : Coded (Option Nat))
  | setCap (h : Req) (comp cap : Nat)
  | setWindow (h : Req) (window : Nat) (badge : Coded (Option Nat)) (comp : Coded (Option Nat))
  | setAuditStep (h : Req) (container : Coded Container) (on : Coded Bool)
  | releaseStep (h : Req) (container : Coded Container)
  | setRouting (h : Req) (kind : Coded NoticeKind) (ports : Coded PortSet) (priority : Nat)
  | restoreMemory (h : Req)
  -- the business day and the plan (Office)
  | openDay (h : Req)
  | closeDay (h : Req)
  | reopen (h : Req)
  | setClock (h : Req) (time : Nat)
  | loadPlanEntry (h : Req) (index time : Nat) (action : Coded PlanArg)
  | holdPlan (h : Req)
  | resumePlan (h : Req)
  -- tills
  | issueFloat (h : Req) (till profile : Nat)
  | requestFloat (h : Req) (till profile : Nat)
  | requestTopup (h : Req) (till value : Nat)
  | takingsUpdate (h : Req) (till value : Nat)
  | finalTakings (h : Req) (till value : Nat)
  | requestPickup (h : Req) (till declared : Nat)
  | signOff (h : Req) (till : Nat)
  | withdrawTill (h : Req) (till : Nat)
  | returnDrawer (h : Req) (till : Nat)
  | suspendTill (h : Req) (till : Nat)
  | restoreTill (h : Req) (till : Nat)
  | receivePouch (h : Req) (till number : Nat)
  -- counting, reconciliation and posting (Office)
  | startCount (h : Req) (source : Coded SourceArg) (tray : Coded (Option Nat)) (reject : Nat)
  | recount (h : Req) (tray reject : Nat)
  | manualCount (h : Req) (tray : Nat) (vec : Coded Counts) (source : Coded (Option SourceArg))
  | restoreCounter (h : Req)
  | resetOperations (h : Req)
  | postTray (h : Req) (tray : Nat)
  | acceptVariance (h : Req) (till : Nat)
  -- the safe (Office)
  | openRange (h : Req) (low high : Nat)
  | lockAll (h : Req)
  | freeze (h : Req)
  | thaw (h : Req)
  | transfer (h : Req) (src dst : Nat) (vec : Coded Counts)
  | adjust (h : Req) (comp : Nat) (vec : Coded Counts)
  | clearAlarm (h : Req) (comp : Nat)
  -- courier bags and windows (Office)
  | newBag (h : Req) (comp : Nat)
  | fillBag (h : Req) (bag comp : Nat) (vec : Coded Counts)
  | closeBag (h : Req) (bag tagNumber : Nat)
  | reopenBag (h : Req) (bag : Nat)
  | freeBag (h : Req) (bag : Nat)
  | stageBag (h : Req) (bag window : Nat)
  | dropBag (h : Req) (bag : Nat)
  | openWindow (h : Req) (window : Nat)
  | closeWindow (h : Req) (window : Nat)
  -- the handover session (Courier)
  | arrive (h : Req) (window badge : Nat)
  | readManifest (h : Req)
  | scanBag (h : Req) (tagNumber : Nat)
  | declareInbound (h : Req) (tagNumber : Nat) (vec : Coded Counts)
  | confirmHandover (h : Req) (checksum : BitVec 16)
  | depart (h : Req)
  -- the journal (Office)
  | readJournal (h : Req) (start maximum : Nat)
  | archive (h : Req) (seq : Nat)
  -- status, withdrawal and reads
  | readStatus (h : Req)
  | withdraw (h : Req) (tags : BitVec 8)
  | readHolding (h : Req) (container : Coded Container)
  | readPosition (h : Req)
  | readDenominations (h : Req)
  | readPlan (h : Req)
  | readProfile (h : Req) (profile : Nat)
  | readTill (h : Req) (till : Nat)
  | readResult (h : Req) (till : Nat)
  | readTray (h : Req) (tray : Nat)
  | readTolerance (h : Req)
  | readSafe (h : Req)
  | readBag (h : Req) (bag : Nat)
  | readWindow (h : Req) (window : Nat)
  | readSession (h : Req)
  | readRouting (h : Req)
  -- frames and lines of the ports
  | frameDiscarded (p : Port) (cause : DiscardCause)
  | unknownRequestCode (p : Port) (tag : Tag) (code : Nat)
  | badTagFrame (p : Port) (tag : Nat) (code : Nat)
  | linkReset (p : Port)
  | linkReturnsMarking (p : Port)
  | frameTransmitted (p : Port)
  -- the counting station: its READY line and its replies, as the bytes of their blocks (R207)
  | ready
  | selectReply (block : List Byte)
  | setUpReply (block : List Byte)
  | statusReply (block : List Byte)
  | resultReply (block : List Byte)
  | abandonReply (block : List Byte)
  | counterReplyTimeout
  | stepLimitExpiry
  -- events the units make of their own accord
  | autoPostAttempt (t : TrayIx)
  | floatRetryPass
  | floatWaitExpiry (p : Port) (tag : Tag)
  | counterWaitExpiry (p : Port) (tag : Tag)
  | accessWaitExpiry (p : Port) (tag : Tag)
  | destinationWaitExpiry (p : Port) (tag : Tag)
  | latchWindowExpiry (c : CompIx)
  | doorHeldExpiry (c : CompIx)
  | handoverIdleExpiry
  -- doors, timebase and supply
  | doorOpens (c : CompIx)
  | doorCloses (c : CompIx)
  | clockTick
  | planEntryDue
  | mainSupplyLoss (backupPresent : Bool)
  | backupSupplyLoss
  | powerReturn (doorsOpen : List CompIx) (spacing : List Port) (drift : BitVec 32)
  | coldStart (doorsOpen : List CompIx) (spacing : List Port)
  deriving DecidableEq, Repr

end Sys2Proof
end

