-- ==== Sys2Proof/Machine/State.lean ====
section
/-! DEFINITION. The state of the Z64, block by block as spec/00_scope.md ("Block overview") divides it, the state after a
cold start, and the reasons a step can stop. Fields that are the model's own bookkeeping, and not the manual's state,
say so in their docstrings. -/

namespace Sys2Proof.Machine

/-! ## What leaves the part in a frame -/

/-- One field of an answer or of a notice, with the width R204 gives it. -/
inductive Field
  /-- a one-byte field: an index, a code, a set of names or of tags, a presence byte, a number of entries -/
  | u8 (n : Nat)
  /-- a two-byte field: a count, a day number, an operator number, an index set, a face, a pack or a unit mass -/
  | u16 (n : Nat)
  /-- a four-byte field: a tag number, a sequence number, a time, elapsed seconds -/
  | u32 (n : Nat)
  /-- an unsigned value field, reported under R4 -/
  | value (v : Int)
  /-- a signed value field, reported under R4 -/
  | signed (v : Int)
  /-- an item list: the nonzero counts of a vector in index order -/
  | items (v : Counts)
  /-- a container field, kind 0 where it is absent -/
  | container (c : Option Container)
  deriving DecidableEq, Repr

/-- The outcome of a request (R205, "Outcome codes"). -/
inductive Code
  | ok | badOperand | badState | notPermitted | tagInUse | operatorRefused | dualRequired | operatorLimit
  | memorySuspect | dayNotOpen | dayClosing | journalFull | countRange | overCap | locked | frozen | alarmed
  | profileMismatch | topupLimit | pouchLimit | counterDown | trayInvalid | planBusy | planOrder | bagLimit
  | windowNotOpen | sessionBusy | badgeMismatch | noSession | unknownTag | checksumMismatch | incomplete
  | expired | withdrawn | countFault
  deriving DecidableEq, Repr

/-- The subject of a notice (R196, R206). -/
inductive Subject
  | till (i : TillIx)
  | comp (i : CompIx)
  | tray (i : TrayIx)
  | bag (i : BagIx)
  | window (i : WindowIx)
  | planEntry (i : PlanIx)
  | journal | day | station | part
  deriving DecidableEq, Repr

/-- A notice as it was raised (R196); its age is its place in the queue (R198). -/
structure Notice where
  kind : NoticeKind
  subject : Subject
  priority : Nat
  day : Nat
  time : Nat
  content : List Field
  deriving DecidableEq, Repr

/-- An answer (R205). The tag is a byte, since a malformed tag is echoed (R202). -/
structure Response where
  tag : Nat
  code : Nat
  outcome : Code
  detail : Nat
  results : List Field
  deriving DecidableEq, Repr

/-- A frame the part sends: one part of a response, a REJECT, or a notice with the dropped indication it carries. -/
inductive Frame
  | response (r : Response) (part : Nat)
  | reject (tag : Tag)
  | notice (n : Notice) (dropped : Bool)
  deriving DecidableEq, Repr

/-! ## Custody Store -/

/-- One entry of the denomination table (R1). -/
structure DenomEntry where
  status : DenomStatus
  face : Option Nat
  form : Option Form
  pack : Option Nat
  unitMass : Option Nat
  deriving DecidableEq, Repr

/-- One entry of the operator table (R17). -/
structure OperatorEntry where
  number : Nat
  role : OpRole
  standing : Standing
  deriving DecidableEq, Repr

/-- The audit-step flag and the step-pending mark of a till or compartment (R21). -/
structure StepBits where
  flag : Bool
  mark : Bool
  deriving DecidableEq, Repr

/-- The class of a drawer (R102); `surplus` is OVER. -/
inductive DrawerClass
  | balanced | surplus | short | outside | gross
  deriving DecidableEq, Repr

/-- Sessions settled, by class (R14). -/
structure SettledCounts where
  balanced : Nat
  surplus : Nat
  short : Nat
  outside : Nat
  gross : Nat
  deriving DecidableEq, Repr

/-- The day totals (R14). -/
structure DayTotals where
  overTotal : Int
  shortTotal : Int
  custody : Int
  floatCount : Nat
  floatValue : Int
  topupCount : Nat
  topupValue : Int
  settled : SettledCounts
  deriving DecidableEq, Repr

/-- The movement kinds (R8). -/
inductive MoveKind
  | issue | topup | countOut | countResult | post | transfer | adjust | bagFill | handoverOut | receiveIn
  deriving DecidableEq, Repr

/-- The flags an owner supplies with a movement (R7). -/
structure MoveFlags where
  manual : Bool
  diverted : Bool
  uncertain : Bool
  saturated : Bool
  deriving DecidableEq, Repr

/-- One journal entry (R180). -/
structure JournalEntry where
  seq : Nat
  day : Nat
  time : Nat
  kind : MoveKind
  src : Option Container
  dst : Option Container
  value : Int
  items : List (DenomIx × Int)
  port : Port
  ops : List Nat
  flags : MoveFlags
  audit : Bool
  deriving DecidableEq, Repr

/-- The Movement Journal (R179). -/
structure Journal where
  entries : List JournalEntry
  nextSeq : Nat
  held : Nat
  high : Bool
  full : Bool
  deriving DecidableEq, Repr

/-- The Custody Store: denominations, holdings, the Day Position, operators, audit steps and the journal. -/
structure CustodyStore where
  denoms : Vector DenomEntry 16
  tillHold : Vector Counts 64
  compHold : Vector Counts 16
  trayHold : Vector Counts 2
  bagHold : Vector Counts 32
  base : Counts
  inflow : Counts
  outflow : Counts
  totals : DayTotals
  operators : Vector (Option OperatorEntry) 32
  tillStep : Vector StepBits 64
  compStep : Vector StepBits 16
  journal : Journal
  deriving DecidableEq, Repr

/-! ## Day Unit -/

/-- The day state (R24). -/
inductive DayState
  | closed | opened | closing
  deriving DecidableEq, Repr

/-- The plan state (R35). -/
inductive PlanState
  | stopped | running | held | ended
  deriving DecidableEq, Repr

/-- A plan action (R33); `stop` is END. The high compartment of OPEN_RANGE is 0 to 255, stored as given. -/
inductive PlanAction
  | windowOpen (w : WindowIx)
  | windowClose (w : WindowIx)
  | openRange (low : CompIx) (high : Nat)
  | lockAll
  | freeze
  | pickupRound
  | stop
  deriving DecidableEq, Repr

/-- One Day Plan entry (R33). -/
structure PlanEntry where
  time : Nat
  action : PlanAction
  deriving DecidableEq, Repr

/-- The Day Unit (R24, R33, R35). `limitOwed` records that the clock-limit flag was set during a loss of main supply, so
that CLOCK_LIMIT is still to be raised at power return (R31). -/
structure DayUnit where
  state : DayState
  number : Nat
  clock : Nat
  clockLimit : Bool
  limitOwed : Bool
  plan : Vector PlanEntry 64
  planState : PlanState
  pointer : Nat
  deriving DecidableEq, Repr

/-! ## Float Unit -/

/-- The till states (R43). -/
inductive TillState
  | idle | trading | returned | counting | held | suspended
  deriving DecidableEq, Repr

/-- The hold reasons of a till, a set (R42). -/
structure HoldReasons where
  undeclared : Bool
  pendingPickups : Bool
  outside : Bool
  gross : Bool
  uncertain : Bool
  deriving DecidableEq, Repr

/-- The last result of a till (R42, R104). -/
structure LastResult where
  cls : DrawerClass
  variance : Int
  allowance : Int
  time : Nat
  deriving DecidableEq, Repr

/-- The pouch states (R60). -/
inductive PouchState
  | outstanding | received | counting | counted
  deriving DecidableEq, Repr

/-- One pouch record (R60). -/
structure Pouch where
  number : Nat
  declared : Nat
  state : PouchState
  counted : Option Int
  diff : Option Int
  deriving DecidableEq, Repr

/-- One till record (R42). -/
structure TillRec where
  state : TillState
  session : Nat
  profile : Option ProfileIx
  mask : BitVec 16
  f : Int
  topups : Nat
  signedOff : Bool
  running : Option Nat
  final : Option Nat
  pouches : List Pouch
  p : Int
  limit : Nat
  cls : ClassIx
  armed : Bool
  hold : HoldReasons
  last : Option LastResult
  deriving DecidableEq, Repr

/-- A float profile: EMPTY or DEFINED with a target, a template and an issuable mask (R44). An EMPTY profile has a zero
template and an empty mask. -/
structure Profile where
  defined : Bool
  target : Nat
  template : Counts
  mask : BitVec 16
  deriving DecidableEq, Repr

/-- Why a movement waits for access (R10). -/
inductive AccessReason
  | session | countOut | audit
  deriving DecidableEq, Repr

/-- What a float waiter asks for (R51). -/
inductive FloatAsk
  | float (till : TillIx) (profile : ProfileIx)
  | topup (till : TillIx) (value : Nat)
  deriving DecidableEq, Repr

/-- The park reason of a float waiter (R51): WAIT_STOCK, or WAIT_ACCESS with its reason and container. -/
inductive FloatPark
  | stock
  | access (reason : AccessReason) (c : Container)
  deriving DecidableEq, Repr

/-- One float waiter (R51). `stamp` is the model's own: the order in which waiters entered the float-waiter list and the
access-waiter list taken together, which R23 needs. -/
structure FloatWaiter where
  port : Port
  tag : Tag
  ask : FloatAsk
  ops : List Nat
  park : FloatPark
  elapsed : Nat
  stamp : Nat
  deriving DecidableEq, Repr

/-- The Float Unit (R42, R44, R51, R53). `waitInForce` is the limit the waiters are compared with at the present second: a new
`waitLimit` applies at the next one (R53). `retryDue` is the model's own: how many re-try passes of R52 are still owed, one for
each event that calls for one. -/
structure FloatUnit where
  tills : Vector TillRec 64
  profiles : Vector Profile 8
  waiters : List FloatWaiter
  waitLimit : Nat
  waitInForce : Nat
  retryDue : Nat
  deriving DecidableEq, Repr

/-! ## Count Unit -/

/-- The counting-station states (R70). -/
inductive StationState
  | idle | running | collecting | down
  deriving DecidableEq, Repr

/-- The tray states (R79). -/
inductive TrayState
  | empty | counting | counted | invalid
  deriving DecidableEq, Repr

/-- The source recorded with a tray (R78). -/
inductive Source
  | drawer (till : TillIx) (session : Nat)
  | pouch (till : TillIx) (session number : Nat)
  | inbound (bag : BagIx)
  | compartment (c : CompIx)
  | loose
  deriving DecidableEq, Repr

/-- The flags of a tray (R78): UNCERTAIN is set when `uncertain`, the set of uncertain COIN indices, is not empty. -/
structure TrayFlags where
  manual : Bool
  uncertain : BitVec 16
  saturated : Bool
  deriving DecidableEq, Repr

/-- A count number with the day number it was given in (R78). -/
structure CountNumber where
  number : Nat
  day : Nat
  deriving DecidableEq, Repr

/-- One tray record (R78); the holding is the Custody Store's. -/
structure TrayRec where
  state : TrayState
  source : Option Source
  prior : Counts
  rejects : Nat
  flags : TrayFlags
  count : Option CountNumber
  rejectLimit : Nat
  deriving DecidableEq, Repr

/-- What a count waiter asks for (R84). -/
inductive CountAsk
  | start (source : SourceArg) (tray : Option TrayIx)
  | recount (tray : TrayIx)
  deriving DecidableEq, Repr

/-- The park reason of a count waiter (R84). -/
inductive CountPark
  | counter | tray
  deriving DecidableEq, Repr

/-- One count waiter (R84). -/
structure CountWaiter where
  port : Port
  tag : Tag
  ask : CountAsk
  reject : Nat
  ops : List Nat
  park : CountPark
  elapsed : Nat
  deriving DecidableEq, Repr

/-- A command block on the Counter Link (R71, R207). -/
inductive LinkCommand
  | select
  | setUp (tray : TrayIx) (mask : BitVec 16) (reject : Nat)
  | status
  | result
  | abandon
  deriving DecidableEq, Repr

/-- The step limit of the running count: seconds since SET-UP was sent, and the limit that count runs under (R72). -/
structure StepTimer where
  elapsed : Nat
  limit : Nat
  deriving DecidableEq, Repr

/-- The count or recount that has started and not ended, with the station conversation's own state (R72 to R75):
the request behind it, the sequence number of its COUNT_OUT, the mask sent in SET-UP and whether RESULT was re-sent. -/
structure RunningCount where
  port : Port
  tag : Tag
  ops : List Nat
  tray : TrayIx
  outSeq : Option Nat
  mask : BitVec 16
  reread : Bool
  step : Option StepTimer
  deriving DecidableEq, Repr

/-- The Count Unit (R69). `waitInForce` is the counter wait limit of the present second (R85), `exchange` is the command whose
reply is awaited on the Counter Link, and `selectWaiting` a SELECT that follows the ABANDON exchange in progress (R71). -/
structure CountUnit where
  station : StationState
  faults : Nat
  recovered : Nat
  waiters : List CountWaiter
  trays : Vector TrayRec 2
  lastCount : Option CountNumber
  waitLimit : Nat
  waitInForce : Nat
  stepLimit : Nat
  running : Option RunningCount
  exchange : Option LinkCommand
  selectWaiting : Bool
  deriving DecidableEq, Repr

/-! ## Reconciliation Unit -/

/-- One tolerance class (R97). -/
structure TolClass where
  a : Nat
  p : Nat
  deriving DecidableEq, Repr

/-- The classification fields of a drawer result (R97, R101). -/
structure Classification where
  expected : Int
  variance : Int
  allowance : Int
  cls : DrawerClass
  deriving DecidableEq, Repr

/-- A drawer result (R97). -/
structure DrawerResult where
  session : Nat
  counted : Int
  uncertain : Bool
  saturated : Bool
  manual : Bool
  count : Option CountNumber
  tray : TrayIx
  classed : Option Classification
  acceptOps : List Nat
  deriving DecidableEq, Repr

/-- The Reconciliation Unit (R97). `destInForce` is the destination wait limit of the present second (R116). The model's own:
`fillOps`, the operator numbers of the request that filled each tray, which an auto-post carries (R118); `attemptDue`, an
auto-post attempt owed after a completion or a settlement (R118); `reported`, an attempt owed because the Safe Unit reported a
pending tray's destination accessible (R119). -/
structure ReconUnit where
  classes : Vector TolClass 4
  drawers : Vector (Option DrawerResult) 64
  diffs : Vector (Option Int) 2
  pending : Vector Bool 2
  autoPost : Bool
  destLimit : Nat
  destInForce : Nat
  fillOps : Vector (List Nat) 2
  attemptDue : Vector Bool 2
  reported : Vector Bool 2
  deriving DecidableEq, Repr

/-! ## Safe Unit -/

/-- Latch state (R120). -/
inductive Latch
  | engaged | released
  deriving DecidableEq, Repr

/-- Door state (R120). -/
inductive Door
  | closed | opened
  deriving DecidableEq, Repr

/-- Alarm state (R120). -/
inductive Alarm
  | none | forced | held
  deriving DecidableEq, Repr

/-- One compartment record (R120). `heldRaised` records that DOOR_HELD was raised for the present run of the held timer
(R139: once for each run). -/
structure CompRec where
  role : CompRole
  cap : Nat
  link : Option CompIx
  latch : Latch
  latchTimer : Option Nat
  hold : Bool
  door : Door
  heldTimer : Option Nat
  heldRaised : Bool
  alarm : Alarm
  outForCount : Option TrayIx
  deriving DecidableEq, Repr

/-- The open range by its two ends (R120, R125); it is empty when `low` is greater than `high`. -/
structure SafeRange where
  low : Nat
  high : Nat
  deriving DecidableEq, Repr

/-- The requests that may wait in the access-waiter list (R129). A post keeps the tray's count number as it stood when
the post was taken (R116). -/
inductive AccessReq
  | startCount (source : SourceArg) (tray : Option TrayIx) (reject : Nat)
  | manualCount (tray : TrayIx) (vec : Counts) (source : SourceArg)
  | postTray (tray : TrayIx) (count : Option CountNumber)
  | transfer (src dst : CompIx) (vec : Counts)
  | adjust (c : CompIx) (vec : Counts)
  | fillBag (bag : BagIx) (c : CompIx) (vec : Counts)
  deriving DecidableEq, Repr

/-- One access waiter (R129); `stamp` as in `FloatWaiter`. Its park kind is WAIT_DESTINATION for a post and WAIT_ACCESS
for the rest. -/
structure AccessWaiter where
  port : Port
  tag : Tag
  req : AccessReq
  ops : List Nat
  reason : AccessReason
  container : Container
  elapsed : Nat
  stamp : Nat
  deriving DecidableEq, Repr

/-- The Safe Unit (R120, R129, R131, R139). `waitInForce` and `heldInForce` are the access wait limit and the door-held limit of
the present second: a new value applies from the next one (R131, R139). -/
structure SafeUnit where
  comps : Vector CompRec 16
  range : SafeRange
  frozen : Bool
  waiters : List AccessWaiter
  waitLimit : Nat
  waitInForce : Nat
  heldLimit : Nat
  heldInForce : Nat
  deriving DecidableEq, Repr

/-! ## Courier Unit -/

/-- Direction of a bag (R144). -/
inductive Direction
  | outbound | inbound
  deriving DecidableEq, Repr

/-- The bag states (R145). -/
inductive BagState
  | free | opened | closed | staged | handed | announced | received | counting | counted
  deriving DecidableEq, Repr

/-- The declaration of an inbound bag (R144). -/
structure Declared where
  vec : Counts
  value : Int
  deriving DecidableEq, Repr

/-- One bag record (R144); the holding is the Custody Store's. -/
structure BagRec where
  dir : Option Direction
  state : BagState
  tag : Option Nat
  location : Option CompIx
  declared : Option Declared
  window : Option WindowIx
  deriving DecidableEq, Repr

/-- The window states (R153). -/
inductive WindowState
  | planned | opened | closed | missed
  deriving DecidableEq, Repr

/-- One window record (R153). -/
structure WindowRec where
  state : WindowState
  badge : Option Nat
  comp : Option CompIx
  staged : List BagIx
  unstagePending : Bool
  deriving DecidableEq, Repr

/-- The handover session (R162): MANIFEST_SENT when `manifestSent`, ARRIVED otherwise. -/
structure Session where
  window : WindowIx
  badge : Nat
  comp : CompIx
  manifestSent : Bool
  checksum : Option (BitVec 16)
  scanned : List BagIx
  errors : Nat
  inbound : List BagIx
  idle : Nat
  deriving DecidableEq, Repr

/-- The Courier Unit (R144, R153, R162). `idleInForce` is the handover idle limit of the present second (R165). -/
structure CourierUnit where
  bags : Vector BagRec 32
  windows : Vector WindowRec 4
  session : Option Session
  idleLimit : Nat
  idleInForce : Nat
  deriving DecidableEq, Repr

/-! ## Port Controllers -/

/-- Link state of a port (R188); `brk` is BREAK. -/
inductive Link
  | brk | quiet | active
  deriving DecidableEq, Repr

/-- State of a request slot (R191). The park reason of a PARKED slot and the tray of a RUNNING slot are held once, by the
waiter or the running count of the slot's port and tag. -/
inductive SlotState
  | free | taken | parked | running | answered
  deriving DecidableEq, Repr

/-- One request slot: its state, and the request code its answer echoes (R191, R205). -/
structure Slot where
  state : SlotState
  code : Nat
  deriving DecidableEq, Repr

/-- One Port Controller (R188); `line` is the frame on the transmit line (R195). -/
structure PortRec where
  link : Link
  slots : Vector Slot 8
  responses : List Frame
  notices : List Notice
  dropped : Bool
  line : Option Frame
  deriving DecidableEq, Repr

/-- One routing table entry (R196). -/
structure Route where
  ports : PortSet
  priority : Nat
  deriving DecidableEq, Repr

/-- The three Port Controllers and the routing table they hold together (R188, R196). -/
structure PortsUnit where
  office : PortRec
  till : PortRec
  courier : PortRec
  routing : Vector Route 26
  deriving DecidableEq, Repr

/-! ## Retention Controller -/

/-- The supply (R209): main good; main lost with the backup domain running; main lost and the backup domain stopped. -/
inductive Supply
  | good | cut | dead
  deriving DecidableEq, Repr

/-- The Retention Controller (R208, R209). `drift` stands for the stored check word: it is the stored word less the word
that R208 computes over the present contents, which every write keeps and a word changed without a write does not. -/
structure Retention where
  suspect : Bool
  drift : BitVec 32
  supply : Supply
  deriving DecidableEq, Repr

/-! ## Inside one event -/

/-- A pass that an event has called for and not yet made: over the count-waiter list (R84), or over the access waiters of
an ended parking condition (R130). -/
inductive Signal
  | countPass
  | sessionPass
  | countOutPass (c : CompIx)
  deriving DecidableEq, Repr

/-- The model's own working notes of the event in progress, empty between events: the passes still to be made, and
whether an owner has reported a change to the Day Unit (R28). -/
structure Scratch where
  signals : List Signal
  reported : Bool
  deriving DecidableEq, Repr

/-- The whole state. `stamp` is the model's own counter of entries into the two waiter lists of R23, `event` the working
notes of the event in progress, and `pending` the commands waiting, first in, first out. -/
structure State where
  store : CustodyStore
  day : DayUnit
  float : FloatUnit
  count : CountUnit
  recon : ReconUnit
  safe : SafeUnit
  courier : CourierUnit
  ports : PortsUnit
  retention : Retention
  stamp : Nat
  event : Scratch
  pending : List Instr
  deriving DecidableEq, Repr

/-- The faults of this machine: none. No rule of the manual stops the part: a request is answered, an event that cannot
arise in the present state changes nothing, and a lost supply is a state. -/
inductive Fault
  deriving DecidableEq, Repr

/-- The refusals of this machine. -/
inductive Refusal
  /-- Raised by `exec` for a command that has no meaning yet; safe. No arm of `exec` raises it now. -/
  | notModelled (mnemonic : String)
  deriving DecidableEq, Repr

/-! ## The state after a cold start -/

/-- An UNUSED denomination entry (R1). -/
def DenomEntry.unused : DenomEntry :=
  { status := .unused, face := none, form := none, pack := none, unitMass := none }

/-- The day totals at OPEN DAY and after a cold start: all zero (R14). -/
def DayTotals.zero : DayTotals :=
  { overTotal := 0, shortTotal := 0, custody := 0, floatCount := 0, floatValue := 0, topupCount := 0, topupValue := 0,
    settled := { balanced := 0, surplus := 0, short := 0, outside := 0, gross := 0 } }

/-- The Custody Store after a cold start (R1, R6, R13, R14, R17, R21, R179). -/
def CustodyStore.cold : CustodyStore :=
  { denoms := Vector.replicate 16 DenomEntry.unused
    tillHold := Vector.replicate 64 Counts.zero
    compHold := Vector.replicate 16 Counts.zero
    trayHold := Vector.replicate 2 Counts.zero
    bagHold := Vector.replicate 32 Counts.zero
    base := Counts.zero, inflow := Counts.zero, outflow := Counts.zero
    totals := DayTotals.zero
    operators := Vector.replicate 32 none
    tillStep := Vector.replicate 64 { flag := false, mark := false }
    compStep := Vector.replicate 16 { flag := false, mark := false }
    journal := { entries := [], nextSeq := 1, held := 0, high := false, full := false } }

/-- The Day Unit after a cold start (R24, R33, R35). -/
def DayUnit.cold : DayUnit :=
  { state := .closed, number := 0, clock := 0, clockLimit := false, limitOwed := false
    plan := Vector.replicate 64 { time := 0, action := .stop }
    planState := .stopped, pointer := 0 }

/-- The empty set of hold reasons. -/
def HoldReasons.empty : HoldReasons :=
  { undeclared := false, pendingPickups := false, outside := false, gross := false, uncertain := false }

/-- A till record after a cold start (R42). -/
def TillRec.cold : TillRec :=
  { state := .idle, session := 0, profile := none, mask := 0, f := 0, topups := 0, signedOff := false
    running := none, final := none, pouches := [], p := 0, limit := 0, cls := 0, armed := true
    hold := HoldReasons.empty, last := none }

/-- An EMPTY float profile (R44). -/
def Profile.empty : Profile :=
  { defined := false, target := 0, template := Counts.zero, mask := 0 }

/-- The Float Unit after a cold start (R42, R44, R51, R53). -/
def FloatUnit.cold : FloatUnit :=
  { tills := Vector.replicate 64 TillRec.cold, profiles := Vector.replicate 8 Profile.empty
    waiters := [], waitLimit := 300, waitInForce := 300, retryDue := 0 }

/-- The flags of a tray with none set (R78). -/
def TrayFlags.clear : TrayFlags :=
  { manual := false, uncertain := 0, saturated := false }

/-- An EMPTY tray after a cold start (R78). -/
def TrayRec.cold : TrayRec :=
  { state := .empty, source := none, prior := Counts.zero, rejects := 0, flags := TrayFlags.clear
    count := none, rejectLimit := 0 }

/-- The Count Unit after a cold start (R69, R78, R85). -/
def CountUnit.cold : CountUnit :=
  { station := .idle, faults := 0, recovered := 0, waiters := [], trays := Vector.replicate 2 TrayRec.cold
    lastCount := none, waitLimit := 900, waitInForce := 900, stepLimit := 90, running := none
    exchange := none, selectWaiting := false }

/-- The Reconciliation Unit after a cold start (R97). -/
def ReconUnit.cold : ReconUnit :=
  { classes := Vector.replicate 4 { a := 0, p := 0 }, drawers := Vector.replicate 64 none
    diffs := Vector.replicate 2 none, pending := Vector.replicate 2 false, autoPost := false, destLimit := 600
    destInForce := 600, fillOps := Vector.replicate 2 [], attemptDue := Vector.replicate 2 false
    reported := Vector.replicate 2 false }

/-- The empty open range. The manual gives an empty range no ends; the model writes it 1 to 0 (DESIGN CHOICE, log 7). -/
def SafeRange.empty : SafeRange :=
  { low := 1, high := 0 }

/-- A compartment record after a cold start, its door as its input shows it (R120, R142). -/
def CompRec.cold (doorOpen : Bool) : CompRec :=
  { role := .general, cap := 0, link := none, latch := .engaged, latchTimer := none, hold := false
    door := if doorOpen then .opened else .closed
    heldTimer := if doorOpen then some 0 else none
    heldRaised := false, alarm := .none, outForCount := none }

/-- The Safe Unit after a cold start (R120, R131, R139, R142). -/
def SafeUnit.cold (doorsOpen : List CompIx) : SafeUnit :=
  { comps := Vector.ofFn fun c => CompRec.cold (doorsOpen.contains c)
    range := SafeRange.empty, frozen := false, waiters := [], waitLimit := 300, waitInForce := 300
    heldLimit := 120, heldInForce := 120 }

/-- A FREE bag record (R144). -/
def BagRec.free : BagRec :=
  { dir := none, state := .free, tag := none, location := none, declared := none, window := none }

/-- The Courier Unit after a cold start (R144, R153, R161, R162). -/
def CourierUnit.cold : CourierUnit :=
  { bags := Vector.replicate 32 BagRec.free
    windows := Vector.replicate 4
      { state := .planned, badge := none, comp := none, staged := [], unstagePending := false }
    session := none, idleLimit := 300, idleInForce := 300 }

/-- A port at power return and after a cold start, before POWER_RETURN is queued (R188, R200). -/
def PortRec.cold (spacing : Bool) : PortRec :=
  { link := if spacing then .brk else .quiet, slots := Vector.replicate 8 { state := .free, code := 0 }
    responses := [], notices := [], dropped := false, line := none }

/-- A routing entry written as port set and priority. -/
def Route.of (office till courier : Bool) (priority : Nat) : Route :=
  { ports := { office, till, courier }, priority }

/-- The default routing table, in the order of `NoticeKind` (R196). -/
def Route.defaults : Vector Route 26 :=
  #v[Route.of true true false 1,   -- PICKUP_DUE
     Route.of true false false 2,  -- RESERVE_LOW
     Route.of true false false 1,  -- COUNT_DONE
     Route.of true false false 2,  -- COUNT_FAULT
     Route.of true false false 3,  -- COUNTER_DOWN
     Route.of true true false 2,   -- TILL_HELD
     Route.of false true false 0,  -- TILL_SETTLED
     Route.of true false false 1,  -- POST_DIVERTED
     Route.of true false false 2,  -- POST_HELD
     Route.of true false true 3,   -- DOOR_FORCED
     Route.of true false false 2,  -- DOOR_HELD
     Route.of true false true 1,   -- WINDOW_OPEN
     Route.of true false true 1,   -- WINDOW_CLOSED
     Route.of true false false 2,  -- WINDOW_MISSED
     Route.of true false true 1,   -- HANDOVER_DONE
     Route.of true false true 2,   -- HANDOVER_ABORTED
     Route.of true false false 2,  -- BADGE_REFUSED
     Route.of true false false 2,  -- JOURNAL_HIGH
     Route.of true true false 3,   -- JOURNAL_FULL
     Route.of true false false 1,  -- AUDIT_STEP
     Route.of true false false 1,  -- VARIANCE_NOTED
     Route.of true false false 1,  -- PLAN_ENTRY_REFUSED
     Route.of true true true 1,    -- DAY_STATE
     Route.of true false false 1,  -- CLOCK_LIMIT
     Route.of true true true 3,    -- POWER_RETURN
     Route.of true false false 3]  -- MEMORY_SUSPECT

/-- The POWER_RETURN notice with content COLD that a cold start leaves first in every queue (R200, R212): raised at day 0
and clock 0, with the default priority 3. COLD is coded 1 (log 6). -/
def Notice.coldStart : Notice :=
  { kind := .powerReturn, subject := .part, priority := 3, day := 0, time := 0, content := [.u8 1] }

/-- A port after a cold start with POWER_RETURN queued (R200). -/
def PortRec.afterCold (spacing : Bool) : PortRec :=
  { PortRec.cold spacing with notices := [Notice.coldStart] }

/-- The whole state after a cold start that found these doors open and these receive lines spacing (R212). -/
def State.cold (doorsOpen : List CompIx) (spacing : List Port) : State :=
  { store := CustodyStore.cold
    day := DayUnit.cold
    float := FloatUnit.cold
    count := CountUnit.cold
    recon := ReconUnit.cold
    safe := SafeUnit.cold doorsOpen
    courier := CourierUnit.cold
    ports :=
      { office := PortRec.afterCold (spacing.contains .office)
        till := PortRec.afterCold (spacing.contains .till)
        courier := PortRec.afterCold (spacing.contains .courier)
        routing := Route.defaults }
    retention := { suspect := false, drift := 0, supply := .good }
    stamp := 0
    event := { signals := [], reported := false }
    pending := [] }

/-- The machine right after reset: a cold start (R212) with every door found closed and every receive line marking. -/
def State.reset : State :=
  State.cold [] []

end Sys2Proof.Machine
end

