-- ==== Sys2Proof/Config.lean ====
section
/-! DEFINITION. What is fixed for this machine: the sizes and marks the manual states, and the one thing it leaves open
that a command's effect depends on, as a constant with no body. -/

namespace Sys2Proof.Machine.Config

/-- Largest count of a holding (R6). -/
def maxCount : Int := 65535

/-- Largest magnitude of a reported value, and largest value of a request's value field (R4). -/
def maxValue : Nat := 999999999

/-- Largest bag tag number and badge number (R144, R153). -/
def maxTagNumber : Nat := 99999999

/-- Last second of the day (R24). -/
def lastSecond : Nat := 86399

/-- Largest step of SET CLOCK while the day is OPEN or CLOSING (R32). -/
def clockStep : Nat := 300

/-- Entries the journal has room for (R179). -/
def journalSize : Nat := 512

/-- Occupancy at which JOURNAL_HIGH is raised (R184). -/
def journalHigh : Nat := 448

/-- Largest sequence number (R179). -/
def maxSeq : Nat := 4294967295

/-- Farthest forward distance at which a number lies beyond the newest entry (R182). -/
def farSeq : Nat := 2147483647

/-- Notices a port's queue holds (R198). -/
def queueSize : Nat := 16

/-- Largest payload of a frame in bytes (R202). -/
def maxPayload : Nat := 240

/-- Bytes of a response payload before its results: tag, code, outcome, detail, part (R202). -/
def responseHead : Nat := 5

/-- Top-ups a session may have (R42). -/
def maxTopups : Nat := 3

/-- Pouches not COUNTED a till may have (R42, R61). -/
def maxOpenPouches : Nat := 4

/-- Pouches a till's list holds (R60). -/
def maxPouches : Nat := 255

/-- Bags a window's staged list holds (R151). -/
def maxStaged : Nat := 16

/-- Bags a session's inbound list holds (R162). -/
def maxInbound : Nat := 8

/-- Scan errors that abort a session (R169). -/
def maxScanErrors : Nat := 3

/-- Seconds of the latch window (R137). -/
def latchWindow : Nat := 30

/-- FREE VALUE (log 2). How the retained items lie in 32-bit words of retained memory, and so what words R208 sums: the
manual gives the sum and not the layout. It is read only for the content of the MEMORY_SUSPECT notice. -/
opaque retainedWords : State → List (BitVec 32)

end Sys2Proof.Machine.Config
end

