-- ==== Sys2Proof/Machine/Codes.lean ====
section
/-! DEFINITION. The codes of the frames: request codes, outcome codes, notice codes and the positions of enumerated
names (R204, R205, R206). -/

namespace Sys2Proof.Machine

/-! ## Request codes (R205, "Request codes") -/

namespace ReqCode

def setDenomination : Nat := 0x01
def setOperator : Nat := 0x02
def setFloatProfile : Nat := 0x03
def setTill : Nat := 0x04
def setToleranceClass : Nat := 0x05
def setLimit : Nat := 0x06
def setCompartment : Nat := 0x07
def setCap : Nat := 0x08
def setWindow : Nat := 0x09
def setAuditStep : Nat := 0x0A
def releaseStep : Nat := 0x0B
def setRouting : Nat := 0x0C
def restoreMemory : Nat := 0x0D
def openDay : Nat := 0x10
def closeDay : Nat := 0x11
def reopen : Nat := 0x12
def setClock : Nat := 0x13
def loadPlanEntry : Nat := 0x14
def holdPlan : Nat := 0x15
def resumePlan : Nat := 0x16
def issueFloat : Nat := 0x20
def requestFloat : Nat := 0x21
def requestTopup : Nat := 0x22
def takingsUpdate : Nat := 0x23
def finalTakings : Nat := 0x24
def requestPickup : Nat := 0x25
def signOff : Nat := 0x26
def withdrawTill : Nat := 0x27
def returnDrawer : Nat := 0x28
def suspendTill : Nat := 0x29
def restoreTill : Nat := 0x2A
def receivePouch : Nat := 0x2B
def startCount : Nat := 0x30
def recount : Nat := 0x31
def manualCount : Nat := 0x32
def restoreCounter : Nat := 0x33
def resetOperations : Nat := 0x34
def postTray : Nat := 0x35
def acceptVariance : Nat := 0x36
def openRange : Nat := 0x40
def lockAll : Nat := 0x41
def freeze : Nat := 0x42
def thaw : Nat := 0x43
def transfer : Nat := 0x44
def adjust : Nat := 0x45
def clearAlarm : Nat := 0x46
def newBag : Nat := 0x50
def fillBag : Nat := 0x51
def closeBag : Nat := 0x52
def reopenBag : Nat := 0x53
def freeBag : Nat := 0x54
def stageBag : Nat := 0x55
def dropBag : Nat := 0x56
def openWindow : Nat := 0x57
def closeWindow : Nat := 0x58
def arrive : Nat := 0x60
def readManifest : Nat := 0x61
def scanBag : Nat := 0x62
def declareInbound : Nat := 0x63
def confirmHandover : Nat := 0x64
def depart : Nat := 0x65
def readJournal : Nat := 0x70
def archive : Nat := 0x71
def readStatus : Nat := 0x80
def withdraw : Nat := 0x81
def readHolding : Nat := 0x82
def readPosition : Nat := 0x83
def readDenominations : Nat := 0x84
def readPlan : Nat := 0x85
def readProfile : Nat := 0x86
def readTill : Nat := 0x87
def readResult : Nat := 0x88
def readTray : Nat := 0x89
def readTolerance : Nat := 0x8A
def readSafe : Nat := 0x8B
def readBag : Nat := 0x8C
def readWindow : Nat := 0x8D
def readSession : Nat := 0x8E
def readRouting : Nat := 0x8F

end ReqCode

/-- The rights table (R192): whether the port may make the request of this code. READ HOLDING is granted to the Till Port
here, and its container is checked by `holdingGranted`. -/
def granted (code : Nat) (p : Port) : Bool :=
  match p with
  | .office =>
    decide (code ≤ 0x20) || code == ReqCode.requestTopup
      || (decide (ReqCode.returnDrawer ≤ code) && decide (code ≤ ReqCode.closeWindow))
      || (decide (ReqCode.readJournal ≤ code) && decide (code ≤ ReqCode.readRouting))
  | .till =>
    (decide (ReqCode.requestFloat ≤ code) && decide (code ≤ ReqCode.withdrawTill))
      || [ReqCode.readStatus, ReqCode.withdraw, ReqCode.readHolding, ReqCode.readTill, ReqCode.readResult].contains code
  | .courier =>
    (decide (ReqCode.arrive ≤ code) && decide (code ≤ ReqCode.depart))
      || [ReqCode.readStatus, ReqCode.withdraw, ReqCode.readWindow, ReqCode.readSession].contains code

/-! ## Enumerated names: the position of a name in its record's list, counting from 0 (R204) -/

/-- The code of a name: its position in its list. -/
def position {α : Type} [DecidableEq α] (names : List α) (a : α) : Nat :=
  names.idxOf a

/-- The name at a position, or a code outside the list. -/
def atPosition {α : Type} (names : List α) (n : Nat) : Coded α :=
  match names[n]? with
  | some a => .ok a
  | none => .bad

def denomStatusNames : List DenomStatus := [.unused, .active, .retired]
def formNames : List Form := [.note, .coin]
def opRoleNames : List OpRole := [.clerk, .supervisor, .manager]
def standingNames : List Standing := [.active, .suspended]
def compRoleNames : List CompRole := [.floatReserve, .takings, .changeFund, .outbound, .general]
def limitNames : List Limit :=
  [.floatWait, .accessWait, .counterWait, .destinationWait, .counterStep, .doorHeld, .handoverIdle, .autoPost]
def noticeKindNames : List NoticeKind :=
  [.pickupDue, .reserveLow, .countDone, .countFault, .counterDown, .tillHeld, .tillSettled, .postDiverted,
   .postHeld, .doorForced, .doorHeld, .windowOpen, .windowClosed, .windowMissed, .handoverDone,
   .handoverAborted, .badgeRefused, .journalHigh, .journalFull, .auditStep, .varianceNoted,
   .planEntryRefused, .dayState, .clockLimit, .powerReturn, .memorySuspect]
def dayStateNames : List DayState := [.closed, .opened, .closing]
def planStateNames : List PlanState := [.stopped, .running, .held, .ended]
def tillStateNames : List TillState := [.idle, .trading, .returned, .counting, .held, .suspended]
def pouchStateNames : List PouchState := [.outstanding, .received, .counting, .counted]
def classNames : List DrawerClass := [.balanced, .surplus, .short, .outside, .gross]
def stationNames : List StationState := [.idle, .running, .collecting, .down]
def trayStateNames : List TrayState := [.empty, .counting, .counted, .invalid]
def latchNames : List Latch := [.engaged, .released]
def doorNames : List Door := [.closed, .opened]
def alarmNames : List Alarm := [.none, .forced, .held]
def directionNames : List Direction := [.outbound, .inbound]
def bagStateNames : List BagState :=
  [.free, .opened, .closed, .staged, .handed, .announced, .received, .counting, .counted]
def windowStateNames : List WindowState := [.planned, .opened, .closed, .missed]
def accessReasonNames : List AccessReason := [.session, .countOut, .audit]
def slotStateNames : List SlotState := [.free, .taken, .parked, .running, .answered]

/-- Place of a notice kind in the routing table (R196). -/
def kindIx (k : NoticeKind) : Fin 26 :=
  ⟨noticeKindNames.idxOf k, by cases k <;> decide⟩

/-- Code of a notice: the codes run from 0x01 in the order of the routing table (R206). -/
def noticeCode (k : NoticeKind) : Nat := (kindIx k).1 + 1

/-- Outcome code (R205, "Outcome codes"). -/
def outcomeCode : Code → Nat
  | .ok => 0x00
  | .badOperand => 0x01
  | .badState => 0x02
  | .notPermitted => 0x03
  | .tagInUse => 0x04
  | .operatorRefused => 0x05
  | .dualRequired => 0x06
  | .operatorLimit => 0x07
  | .memorySuspect => 0x08
  | .dayNotOpen => 0x09
  | .dayClosing => 0x0A
  | .journalFull => 0x0C
  | .countRange => 0x0D
  | .overCap => 0x0E
  | .locked => 0x0F
  | .frozen => 0x10
  | .alarmed => 0x11
  | .profileMismatch => 0x13
  | .topupLimit => 0x14
  | .pouchLimit => 0x15
  | .counterDown => 0x16
  | .trayInvalid => 0x17
  | .planBusy => 0x18
  | .planOrder => 0x19
  | .bagLimit => 0x1A
  | .windowNotOpen => 0x1B
  | .sessionBusy => 0x1C
  | .badgeMismatch => 0x1D
  | .noSession => 0x1E
  | .unknownTag => 0x1F
  | .checksumMismatch => 0x20
  | .incomplete => 0x21
  | .expired => 0x22
  | .withdrawn => 0x23
  | .countFault => 0x24

/-- Why a count failed (R74 to R76); the detail codes of COUNT_FAULT run in this order from 1 (R205). -/
inductive FaultReason
  | jam | rejectLimit | feedFault | scaleFault | noResponse | linkFault
  deriving DecidableEq, Repr

def faultReasonNames : List FaultReason := [.jam, .rejectLimit, .feedFault, .scaleFault, .noResponse, .linkFault]

/-- Detail code of COUNT_FAULT (R205). -/
def faultDetail (r : FaultReason) : Nat := position faultReasonNames r + 1

/-- Whether the reason is a machine fault; the others are operator stops (R76). -/
def machineFault : FaultReason → Bool
  | .jam | .rejectLimit => false
  | .feedFault | .scaleFault | .noResponse | .linkFault => true

/-- The reasons of EXPIRED and their detail codes (R205). -/
def expiredStock : Nat := 1
def expiredAccess : Nat := 2
def expiredCounter : Nat := 3
def expiredTray : Nat := 4
def expiredDestination : Nat := 5

/-- Why a handover session was aborted (R173). -/
inductive AbortCause
  | depart | idle | scanErrors | linkReset | powerReturn
  deriving DecidableEq, Repr

def abortCauseNames : List AbortCause := [.depart, .idle, .scanErrors, .linkReset, .powerReturn]

/-- Code of a port in a journal entry (R205). -/
def portCode : Port → Nat
  | .office => 1
  | .till => 2
  | .courier => 3

/-- Code of a movement kind in a journal entry (R205). -/
def moveKindCode : MoveKind → Nat
  | .issue => 1
  | .topup => 2
  | .countOut => 3
  | .countResult => 4
  | .post => 5
  | .transfer => 6
  | .adjust => 7
  | .bagFill => 8
  | .handoverOut => 9
  | .receiveIn => 10

/-- Kind and index bytes of a container field (R204). -/
def containerCode : Option Container → Nat × Nat
  | none => (0, 0)
  | some (.till i) => (1, i.1)
  | some (.comp i) => (2, i.1)
  | some (.tray i) => (3, i.1)
  | some (.bag i) => (4, i.1)

/-- Subject kind and index bytes of a notice frame (R206). -/
def subjectCode : Subject → Nat × Nat
  | .till i => (1, i.1)
  | .comp i => (2, i.1)
  | .tray i => (3, i.1)
  | .bag i => (4, i.1)
  | .window i => (5, i.1)
  | .planEntry i => (6, i.1)
  | .journal => (7, 0)
  | .day => (8, 0)
  | .station => (9, 0)
  | .part => (10, 0)

/-- The number that has bit `n` set for each name of the list whose Bool is true, from bit 0 (R204, sets of names). -/
def bitSet : List Bool → Nat
  | [] => 0
  | b :: bs => (if b then 1 else 0) + 2 * bitSet bs

end Sys2Proof.Machine
end

