-- ==== Sys2Proof/Machine/Wire.lean ====
section
/-! DEFINITION. Bytes on a link: multi-byte numbers, most significant byte first (R202), the CRC of R203, and the frame
form of R202 and R207. -/

namespace Sys2Proof.Machine

/-- The low byte of a number. -/
def byteOf (n : Nat) : Byte := BitVec.ofNat 8 n

/-- A number in two bytes, most significant first (R202). -/
def bytes2 (n : Nat) : List Byte := [byteOf (n / 256), byteOf n]

/-- A number in four bytes, most significant first (R202). -/
def bytes4 (n : Nat) : List Byte :=
  [byteOf (n / 16777216), byteOf (n / 65536), byteOf (n / 256), byteOf n]

/-- The number a run of bytes spells, most significant first (R202). -/
def numberOf (bs : List Byte) : Nat :=
  bs.foldl (fun acc b => acc * 256 + b.toNat) 0

/-- One shift of the CRC register (R203): left one bit, with 0x1021 combined in where the bit shifted out was 1. -/
def crcShift (r : BitVec 16) : BitVec 16 :=
  if r.msb then (r <<< 1) ^^^ 0x1021#16 else r <<< 1

/-- One byte taken into the CRC register: exclusive-or into the upper eight bits, then eight shifts (R203). -/
def crcByte (r : BitVec 16) (b : Byte) : BitVec 16 :=
  (List.range 8).foldl (fun r _ => crcShift r) (r ^^^ (b.setWidth 16 <<< 8))

/-- The CRC of a run of bytes, from 0xFFFF (R203). -/
def crc (bs : List Byte) : BitVec 16 :=
  bs.foldl crcByte 0xFFFF#16

/-- A frame or block with this type byte and payload: type, length, payload, CRC high byte first (R202, R207). -/
def frameOf (type : Nat) (payload : List Byte) : List Byte :=
  let covered := byteOf type :: byteOf payload.length :: payload
  covered ++ bytes2 (crc covered).toNat

/-- The payload of a received frame of the given type byte whose length byte and CRC agree, or nothing (R203, R207). -/
def payloadOf? (type : Nat) (bs : List Byte) : Option (List Byte) :=
  match bs with
  | t :: len :: rest =>
    let payload := rest.take len.toNat
    if t = byteOf type ∧ rest.length = len.toNat + 2 ∧
        rest.drop len.toNat = bytes2 (crc (t :: len :: payload)).toNat then
      some payload
    else none
  | _ => none

end Sys2Proof.Machine
end

