-- ==== Sys2Proof/Decode.lean ====
section
/-! DEFINITION. From bits to commands. spec/opcode_table.json gives no row any bits, so `decodeTableWord` spells none. The manual
does give the bytes of a request frame (R189, R202 to R205), and `frameCommand` reads them: which command a frame received on a
port is. It is total, and rejects by name: a frame to be discarded with its cause, a malformed tag, an unknown or short request. -/

namespace Sys2Proof

/-- The command a table word spells: none, since no row of the table gives bits. -/
def decodeTableWord (_nbits _w : Nat) : Option Instr := none

namespace Machine

/-! ## Reading the fields of a payload (R204) -/

/-- A reader of fields: it takes bytes from the front, and fails where the payload ends before the field does. -/
abbrev Reader (α : Type) := StateT (List Byte) Option α

/-- The next `n` bytes as a number, most significant first. -/
def numberField (n : Nat) : Reader Nat := fun bs =>
  if bs.length < n then none else some (numberOf (bs.take n), bs.drop n)

/-- A number of `n` bytes where the payload still has them, else 0: an operator number the request need not carry. -/
def numberOrZero (n : Nat) : Reader Nat := fun bs =>
  if bs.length < n then some (0, bs) else some (numberOf (bs.take n), bs.drop n)

/-- An enumerated field (R204). -/
def nameField {α : Type} (names : List α) : Reader (Coded α) := do
  return atPosition names (← numberField 1)

/-- An optional field: a presence byte of 0 or 1, then the field (R204). After another presence byte the next field begins at
the next byte (DESIGN CHOICE, log 36). -/
def optionalField {α : Type} (field : Reader α) : Reader (Coded (Option α)) := do
  match ← numberField 1 with
  | 0 => return .ok none
  | 1 => return .ok (some (← field))
  | _ => return .bad

/-- The items of an item list: index byte and count, as they stand. -/
def itemReader : Nat → Reader (List (Nat × Nat))
  | 0 => return []
  | n + 1 => do
    let index ← numberField 1
    let count ← numberField 2
    return (index, count) :: (← itemReader n)

/-- The index of an item: the bits below the sign bit. An index above 15 stands outside the list (R204). -/
def itemIndex (p : Nat × Nat) : Nat := p.1 % 128

/-- The signed count of an item; a negative zero is 0 (R204). -/
def itemCount (p : Nat × Nat) : Int := if 128 ≤ p.1 then -(p.2 : Int) else p.2

/-- Indices strictly ascending, each 0 to 15 (R204). -/
def itemsOrdered : List (Nat × Nat) → Bool
  | [] => true
  | [p] => decide (itemIndex p < 16)
  | p :: q :: ps => decide (itemIndex p < itemIndex q) && itemsOrdered (q :: ps)

/-- A vector from a well-formed item list. -/
def vectorOf (items : List (Nat × Nat)) : Counts :=
  Vector.ofFn fun i : Fin 16 =>
    ((items.find? fun p => itemIndex p == i.1).map itemCount).getD 0

/-- A vector field: an item list of 0 to 16 items in order, or a list that breaks R204. -/
def vectorField : Reader (Coded Counts) := do
  let n ← numberField 1
  let items ← itemReader n
  return if n ≤ 16 && itemsOrdered items then .ok (vectorOf items) else .bad

/-- A container field that must name a container (R204). -/
def containerField : Reader (Coded Container) := do
  let kind ← numberField 1
  let index ← numberField 1
  let made : Option Container := match kind with
    | 1 => (index? 64 index).map .till
    | 2 => (index? 16 index).map .comp
    | 3 => (index? 2 index).map .tray
    | 4 => (index? 32 index).map .bag
    | _ => none
  return match made with
    | some c => .ok c
    | none => .bad

/-- A count source as a request names it (R204). After a kind outside the list the next field begins at the next byte (DESIGN
CHOICE, log 36). -/
def sourceField : Reader (Coded SourceArg) := do
  match ← numberField 1 with
  | 0 => return .ok (.drawer (← numberField 1))
  | 1 => do
    let till ← numberField 1
    return .ok (.pouch till (← numberField 1))
  | 2 => return .ok (.inbound (← numberField 1))
  | 3 => return .ok (.compartment (← numberField 1))
  | 4 => return .ok .loose
  | _ => return .bad

/-- An optional source field. -/
def optionalSource : Reader (Coded (Option SourceArg)) := do
  match ← optionalField sourceField with
  | .ok none => return .ok none
  | .ok (some (.ok s)) => return .ok (some s)
  | .ok (some .bad) => return .bad
  | .bad => return .bad

/-- A set of ports: bit 0 Office, 1 Till, 2 Courier; a higher bit names a port outside the three (R197, R204). -/
def portsField : Reader (Coded PortSet) := do
  let n ← numberField 1
  return if n < 8 then
    .ok { office := n.testBit 0, till := n.testBit 1, courier := n.testBit 2 }
  else .bad

/-- A notice kind by its code of R206. -/
def kindField : Reader (Coded NoticeKind) := do
  let n ← numberField 1
  return if n = 0 then .bad else atPosition noticeKindNames (n - 1)

/-- The role byte of SET OPERATOR: REMOVE is coded 3 (R204). -/
def roleNames : List RoleArg := [.role .clerk, .role .supervisor, .role .manager, .remove]

/-- The fields of a denomination after its status: those the status needs (R2); none after a status outside its list, and no unit
mass after a form outside its list (DESIGN CHOICE, log 36). -/
def denomReader (status : Coded DenomStatus) : Reader (Nat × Coded Form × Nat × Nat) := do
  match status with
  | .bad => return (0, .bad, 0, 0)
  | .ok .unused => return (0, .bad, 0, 0)
  | .ok .active | .ok .retired => do
    let face ← numberField 2
    let form ← nameField formNames
    let pack ← numberField 2
    let mass ← match form with
      | .ok .coin => numberField 2
      | .ok .note | .bad => pure 0
    return (face, form, pack, mass)

/-- The target, template and mask that SET FLOAT PROFILE carries where it does not carry EMPTY (R44). -/
def profileReader : Reader ProfileArg := do
  let target ← numberField 4
  let template ← vectorField
  let mask ← numberField 2
  return { target, template, mask := BitVec.ofNat 16 mask }

/-- A plan action with its arguments (R33, R34); none after a code outside the table (DESIGN CHOICE, log 36). -/
def actionReader : Reader (Coded PlanArg) := do
  match ← numberField 1 with
  | 0 => return .ok (.windowOpen (← numberField 1))
  | 1 => return .ok (.windowClose (← numberField 1))
  | 2 => do
    let low ← numberField 1
    return .ok (.openRange low (← numberField 1))
  | 3 => return .ok .lockAll
  | 4 => return .ok .freeze
  | 5 => return .ok .pickupRound
  | 6 => return .ok .stop
  | _ => return .bad

/-! ## Requests (R202, R205) -/

/-- What a request of level 0 carries beside its fields. -/
def plain (p : Port) (tag : Tag) : Req := { port := p, tag, op1 := 0, op2 := 0 }

/-- One operator number after the fields, and a second where the frame carries it (R19). -/
def withOne (p : Port) (tag : Tag) : Reader Req := do
  let op1 ← numberField 2
  return { port := p, tag, op1, op2 := ← numberOrZero 2 }

/-- Two operator numbers after the fields (R18). -/
def withTwo (p : Port) (tag : Tag) : Reader Req := do
  let op1 ← numberField 2
  return { port := p, tag, op1, op2 := ← numberField 2 }

/-- The configuration requests, 0x01 to 0x0D. SET FLOAT PROFILE is read as one presence byte after the index, 0 for the word EMPTY and
1 for a target, a template and a mask that follow it: R44 and R204 give the word EMPTY no code and call no field of the request
optional (DESIGN CHOICE, log 35). -/
def readSetup (p : Port) (tag : Tag) (code : Nat) : Reader Instr := do
  let h := plain p tag
  match code with
  | 0x01 => do
    let index ← numberField 1
    let status ← nameField denomStatusNames
    let (face, form, pack, mass) ← denomReader status
    return .setDenomination h index status face form pack mass
  | 0x02 => do
    let number ← numberField 2
    let role ← nameField roleNames
    return .setOperator h number role (← nameField standingNames)
  | 0x03 => do
    let index ← numberField 1
    return .setFloatProfile h index (← optionalField profileReader)
  | 0x04 => do
    let till ← numberField 1
    let limit ← numberField 4
    return .setTill h till limit (← numberField 1)
  | 0x05 => do
    let cls ← numberField 1
    let a ← numberField 4
    return .setToleranceClass h cls a (← numberField 2)
  | 0x06 => do
    let limit ← nameField limitNames
    return .setLimit h limit (← numberField 4)
  | 0x07 => do
    let comp ← numberField 1
    let role ← nameField compRoleNames
    return .setCompartment h comp role (← optionalField (numberField 1))
  | 0x08 => do
    let comp ← numberField 1
    return .setCap h comp (← numberField 4)
  | 0x09 => do
    let window ← numberField 1
    let badge ← optionalField (numberField 4)
    return .setWindow h window badge (← optionalField (numberField 1))
  | 0x0A => do
    let container ← containerField
    return .setAuditStep h container (← nameField [false, true])
  | 0x0B => return .releaseStep h (← containerField)
  | 0x0C => do
    let kind ← kindField
    let ports ← portsField
    return .setRouting h kind ports (← numberField 1)
  | 0x0D => return .restoreMemory (← withTwo p tag)
  | _ => failure

/-- The day, plan and till requests, 0x10 to 0x2B. -/
def readDayTill (p : Port) (tag : Tag) (code : Nat) : Reader Instr := do
  let h := plain p tag
  match code with
  | 0x10 => return .openDay h
  | 0x11 => return .closeDay h
  | 0x12 => return .reopen h
  | 0x13 => return .setClock h (← numberField 4)
  | 0x14 => do
    let index ← numberField 1
    let time ← numberField 4
    return .loadPlanEntry h index time (← actionReader)
  | 0x15 => return .holdPlan h
  | 0x16 => return .resumePlan h
  | 0x20 => do
    let till ← numberField 1
    let profile ← numberField 1
    return .issueFloat (← withOne p tag) till profile
  | 0x21 => do
    let till ← numberField 1
    return .requestFloat h till (← numberField 1)
  | 0x22 => do
    let till ← numberField 1
    let value ← numberField 4
    match p with
    | .office => return .requestTopup (← withOne p tag) till value
    | .till | .courier => return .requestTopup h till value
  | 0x23 => do
    let till ← numberField 1
    return .takingsUpdate h till (← numberField 4)
  | 0x24 => do
    let till ← numberField 1
    return .finalTakings h till (← numberField 4)
  | 0x25 => do
    let till ← numberField 1
    return .requestPickup h till (← numberField 4)
  | 0x26 => return .signOff h (← numberField 1)
  | 0x27 => return .withdrawTill h (← numberField 1)
  | 0x28 => return .returnDrawer h (← numberField 1)
  | 0x29 => return .suspendTill h (← numberField 1)
  | 0x2A => return .restoreTill h (← numberField 1)
  | 0x2B => do
    let till ← numberField 1
    return .receivePouch h till (← numberField 1)
  | _ => failure

/-- The counting and safe requests, 0x30 to 0x46. -/
def readCountSafe (p : Port) (tag : Tag) (code : Nat) : Reader Instr := do
  let h := plain p tag
  match code with
  | 0x30 => do
    let source ← sourceField
    let tray ← optionalField (numberField 1)
    let reject ← numberField 1
    return .startCount (← withOne p tag) source tray reject
  | 0x31 => do
    let tray ← numberField 1
    let reject ← numberField 1
    return .recount (← withOne p tag) tray reject
  | 0x32 => do
    let tray ← numberField 1
    let vec ← vectorField
    let source ← optionalSource
    return .manualCount (← withTwo p tag) tray vec source
  | 0x33 => return .restoreCounter (← withOne p tag)
  | 0x34 => return .resetOperations h
  | 0x35 => do
    let tray ← numberField 1
    return .postTray (← withOne p tag) tray
  | 0x36 => do
    let till ← numberField 1
    return .acceptVariance (← withOne p tag) till
  | 0x40 => do
    let low ← numberField 1
    return .openRange h low (← numberField 1)
  | 0x41 => return .lockAll h
  | 0x42 => return .freeze h
  | 0x43 => return .thaw (← withTwo p tag)
  | 0x44 => do
    let src ← numberField 1
    let dst ← numberField 1
    let vec ← vectorField
    return .transfer (← withOne p tag) src dst vec
  | 0x45 => do
    let comp ← numberField 1
    let vec ← vectorField
    return .adjust (← withTwo p tag) comp vec
  | 0x46 => do
    let comp ← numberField 1
    return .clearAlarm (← withTwo p tag) comp
  | _ => failure

/-- The bag, window, session and journal requests, 0x50 to 0x71. -/
def readCourier (p : Port) (tag : Tag) (code : Nat) : Reader Instr := do
  let h := plain p tag
  match code with
  | 0x50 => return .newBag h (← numberField 1)
  | 0x51 => do
    let bag ← numberField 1
    let comp ← numberField 1
    let vec ← vectorField
    return .fillBag (← withOne p tag) bag comp vec
  | 0x52 => do
    let bag ← numberField 1
    return .closeBag h bag (← numberField 4)
  | 0x53 => return .reopenBag h (← numberField 1)
  | 0x54 => return .freeBag h (← numberField 1)
  | 0x55 => do
    let bag ← numberField 1
    return .stageBag h bag (← numberField 1)
  | 0x56 => return .dropBag h (← numberField 1)
  | 0x57 => return .openWindow h (← numberField 1)
  | 0x58 => return .closeWindow h (← numberField 1)
  | 0x60 => do
    let window ← numberField 1
    return .arrive h window (← numberField 4)
  | 0x61 => return .readManifest h
  | 0x62 => return .scanBag h (← numberField 4)
  | 0x63 => do
    let tagNumber ← numberField 4
    return .declareInbound h tagNumber (← vectorField)
  | 0x64 => return .confirmHandover h (BitVec.ofNat 16 (← numberField 2))
  | 0x65 => return .depart h
  | 0x70 => do
    let start ← numberField 4
    return .readJournal h start (← numberField 2)
  | 0x71 => return .archive h (← numberField 4)
  | _ => failure

/-- The status, withdrawal and read requests, 0x80 to 0x8F. -/
def readReads (p : Port) (tag : Tag) (code : Nat) : Reader Instr := do
  let h := plain p tag
  match code with
  | 0x80 => return .readStatus h
  | 0x81 => return .withdraw h (BitVec.ofNat 8 (← numberField 1))
  | 0x82 => return .readHolding h (← containerField)
  | 0x83 => return .readPosition h
  | 0x84 => return .readDenominations h
  | 0x85 => return .readPlan h
  | 0x86 => return .readProfile h (← numberField 1)
  | 0x87 => return .readTill h (← numberField 1)
  | 0x88 => return .readResult h (← numberField 1)
  | 0x89 => return .readTray h (← numberField 1)
  | 0x8A => return .readTolerance h
  | 0x8B => return .readSafe h
  | 0x8C => return .readBag h (← numberField 1)
  | 0x8D => return .readWindow h (← numberField 1)
  | 0x8E => return .readSession h
  | 0x8F => return .readRouting h
  | _ => failure

/-- The request of a code, from the fields that follow it; bytes after the last field are disregarded (R204). -/
def readRequest (p : Port) (tag : Tag) (code : Nat) : Reader Instr :=
  if code < 0x10 then readSetup p tag code
  else if code < 0x30 then readDayTill p tag code
  else if code < 0x50 then readCountSafe p tag code
  else if code < 0x80 then readCourier p tag code
  else readReads p tag code

/-- The command of a well-formed frame's payload: tag, request code, fields. -/
def payloadCommand (p : Port) (payload : List Byte) : Instr :=
  match payload with
  | tag :: code :: fields =>
    match index? 8 tag.toNat with
    | none => .badTagFrame p tag.toNat code.toNat
    | some t =>
      match (readRequest p t code.toNat).run fields with
      | some (i, _) => i
      | none => .unknownRequestCode p t code.toNat
  | _ => .frameDiscarded p .payload

/-- The command a frame received on a port is (R189, R202). A gap between its bytes is no matter of its bytes, and reaches the
machine as FRAME DISCARDED with that cause. -/
def frameCommand (p : Port) (frame : List Byte) : Instr :=
  match frame with
  | t :: len :: _ =>
    if t ≠ 0xA1#8 then .frameDiscarded p .type
    else if Config.maxPayload < len.toNat then .frameDiscarded p .length
    else match payloadOf? 0xA1 frame with
      | some payload => payloadCommand p payload
      | none => .frameDiscarded p .crc
  | _ => .frameDiscarded p .type

end Machine

end Sys2Proof
end

