-- ==== Sys2Proof/Machine/Encoding.lean ====
section
/-! DEFINITION. The bytes of what the part sends: fields, journal entries, responses and their parts, REJECT and notice
frames, and the command blocks of the Counter Link (R4, R202 to R207). -/

namespace Sys2Proof.Machine

/-! ## Fields (R204) -/

/-- The nonzero counts of a vector with their indices, in index order (R11). -/
def itemsOf (v : Counts) : List (DenomIx × Int) :=
  ((List.finRange 16).map fun i => (i, look v i)).filter fun p => decide (p.2 ≠ 0)

/-- An item list: the item count, then for each item the index with bit 7 for a negative count, and the magnitude of the
count in two bytes (R204). -/
def itemBytes (items : List (DenomIx × Int)) : List Byte :=
  byteOf items.length ::
    items.flatMap fun p => byteOf (p.1.1 + if p.2 < 0 then 128 else 0) :: bytes2 p.2.natAbs

/-- An unsigned value field: the nearest end of 0..999,999,999 with bit 31 set where the exact value lies outside
(R4, R204). -/
def valueBytes (v : Int) : List Byte :=
  if v < 0 then bytes4 0x80000000
  else if (Config.maxValue : Int) < v then bytes4 (0x80000000 + Config.maxValue)
  else bytes4 v.toNat

/-- A signed value field, with bit 30 as the sign (R4, R204). -/
def signedBytes (v : Int) : List Byte :=
  let wide := Config.maxValue < v.natAbs
  let magnitude := if wide then Config.maxValue else v.natAbs
  bytes4 ((if wide then 0x80000000 else 0) + (if v < 0 then 0x40000000 else 0) + magnitude)

/-- The bytes of a field (R204). -/
def fieldBytes : Field → List Byte
  | .u8 n => [byteOf n]
  | .u16 n => bytes2 n
  | .u32 n => bytes4 n
  | .value v => valueBytes v
  | .signed v => signedBytes v
  | .items v => itemBytes (itemsOf v)
  | .container c => [byteOf (containerCode c).1, byteOf (containerCode c).2]

/-- How many bytes a field takes (R204). -/
def fieldSize : Field → Nat
  | .u8 _ => 1
  | .u16 _ => 2
  | .u32 _ => 4
  | .value _ => 4
  | .signed _ => 4
  | .items v => 1 + 3 * (itemsOf v).length
  | .container _ => 2

/-- The bytes of a run of fields, in order. -/
def fieldsBytes (fs : List Field) : List Byte := fs.flatMap fieldBytes

/-- How many bytes a run of fields takes. -/
def fieldsSize (fs : List Field) : Nat := (fs.map fieldSize).sum

/-- An optional field: a presence byte, then the field where it is present (R204). -/
def optional (o : Option (List Field)) : List Field :=
  match o with
  | none => [.u8 0]
  | some fs => .u8 1 :: fs

/-- A list of records in an answer: how many, then each in order. The manual gives such lists no count field of its own;
one byte before the list is the model's convention (DESIGN CHOICE, log 6). -/
def listed {α : Type} (f : α → List Field) (l : List α) : List Field :=
  .u8 l.length :: l.flatMap f

/-! ## Responses (R205) -/

/-- Bytes of results that one response frame carries: a payload of 240 less the five bytes before the results. -/
def partSize : Nat := Config.maxPayload - Config.responseHead

/-- How many frames the answer takes: one, or as many as its results need (R205). -/
def partCount (r : Response) : Nat :=
  max 1 ((fieldsSize r.results + partSize - 1) / partSize)

/-- The frames of one answer, together and in order (R205). -/
def framesOf (r : Response) : List Frame :=
  (List.range (partCount r)).map fun k => Frame.response r k

/-- Whether this is the last frame of its answer (R205). -/
def lastPart (r : Response) (k : Nat) : Bool := decide (k + 1 = partCount r)

/-- The part byte: the frame's number in bits 6 to 0, bit 7 set on every frame but the last (R205). -/
def partByte (r : Response) (k : Nat) : Nat := k % 128 + if lastPart r k then 0 else 128

/-- The bytes of a frame on the transmit line (R202, R205, R206). -/
def frameBytes : Frame → List Byte
  | .response r k =>
    frameOf 0xA2 ([byteOf r.tag, byteOf r.code, byteOf (outcomeCode r.outcome), byteOf r.detail,
        byteOf (partByte r k)] ++ ((fieldsBytes r.results).drop (k * partSize)).take partSize)
  | .reject tag => frameOf 0xA3 [byteOf tag.1, byteOf (outcomeCode .tagInUse)]
  | .notice n dropped =>
    frameOf 0xA4 ([byteOf (noticeCode n.kind), byteOf n.priority, byteOf (if dropped then 1 else 0),
        byteOf (subjectCode n.subject).1, byteOf (subjectCode n.subject).2] ++ bytes2 n.day ++ bytes4 n.time
        ++ fieldsBytes n.content)

/-- The command block of the Counter Link (R207). -/
def commandBytes : LinkCommand → List Byte
  | .select => frameOf 0xC1 []
  | .setUp tray mask reject => frameOf 0xC2 ([byteOf tray.1] ++ bytes2 mask.toNat ++ [byteOf reject])
  | .status => frameOf 0xC3 []
  | .result => frameOf 0xC4 []
  | .abandon => frameOf 0xC5 []

/-! ## Journal entries (R205) -/

/-- The flags byte of a journal entry (R205). -/
def entryFlags (e : JournalEntry) : Nat :=
  bitSet [e.flags.manual, e.flags.diverted, e.flags.uncertain, e.flags.saturated, e.audit]

/-- The item vector of an entry, from its item list. -/
def entryVector (e : JournalEntry) : Counts :=
  e.items.foldl (fun v p => put v p.1 p.2) Counts.zero

/-- The layout of one entry in a READ JOURNAL answer (R205). -/
def entryFields (e : JournalEntry) : List Field :=
  [.u32 e.seq, .u16 e.day, .u32 e.time, .u8 (moveKindCode e.kind), .container e.src, .container e.dst,
   if e.kind = .adjust then .signed e.value else .value e.value,
   .u8 (portCode e.port), .u16 (e.ops[0]?.getD 0), .u16 (e.ops[1]?.getD 0), .u8 (entryFlags e),
   .items (entryVector e)]

end Sys2Proof.Machine
end

