-- ==== Sys2Proof/Machine/Flags.lean ====
section
/-! DEFINITION. Every mark, flag and class that is computed from numbers: coin conversion and its uncertainty (R86, R87),
the drawer's class (R101, R102), hold reasons (R99, R103), the pickup arming rule (R57, R58) and the placing of sequence
numbers (R182). -/

namespace Sys2Proof.Machine

/-! ## Coin conversion (R86, R87) -/

/-- One converted index: the count taken, whether it saturated, whether it is uncertain. -/
structure Converted where
  count : Int
  saturated : Bool
  uncertain : Bool
  deriving DecidableEq, Repr

/-- Conversion of a weight `w` by a unit mass `m` (R86): rounded half up, saturated at 65,535, uncertain when four times the
remainder's magnitude is above the unit mass. -/
def convertCoin (w m : Nat) : Converted :=
  let n := (w + m / 2) / m
  if 65535 < n then { count := Config.maxCount, saturated := true, uncertain := false }
  else
    let r : Int := w - n * m
    { count := n, saturated := false, uncertain := decide (m < 4 * r.natAbs) }

/-- A note count, saturated at 65,535 (R87). -/
def convertNote (n : Nat) : Converted :=
  if 65535 < n then { count := Config.maxCount, saturated := true, uncertain := false }
  else { count := n, saturated := false, uncertain := false }

/-! ## The drawer (R101 to R103) -/

/-- The allowance L = A + floor(p × D final / 10,000) (R101). -/
def allowance (c : TolClass) (final : Nat) : Int := c.a + (c.p * final / 10000 : Nat)

/-- The class of a variance W against an allowance L (R102). -/
def classify (w l : Int) : DrawerClass :=
  if w = 0 then .balanced
  else if |w| ≤ l then (if 0 < w then .surplus else .short)
  else if |w| ≤ 4 * l then .outside
  else .gross

/-- OUTSIDE or GROSS: beyond the allowance (R102). -/
def beyond : DrawerClass → Bool
  | .balanced | .surplus | .short => false
  | .outside | .gross => true

/-- The hold reasons a computation gives, or none where the session settles (R103). -/
def holdOf (cls : DrawerClass) (doubtful : Bool) : HoldReasons :=
  { undeclared := false, pendingPickups := false
    outside := cls == .outside, gross := cls == .gross, uncertain := doubtful }

/-- A waiting reason, UNDECLARED or PENDING_PICKUPS, is among the reasons (R99). -/
def waiting (h : HoldReasons) : Bool := h.undeclared || h.pendingPickups

/-- The hold reasons as a set of names (R42, R204). -/
def holdBits (h : HoldReasons) : Nat :=
  bitSet [h.undeclared, h.pendingPickups, h.outside, h.gross, h.uncertain]

/-- UNCERTAIN is set when the list of uncertain indices is not empty (R87). -/
def trayUncertain (f : TrayFlags) : Bool := decide (f.uncertain ≠ 0)

/-- The flags of a tray as a set of names: MANUAL, UNCERTAIN, SATURATED (R78, R204). -/
def trayFlagBits (f : TrayFlags) : Nat := bitSet [f.manual, trayUncertain f, f.saturated]

/-- One session more settled in a class (R14, R104). -/
def settledIn (c : SettledCounts) : DrawerClass → SettledCounts
  | .balanced => { c with balanced := c.balanced + 1 }
  | .surplus => { c with surplus := c.surplus + 1 }
  | .short => { c with short := c.short + 1 }
  | .outside => { c with outside := c.outside + 1 }
  | .gross => { c with gross := c.gross + 1 }

/-! ## The pickup estimate (R57, R58) -/

/-- The declared values of the pouches not COUNTED. -/
def outstandingValue (ps : List Pouch) : Int :=
  ((ps.filter fun p => p.state ≠ .counted).map fun p => (p.declared : Int)).sum

/-- The pickup estimate: F + D running − P − the pouches not COUNTED, and not below 0 (R57). -/
def estimate (r : TillRec) : Int :=
  max 0 (r.f + (r.running.getD 0 : Nat) - r.p - outstandingValue r.pouches)

/-- The till is one the arming rule and the pickup rounds act on: TRADING, not signed off, a nonzero limit (R58, R59). -/
def armable (r : TillRec) : Bool := r.state == .trading && !r.signedOff && r.limit ≠ 0

/-- At an evaluation PICKUP_DUE is due: the estimate is at or above the limit and armed is yes (R58). -/
def pickupDue (r : TillRec) : Bool := armable r && decide ((r.limit : Int) ≤ estimate r) && r.armed

/-- Armed after an evaluation (R58). -/
def armedAfter (r : TillRec) : Bool :=
  if armable r then
    if (r.limit : Int) ≤ estimate r then false
    else if estimate r < (r.limit * 8 / 10 : Nat) then true
    else r.armed
  else r.armed

/-! ## Sequence numbers (R182) -/

/-- The number after a sequence number, from 4,294,967,295 to 1. -/
def seqAfter (n : Nat) : Nat := if n = Config.maxSeq then 1 else n + 1

/-- Forward distance: the advances that lead from `a` to `b`, 0 to 4,294,967,294. -/
def forward (a b : Nat) : Nat := (b + Config.maxSeq - a) % Config.maxSeq

/-- Where a number lies (R182). -/
inductive SeqPlace
  | inList | beyond | below
  deriving DecidableEq, Repr

/-- The place of a number relative to the entry list (R182). -/
def seqPlace (entries : List JournalEntry) (n : Nat) : SeqPlace :=
  match entries.head?, entries.getLast? with
  | some oldest, some newest =>
    if forward oldest.seq n < entries.length then .inList
    else if forward newest.seq n ≤ Config.farSeq then .beyond
    else .below
  | _, _ => .beyond

end Sys2Proof.Machine
end

