-- ==== Sys2Proof/Machine/Operands.lean ====
section
/-! DEFINITION. The checks on what a request carries: value fields (R4), vectors (R5), sources (R80), and the operator
numbers with the authorisation levels of R18 to R20. Each check answers the outcome code it refuses with, or nothing. -/

namespace Sys2Proof.Machine

/-! ## Values and vectors -/

/-- A value field holds a value of the request's own range, low to high (R4). A field with its mark or sign bit set reads as
a number above 999,999,999 (R204), which no range takes in. -/
def valueIn (low high v : Nat) : Bool := decide (low ≤ v) && decide (v ≤ high)

/-- An optional index field: none where it is absent, nothing where it lies outside its range (R204). -/
def optionalIx (n : Nat) : Coded (Option Nat) → Option (Option (Fin n))
  | .bad => none
  | .ok none => some none
  | .ok (some k) => (index? n k).map some

/-- No count of the vector stands at an UNUSED index (R5). -/
def usedOnly (denoms : Vector DenomEntry 16) (v : Counts) : Bool :=
  (List.finRange 16).all fun i => (look denoms i).status ≠ .unused || look v i = 0

/-- An unsigned vector: every count 0 to 65,535, none at an UNUSED index (R5). -/
def unsignedOk (denoms : Vector DenomEntry 16) (v : Counts) : Bool :=
  ((List.finRange 16).all fun i => decide (0 ≤ look v i) && decide (look v i ≤ Config.maxCount)) && usedOnly denoms v

/-- A signed vector: every count −65,535 to 65,535, none at an UNUSED index (R5). -/
def signedOk (denoms : Vector DenomEntry 16) (v : Counts) : Bool :=
  ((List.finRange 16).all fun i => decide (-Config.maxCount ≤ look v i) && decide (look v i ≤ Config.maxCount))
    && usedOnly denoms v

/-- The unsigned vector a request carries, where its item list is well formed (R204) and passes R5. -/
def unsignedArg (s : State) : Coded Counts → Option Counts
  | .ok v => if unsignedOk s.store.denoms v then some v else none
  | .bad => none

/-- The signed vector a request carries, where its item list is well formed (R204) and passes R5. -/
def signedArg (s : State) : Coded Counts → Option Counts
  | .ok v => if signedOk s.store.denoms v then some v else none
  | .bad => none

/-- Whether every count of a vector is zero. -/
def allZero (v : Counts) : Bool := (List.finRange 16).all fun i => decide (look v i = 0)

/-! ## Authorisation (R18 to R20) -/

/-- The authorisation levels (R18): 0, 1, S, D and D+M. -/
inductive Level
  | zero | one | senior | dual | dualManager
  deriving DecidableEq, Repr

/-- The entry of an operator number, where the table holds one (R17). -/
def operator? (s : State) (number : Nat) : Option OperatorEntry :=
  s.store.operators.toList.findSome? fun o =>
    match o with
    | some e => if e.number = number then some e else none
    | none => none

/-- The operator is in the table and ACTIVE, and its role passes (R18). A number of 0 names no operator (R19). -/
def operatorPasses (s : State) (number : Nat) (role : OpRole → Bool) : Bool :=
  match operator? s number with
  | some e => number ≠ 0 && e.standing == .active && role e.role
  | none => false

/-- SUPERVISOR or MANAGER. -/
def seniorRole : OpRole → Bool
  | .clerk => false
  | .supervisor | .manager => true

/-- Dual control: two distinct operators, each ACTIVE and SUPERVISOR or MANAGER (R18). -/
def dualPasses (s : State) (h : Req) : Bool :=
  h.op1 ≠ h.op2 && operatorPasses s h.op1 seniorRole && operatorPasses s h.op2 seniorRole

/-- The code an authorisation check refuses with, or nothing where the request passes (R18, R19). -/
def authorise (level : Level) (h : Req) (s : State) : Option Code :=
  match level with
  | .zero => none
  | .one => if operatorPasses s h.op1 (fun _ => true) then none else some .operatorRefused
  | .senior => if operatorPasses s h.op1 seniorRole then none else some .operatorRefused
  | .dual => if dualPasses s h then none else some .dualRequired
  | .dualManager =>
    if dualPasses s h && (operatorPasses s h.op1 (· == .manager) || operatorPasses s h.op2 (· == .manager)) then none
    else some .dualRequired

/-- The operator numbers a movement of the request records (R19): none at level 0, the first at level 1 and S, both in the
order given at level D and D+M. -/
def recordedOps (level : Level) (h : Req) : List Nat :=
  match level with
  | .zero => []
  | .one | .senior => [h.op1]
  | .dual | .dualManager => [h.op1, h.op2]

/-- The level of REQUEST TOPUP: 1 from the Office Port, 0 from the Till Port (R18, R50). -/
def topupLevel (h : Req) : Level :=
  match h.port with
  | .office => .one
  | .till | .courier => .zero

/-! ## Sources (R80, R81) -/

/-- The pouch of that number in a till's list (R60). -/
def pouch? (r : TillRec) (number : Nat) : Option Pouch :=
  r.pouches.find? fun p => p.number == number

/-- Step 1 of R80 on a source: the till, the pouch number, the bag and the compartment exist. -/
def sourceNamed (s : State) : SourceArg → Bool
  | .drawer t => (index? 64 t).isSome
  | .pouch t n =>
    match index? 64 t with
    | some i => (pouch? (look s.float.tills i) n).isSome
    | none => false
  | .inbound b => (index? 32 b).isSome
  | .compartment c => (index? 16 c).isSome
  | .loose => true

/-- The source as the tray records it at a start, with the till's present session number (R80). -/
def sourceOf (s : State) : SourceArg → Option Source
  | .drawer t => (index? 64 t).map fun i => .drawer i (look s.float.tills i).session
  | .pouch t n => (index? 64 t).map fun i => .pouch i (look s.float.tills i).session n
  | .inbound b => (index? 32 b).map .inbound
  | .compartment c => (index? 16 c).map .compartment
  | .loose => some .loose

/-- The source is in the state the table of R81 requires at a start. -/
def sourceReady (s : State) : Source → Bool
  | .drawer t _ => (look s.float.tills t).state == .returned
  | .pouch t _ n =>
    match pouch? (look s.float.tills t) n with
    | some p => p.state == .received
    | none => false
  | .inbound b => (look s.courier.bags b).dir == some .inbound && (look s.courier.bags b).state == .received
  | .compartment _ => true
  | .loose => true

/-- The container a source's cash is moved from, where the source has one (R81). -/
def sourceContainer : Source → Option Container
  | .drawer t _ => some (.till t)
  | .pouch _ _ _ => none
  | .inbound b => some (.bag b)
  | .compartment c => some (.comp c)
  | .loose => none

/-- A source is open unless R78 calls it closed: a DRAWER or POUCH whose till has another session number, a DRAWER whose till
is neither COUNTING nor HELD, a POUCH whose till is IDLE. -/
def sourceOpen (s : State) : Source → Bool
  | .drawer t n =>
    let r := look s.float.tills t
    r.session == n && (r.state == .counting || r.state == .held)
  | .pouch t n _ =>
    let r := look s.float.tills t
    r.session == n && r.state ≠ .idle
  | .inbound _ => true
  | .compartment _ => true
  | .loose => true

end Sys2Proof.Machine
end

