-- ==== Sys2Proof/Machine/Ops.lean ====
section
/-! DEFINITION. The named operations over the state: reading and replacing one record, values and cap loads, notices and
answers, the transmit line, and the movement with its checks and its effects (R3 to R15, R122, R123, R137, R179 to R184,
R191 to R199). -/

namespace Sys2Proof.Machine

/-! ## One record read or replaced -/

/-- The record of a till. -/
def tillOf (s : State) (i : TillIx) : TillRec := look s.float.tills i

/-- The record of a till, changed. -/
def modTill (i : TillIx) (f : TillRec → TillRec) (s : State) : State :=
  { s with float := { s.float with tills := put s.float.tills i (f (tillOf s i)) } }

/-- The record of a tray. -/
def trayOf (s : State) (t : TrayIx) : TrayRec := look s.count.trays t

/-- The record of a tray, changed. -/
def modTray (t : TrayIx) (f : TrayRec → TrayRec) (s : State) : State :=
  { s with count := { s.count with trays := put s.count.trays t (f (trayOf s t)) } }

/-- The record of a compartment. -/
def compOf (s : State) (c : CompIx) : CompRec := look s.safe.comps c

/-- The record of a compartment, changed. -/
def modComp (c : CompIx) (f : CompRec → CompRec) (s : State) : State :=
  { s with safe := { s.safe with comps := put s.safe.comps c (f (compOf s c)) } }

/-- The record of a bag. -/
def bagOf (s : State) (b : BagIx) : BagRec := look s.courier.bags b

/-- The record of a bag, changed. -/
def modBag (b : BagIx) (f : BagRec → BagRec) (s : State) : State :=
  { s with courier := { s.courier with bags := put s.courier.bags b (f (bagOf s b)) } }

/-- The record of a window. -/
def windowOf (s : State) (w : WindowIx) : WindowRec := look s.courier.windows w

/-- The record of a window, changed. -/
def modWindow (w : WindowIx) (f : WindowRec → WindowRec) (s : State) : State :=
  { s with courier := { s.courier with windows := put s.courier.windows w (f (windowOf s w)) } }

/-- The handover session, changed where one exists. -/
def modSession (f : Session → Session) (s : State) : State :=
  { s with courier := { s.courier with session := s.courier.session.map f } }

/-- The Port Controller of a port. -/
def portOf (s : State) : Port → PortRec
  | .office => s.ports.office
  | .till => s.ports.till
  | .courier => s.ports.courier

/-- The Port Controller of a port, changed. -/
def modPort (p : Port) (f : PortRec → PortRec) (s : State) : State :=
  match p with
  | .office => { s with ports := { s.ports with office := f s.ports.office } }
  | .till => { s with ports := { s.ports with till := f s.ports.till } }
  | .courier => { s with ports := { s.ports with courier := f s.ports.courier } }

/-- The state of a request slot. -/
def slotOf (s : State) (p : Port) (tag : Tag) : Slot := look (portOf s p).slots tag

/-- The state of a request slot, replaced; its request code stays. -/
def setSlot (p : Port) (tag : Tag) (st : SlotState) (s : State) : State :=
  modPort p (fun r => { r with slots := put r.slots tag { look r.slots tag with state := st } }) s

/-- An owner reports a change to the Day Unit for the completion check (R28). -/
def report (s : State) : State := { s with event := { s.event with reported := true } }

/-- A pass that the present event calls for. -/
def signal (g : Signal) (s : State) : State := { s with event := { s.event with signals := s.event.signals ++ [g] } }

/-! ## Holdings, values and cap loads -/

/-- The holding of a container (R6). -/
def holding (s : State) : Container → Counts
  | .till i => look s.store.tillHold i
  | .comp i => look s.store.compHold i
  | .tray i => look s.store.trayHold i
  | .bag i => look s.store.bagHold i

/-- The holding of a container, replaced. -/
def setHolding (c : Container) (v : Counts) (s : State) : State :=
  match c with
  | .till i => { s with store := { s.store with tillHold := put s.store.tillHold i v } }
  | .comp i => { s with store := { s.store with compHold := put s.store.compHold i v } }
  | .tray i => { s with store := { s.store with trayHold := put s.store.trayHold i v } }
  | .bag i => { s with store := { s.store with bagHold := put s.store.bagHold i v } }

/-- The face of an index; an UNUSED index has none and contributes nothing (R3). -/
def faceAt (denoms : Vector DenomEntry 16) (i : DenomIx) : Int := ((look denoms i).face.getD 0 : Nat)

/-- The value of a vector: the sum of each count times its face (R3). -/
def valueWith (denoms : Vector DenomEntry 16) (v : Counts) : Int :=
  ((List.finRange 16).map fun i => look v i * faceAt denoms i).sum

/-- The value of a vector by the denomination table as it stands (R3). -/
def valueOf (s : State) (v : Counts) : Int := valueWith s.store.denoms v

/-- The bags located in a compartment (R122). -/
def bagsIn (s : State) (c : CompIx) : List BagIx :=
  (List.finRange 32).filter fun b => (bagOf s b).location == some c

/-- The cap load of a compartment: its holding value plus the holding values of the bags located in it (R122). -/
def capLoad (s : State) (c : CompIx) : Int :=
  valueOf s (holding s (.comp c)) + ((bagsIn s c).map fun b => valueOf s (holding s (.bag b))).sum

/-- The 114 containers (R6). -/
def containers : List Container :=
  (List.finRange 64).map .till ++ (List.finRange 16).map .comp ++ (List.finRange 2).map .tray
    ++ (List.finRange 32).map .bag

/-- The present sum of an index over all containers (R13). -/
def officeSum (s : State) (i : DenomIx) : Int := (containers.map fun c => look (holding s c) i).sum

/-- The present sums of the sixteen indices. -/
def officeSums (s : State) : Counts := Vector.ofFn fun i => officeSum s i

/-- The compartments with a role, in index order. -/
def compsWithRole (s : State) (r : CompRole) : List CompIx :=
  (List.finRange 16).filter fun c => (compOf s c).role == r

/-- The FLOAT_RESERVE compartment (R120). -/
def reserve (s : State) : Option CompIx := (compsWithRole s .floatReserve).head?

/-! ## Notices (R196 to R199) -/

/-- Two notices have the same kind and subject (R198). -/
def sameNotice (m n : Notice) : Bool := m.kind == n.kind && m.subject == n.subject

/-- The lowest priority present in a queue (R199). -/
def lowestPriority (q : List Notice) : Nat := (q.map (·.priority)).foldl min 3

/-- The queue without the youngest notice of a priority (R199). -/
def dropYoungest (priority : Nat) (q : List Notice) : List Notice :=
  (q.reverse.eraseP fun n => n.priority == priority).reverse

/-- A notice placed in a port's queue: it replaces one of the same kind and subject in its place, or enters as the youngest,
or meets a full queue (R198, R199). -/
def enqueue (n : Notice) (r : PortRec) : PortRec :=
  if r.notices.any (sameNotice n) then
    { r with notices := r.notices.map fun m => if sameNotice n m then n else m }
  else if r.notices.length < Config.queueSize then { r with notices := r.notices ++ [n] }
  else if lowestPriority r.notices < n.priority then
    { r with notices := dropYoungest (lowestPriority r.notices) r.notices ++ [n], dropped := true }
  else { r with dropped := true }

/-- The kinds that SET ROUTING cannot take from the Office Port (R138, R197). -/
def officeAlways : NoticeKind → Bool
  | .doorForced | .powerReturn | .memorySuspect => true
  | _ => false

/-- A unit raises a notice: each port of the kind's port set queues a copy (R196). -/
def raise (k : NoticeKind) (subject : Subject) (content : List Field) (s : State) : State :=
  let route := look s.ports.routing (kindIx k)
  let n : Notice :=
    { kind := k, subject, priority := route.priority, day := s.day.number, time := s.day.clock, content }
  let s := if route.ports.office || officeAlways k then modPort .office (enqueue n) s else s
  let s := if route.ports.till then modPort .till (enqueue n) s else s
  if route.ports.courier then modPort .courier (enqueue n) s else s

/-! ## Answers and the transmit line (R191, R193, R195, R205) -/

/-- The request of a slot is answered: the slot becomes ANSWERED and the frames of the answer enter the response list (R193,
R205). -/
def answer (p : Port) (tag : Tag) (c : Code) (detail : Nat) (results : List Field) (s : State) : State :=
  modPort p
    (fun r =>
      { r with
        slots := put r.slots tag { look r.slots tag with state := .answered }
        responses := r.responses ++
          framesOf { tag := tag.1, code := (look r.slots tag).code, outcome := c, detail, results } })
    s

/-- A REJECT for a tag is waiting in the response list (R191). -/
def rejectWaiting (r : PortRec) (tag : Tag) : Bool := r.responses.contains (.reject tag)

/-- A request frame whose tag names a slot that is not FREE: a REJECT with TAG_IN_USE, at most one for each tag (R191). -/
def rejectTag (p : Port) (tag : Tag) (s : State) : State :=
  modPort p (fun r => if rejectWaiting r tag then r else { r with responses := r.responses ++ [.reject tag] }) s

/-- The notice sent next: of the highest priority, the oldest (R198). -/
def nextNotice (q : List Notice) : Option Notice :=
  q.foldl (fun best n => match best with
    | none => some n
    | some m => if m.priority < n.priority then some n else some m) none

/-- The transmit line, where it is free, takes the next frame: the oldest response or REJECT, else, on an ACTIVE port, the
next notice with the dropped indication (R195, R199). -/
def startFrame (r : PortRec) : PortRec :=
  match r.line, r.link, r.responses with
  | some _, _, _ => r
  | none, .brk, _ => r
  | none, .quiet, f :: rest => { r with line := some f, responses := rest }
  | none, .active, f :: rest => { r with line := some f, responses := rest }
  | none, .quiet, [] => r
  | none, .active, [] =>
    match nextNotice r.notices with
    | some n =>
      { r with line := some (.notice n r.dropped), notices := r.notices.eraseP (sameNotice n), dropped := false }
    | none => r

/-- Every idle transmit line starts its next frame. -/
def startFrames (s : State) : State :=
  modPort .courier startFrame (modPort .till startFrame (modPort .office startFrame s))

/-- What a line carries while main supply is good: the latch output is driven released while the latch field is RELEASED
(R120, R209, R213). -/
def latchOutput (s : State) (c : CompIx) : Bool := s.retention.supply == .good && (compOf s c).latch == .released

/-! ## The journal (R179 to R184) -/

/-- Occupancy: the entries in the list plus the held count (R183). -/
def occupancy (s : State) : Nat := s.store.journal.entries.length + s.store.journal.held

/-- Free entries: 512 less the occupancy (R183). -/
def freeEntries (s : State) : Nat := Config.journalSize - occupancy s

/-- The content of JOURNAL_HIGH and JOURNAL_FULL (R184); numbers are 0 where the list is empty (R205). -/
def journalContent (s : State) : List Field :=
  let j := s.store.journal
  [.u16 (occupancy s), .u8 j.held, .u32 ((j.entries.head?.map (·.seq)).getD 0),
   .u32 ((j.entries.getLast?.map (·.seq)).getD 0)]

/-- The marks compared with the occupancy an event has left, `before` being the occupancy it found (R184). -/
def journalMarks (before : Nat) (s : State) : State :=
  let now := occupancy s
  let j := s.store.journal
  let rises := decide (before < Config.journalHigh) && decide (Config.journalHigh ≤ now) && !j.high
  let fills := decide (before < Config.journalSize) && decide (Config.journalSize ≤ now) && !j.full
  let s := { s with store := { s.store with journal :=
    { j with high := decide (Config.journalHigh ≤ now) && (j.high || rises)
             full := decide (Config.journalSize ≤ now) && (j.full || fills) } } }
  let s := if rises then raise .journalHigh .journal (journalContent s) s else s
  if fills then raise .journalFull .journal (journalContent s) s else s

/-- One journal entry is held for a movement still to come (R183). -/
def holdEntry (s : State) : State :=
  { s with store := { s.store with journal := { s.store.journal with held := s.store.journal.held + 1 } } }

/-- The held entry is released, and the marks compared (R183, R184). -/
def releaseEntry (s : State) : State :=
  journalMarks (occupancy s)
    { s with store := { s.store with journal := { s.store.journal with held := s.store.journal.held - 1 } } }

/-! ## Movements (R7 to R12) -/

/-- The form of a movement's vector (R7). -/
inductive VectorForm
  | transfer | replacement | signed
  deriving DecidableEq, Repr

/-- The vector form of each kind (R8). -/
def formOf : MoveKind → VectorForm
  | .countResult => .replacement
  | .adjust => .signed
  | .issue | .topup | .countOut | .post | .transfer | .bagFill | .handoverOut | .receiveIn => .transfer

/-- A movement (R7); `held` says that it carries the held journal entry. -/
structure Movement where
  kind : MoveKind
  src : Option Container
  dst : Option Container
  vec : Counts
  port : Port
  ops : List Nat
  flags : MoveFlags
  held : Bool
  deriving DecidableEq, Repr

/-- No flag of an owner. -/
def MoveFlags.clear : MoveFlags := { manual := false, diverted := false, uncertain := false, saturated := false }

/-- The containers of a movement, the from-container first (R7). -/
def Movement.ends (m : Movement) : List Container := m.src.toList ++ m.dst.toList

/-- The compartments a movement names, the from-compartment first (R7). -/
def Movement.named (m : Movement) : List CompIx :=
  m.ends.filterMap fun c => match c with
    | .comp i => some i
    | .till _ | .tray _ | .bag _ => none

/-- What a movement makes of a container's holding (R7, R8). -/
def heldAfter (m : Movement) (s : State) (c : Container) : Counts :=
  match formOf m.kind with
  | .replacement => if m.dst = some c then m.vec else holding s c
  | .transfer | .signed =>
    let v := holding s c
    let v := if m.src = some c then v.sub m.vec else v
    if m.dst = some c then v.add m.vec else v

/-- The holdings as a movement leaves them (R11, effect 1). -/
def moveHoldings (m : Movement) (s : State) : State :=
  m.ends.foldl (fun acc c => setHolding c (heldAfter m s c) acc) s

/-- What the Custody Store answers to a movement: it passes, it is refused with a code, or it parks for a reason with the
container concerned (R9, R10). -/
inductive Check
  | pass
  | refused (c : Code)
  | parked (reason : AccessReason) (c : Container)
  deriving DecidableEq, Repr

/-- The Safe Unit's answer to the question of check 6 (R10, R123). -/
inductive Access
  | accessible
  | refused (c : Code)
  | parked (reason : AccessReason)
  deriving DecidableEq, Repr

/-- A compartment lies in the open range (R125). -/
def inRange (s : State) (c : CompIx) : Bool := decide (s.safe.range.low ≤ c.1) && decide (c.1 ≤ s.safe.range.high)

/-- Whether a compartment is accessible; `postOf` is the tray whose POST asks, where a POST does (R123). -/
def access (s : State) (postOf : Option TrayIx) (c : CompIx) : Access :=
  let r := compOf s c
  if !inRange s c then .refused (if s.safe.frozen then .frozen else .locked)
  else if r.alarm = .forced then .refused .alarmed
  else if s.courier.session.isSome then .parked .session
  else match r.outForCount with
    | some t => if postOf = some t then .accessible else .parked .countOut
    | none => .accessible

/-- The tray a POST movement empties. -/
def Movement.postOf (m : Movement) : Option TrayIx :=
  match m.kind, m.src with
  | .post, some (.tray t) => some t
  | _, _ => none

/-- Check 6 of R9: a refusal for either compartment before a parking reason for either, the from-compartment's first (R10). -/
def checkAccess (m : Movement) (s : State) : Check :=
  let answers := m.named.map fun c => (c, access s m.postOf c)
  match answers.findSome? (fun a => match a.2 with | .refused k => some k | _ => none) with
  | some k => .refused k
  | none =>
    match answers.findSome? (fun a => match a.2 with | .parked r => some (a.1, r) | _ => none) with
    | some (c, r) => .parked r (.comp c)
    | none => .pass

/-- The audit-step flag and step-pending mark of a container; trays and bags have none (R21). -/
def stepBits (s : State) : Container → StepBits
  | .till i => look s.store.tillStep i
  | .comp i => look s.store.compStep i
  | .tray _ => { flag := false, mark := false }
  | .bag _ => { flag := false, mark := false }

/-- The audit-step flag and step-pending mark of a till or compartment, replaced. -/
def setStepBits (c : Container) (b : StepBits) (s : State) : State :=
  match c with
  | .till i => { s with store := { s.store with tillStep := put s.store.tillStep i b } }
  | .comp i => { s with store := { s.store with compStep := put s.store.compStep i b } }
  | .tray _ => s
  | .bag _ => s

/-- Check 4 of R9: a count of the from-container, or of the to-container under a signed vector, would go below 0. -/
def goesBelow (m : Movement) (s : State) : Bool :=
  (match m.src with
   | some c => (List.finRange 16).any fun i => decide (look (heldAfter m s c) i < 0)
   | none => false)
  || (match m.dst, formOf m.kind with
      | some c, .signed => (List.finRange 16).any fun i => decide (look (heldAfter m s c) i < 0)
      | _, _ => false)

/-- Check 5 of R9: a count of the to-container would go above 65,535. -/
def goesAbove (m : Movement) (s : State) : Bool :=
  match m.dst with
  | some c => (List.finRange 16).any fun i => decide (Config.maxCount < look (heldAfter m s c) i)
  | none => false

/-- Check 8 of R9: the cap load of a compartment would rise above that compartment's cap. -/
def overCap (m : Movement) (s : State) : Bool :=
  (List.finRange 16).any fun c =>
    let after := capLoad (moveHoldings m s) c
    decide (((compOf s c).cap : Int) < after) && decide (capLoad s c < after)

/-- The movement check table of R9, in its order; `need` is how many free journal entries check 3 asks for. Where both containers
carry a step-pending mark, check 7 reports the from-container (DESIGN CHOICE, log 37). -/
def checkMovement (need : Nat) (m : Movement) (s : State) : Check :=
  if s.retention.suspect && m.kind ≠ .adjust then .refused .memorySuspect
  else if s.day.state = .closed then .refused .dayNotOpen
  else if freeEntries s < need then .refused .journalFull
  else if goesBelow m s then .refused .badOperand
  else if goesAbove m s then .refused .countRange
  else match checkAccess m s with
    | .refused k => .refused k
    | .parked r c => .parked r c
    | .pass =>
      match m.ends.find? (fun c => (stepBits s c).mark) with
      | some c => .parked .audit c
      | none => if overCap m s then .refused .overCap else .pass

/-- The movements of one event checked in order, each against the holdings the earlier ones would leave (R12). -/
def checkEvent (need : Nat) : List Movement → State → Check
  | [], _ => .pass
  | m :: ms, s =>
    match checkMovement need m s with
    | .pass => checkEvent need ms (moveHoldings m s)
    | .refused k => .refused k
    | .parked r c => .parked r c

/-- What a movement does to the Day Position (R8, R13): inflow gains the change of a COUNT_RESULT and the vector of an ADJUST,
outflow the vector of a HANDOVER_OUT. -/
def movePosition (m : Movement) (s : State) : State :=
  match m.kind, m.dst with
  | .countResult, some c =>
    { s with store := { s.store with inflow := s.store.inflow.add (m.vec.sub (holding s c)) } }
  | .adjust, _ => { s with store := { s.store with inflow := s.store.inflow.add m.vec } }
  | .handoverOut, _ => { s with store := { s.store with outflow := s.store.outflow.add m.vec } }
  | _, _ => s

/-- The journal entry of a movement (R11, R180, R181). -/
def entryOf (m : Movement) (s : State) : JournalEntry :=
  { seq := s.store.journal.nextSeq, day := s.day.number, time := s.day.clock, kind := m.kind, src := m.src, dst := m.dst
    value := valueOf s m.vec, items := itemsOf m.vec, port := m.port, ops := m.ops, flags := m.flags
    audit := m.ends.any fun c => (stepBits s c).flag }

/-- The entry written: it takes the next sequence number, and fills the held entry where the movement carries it (R11, R182,
R183). -/
def writeEntry (m : Movement) (s : State) : State :=
  let j := s.store.journal
  { s with store := { s.store with journal :=
    { j with entries := j.entries ++ [entryOf m s], nextSeq := seqAfter j.nextSeq
             held := if m.held then j.held - 1 else j.held } } }

/-- The step-pending marks of a movement's containers whose flag is on, each with AUDIT_STEP (R22). -/
def markStep (seq : Nat) (s : State) (c : Container) : State :=
  if (stepBits s c).flag then
    let s := setStepBits c { flag := true, mark := true } s
    match c with
    | .till i => raise .auditStep (.till i) [.u32 seq] s
    | .comp i => raise .auditStep (.comp i) [.u32 seq] s
    | .tray _ => s
    | .bag _ => s
  else s

/-- The latch of a compartment that an applied movement names is released (R137). -/
def releaseLatch (s : State) (c : CompIx) : State :=
  modComp c
    (fun r =>
      if r.hold then r
      else match r.door with
        | .closed => { r with latch := .released, latchTimer := some 0 }
        | .opened => { r with latch := .released })
    s

/-- A movement raises the float reserve's holding at an index, which calls for a re-try of the float waiters (R11, R52). -/
def raisesReserve (m : Movement) (s : State) : Bool :=
  match reserve s with
  | some c => (List.finRange 16).any fun i => decide (look (holding s (.comp c)) i < look (heldAfter m s (.comp c)) i)
  | none => false

/-- One re-try pass more is owed to the float waiters (R52). -/
def oweRetry (s : State) : State := { s with float := { s.float with retryDue := s.float.retryDue + 1 } }

/-- The effects of an applied movement (R11), less the comparison of the journal's marks. Where both containers are flagged, the
from-container's AUDIT_STEP is raised first (DESIGN CHOICE, log 37). -/
def applyMove (m : Movement) (s : State) : State :=
  let rises := raisesReserve m s
  let seq := s.store.journal.nextSeq
  let t := writeEntry m (movePosition m s)
  let t := m.ends.foldl (fun acc c => setHolding c (heldAfter m s c) acc) t
  let t := m.ends.foldl (markStep seq) t
  let t := m.named.foldl releaseLatch t
  if rises then oweRetry t else t

/-- One event of the Custody Store that applies movements in order and may hold an entry, with the marks compared once for
the event (R11, R12, R184). The AUDIT_STEPs of the movements are raised before the JOURNAL_HIGH and JOURNAL_FULL of the event,
and all of them before the notices that the calling unit raises in it (DESIGN CHOICE, log 37). -/
def storeEvent (ms : List Movement) (hold : Bool) (s : State) : State :=
  let t := ms.foldl (fun acc m => applyMove m acc) s
  journalMarks (occupancy s) (if hold then holdEntry t else t)

end Sys2Proof.Machine
end

