-- ==== Sys2Proof/Machine/FloatOps.lean ====
section
/-! DEFINITION. The Float Unit's operations: composition (R45 to R47), the attempt at a float or top-up (R48, R50), the
float-waiter list and its passes (R51, R52), the pickup estimate and the pickup round (R57 to R59). -/

namespace Sys2Proof.Machine

/-! ## Composition (R45 to R47) -/

/-- A profile passes the validation R45 makes before a float is composed from it. -/
def profileOk (denoms : Vector DenomEntry 16) (p : Profile) : Bool :=
  p.defined
    && ((List.finRange 16).all fun i => look p.template i = 0 || (look denoms i).status ≠ .unused)
    && decide (valueWith denoms p.template = p.target)
    && ((List.finRange 16).all fun i =>
      (look denoms i).form ≠ some .coin || decide (look p.template i % ((look denoms i).pack.getD 1 : Nat) = 0))

/-- The first stage at one index: the smaller of the template count and the stock, rounded down to whole rolls for COIN, and
nothing where the entry is not ACTIVE (R46). -/
def stageOne (denoms : Vector DenomEntry 16) (template stock : Counts) (i : DenomIx) : Int :=
  let d := look denoms i
  if d.status ≠ .active then 0
  else
    let t := min (look template i) (look stock i)
    match d.form with
    | some .coin => t - t % (d.pack.getD 1 : Nat)
    | _ => t

/-- What the second stage takes at one index against a shortfall (R47): nothing where the face is greater than the
shortfall, else notes one by one and coins by whole rolls. -/
def stageTwo (denoms : Vector DenomEntry 16) (stock taken : Counts) (short : Int) (i : DenomIx) : Int :=
  let d := look denoms i
  let face := faceAt denoms i
  if short < face then 0
  else
    let left := look stock i - look taken i
    match d.form with
    | some .coin =>
      let pack : Int := (d.pack.getD 1 : Nat)
      pack * min (left / pack) (short / (face * pack))
    | _ => min left (short / face)

/-- The indices the second stage visits, in descending order of face: ACTIVE and in the mask (R47). -/
def issuable (denoms : Vector DenomEntry 16) (mask : BitVec 16) : List DenomIx :=
  ((List.finRange 16).filter fun i => (look denoms i).status == .active && mask.getLsbD i.1).insertionSort
    fun i j => faceAt denoms j ≤ faceAt denoms i

/-- Composition (R46, R47): the composed vector and the shortfall that remains, 0 where it succeeds. A top-up has no
template and runs the second stage alone. -/
def compose (denoms : Vector DenomEntry 16) (stock : Counts) (mask : BitVec 16) (template : Option Counts)
    (target : Int) : Counts × Int :=
  let first : Counts := match template with
    | some q => Vector.ofFn fun i => stageOne denoms q stock i
    | none => Counts.zero
  (issuable denoms mask).foldl
    (fun acc i =>
      let k := stageTwo denoms stock acc.1 acc.2 i
      (put acc.1 i (look acc.1 i + k), acc.2 - k * faceAt denoms i))
    (first, target - valueWith denoms first)

/-! ## The pickup estimate (R57 to R59) -/

/-- PICKUP_DUE with its estimate, limit and cause: 0 ESTIMATE, 1 ROUND (R58, R59). -/
def raisePickup (i : TillIx) (cause : Nat) (s : State) : State :=
  let r := tillOf s i
  raise .pickupDue (.till i) [.value (estimate r), .value r.limit, .u8 cause] s

/-- One evaluation of a till's pickup estimate, with the arming rule (R58). -/
def evaluate (i : TillIx) (s : State) : State :=
  let r := tillOf s i
  let s := if pickupDue r then raisePickup i 0 s else s
  modTill i (fun r => { r with armed := armedAfter r }) s

/-- A pickup round: PICKUP_DUE for every till at or above half its limit, in number order, with no armed flag changed (R59). -/
def pickupRound (s : State) : State :=
  (List.finRange 64).foldl
    (fun acc i =>
      let r := tillOf acc i
      if armable r && decide ((r.limit / 2 : Nat) ≤ estimate r) then raisePickup i 1 acc else acc)
    s

/-! ## The attempt at a float or top-up (R48, R50) -/

/-- What an attempt comes to. -/
inductive FloatTry
  | refused (c : Code)
  | short (shortfall : Int)
  | parked (reason : AccessReason) (c : Container)
  | done (s : State) (results : List Field)

/-- The till of a float or top-up request. -/
def FloatAsk.tillIx : FloatAsk → TillIx
  | .float t _ => t
  | .topup t _ => t

/-- Whether the request is a float. -/
def FloatAsk.isFloat : FloatAsk → Bool
  | .float _ _ => true
  | .topup _ _ => false

/-- An ISSUE or TOPUP from the reserve to a till (R8). -/
def floatMove (kind : MoveKind) (c : CompIx) (t : TillIx) (v : Counts) (p : Port) (ops : List Nat) : Movement :=
  { kind, src := some (.comp c), dst := some (.till t), vec := v, port := p, ops, flags := MoveFlags.clear
    held := false }

/-- A till's record in the event that issues it a float (R48). -/
def issuedTill (r : TillRec) (profile : ProfileIx) (p : Profile) : TillRec :=
  { r with
    state := .trading
    session := (r.session + 1) % 65536
    profile := some profile
    mask := p.mask
    f := p.target
    topups := 0
    signedOff := false
    running := none
    final := none
    pouches := []
    p := 0
    hold := HoldReasons.empty
    armed := true }

/-- The Custody Store's part of an attempt: composition against the reserve as it stands, then the checks of R9, in one
event (R48). `target` is what the composed vector is worth, and `after` the owner's changes where the movement is applied. -/
def floatStore (kind : MoveKind) (t : TillIx) (mask : BitVec 16) (template : Option Counts) (target : Nat) (p : Port)
    (ops : List Nat) (after : State → State) (results : State → List Field) (s : State) : FloatTry :=
  match reserve s with
  | none => .refused .badState
  | some c =>
    let made := compose s.store.denoms (holding s (.comp c)) mask template target
    if made.2 ≠ 0 then .short made.2
    else
      let m := floatMove kind c t made.1 p ops
      match checkMovement 1 m s with
      | .refused k => .refused k
      | .parked r k => .parked r k
      | .pass =>
        let done := evaluate t (after (storeEvent [m] false s))
        .done done (results done ++ [.items made.1, .value target, .u32 s.store.journal.nextSeq])

/-- An attempt at a float or top-up, from step 2 of R48 or R50. -/
def floatTry (p : Port) (ops : List Nat) (ask : FloatAsk) (s : State) : FloatTry :=
  if s.retention.suspect then .refused .memorySuspect
  else if s.day.state = .closed then .refused .dayNotOpen
  else if s.day.state = .closing then .refused .dayClosing
  else match ask with
    | .float t profile =>
      let prof := look s.float.profiles profile
      if (tillOf s t).state ≠ .idle then .refused .badState
      else if !profileOk s.store.denoms prof then .refused .profileMismatch
      else
        floatStore .issue t prof.mask (some prof.template) prof.target p ops
          (fun s =>
            let s := modTill t (fun r => issuedTill r profile prof) (report s)
            { s with store := { s.store with totals :=
              { s.store.totals with floatCount := s.store.totals.floatCount + 1
                                    floatValue := s.store.totals.floatValue + prof.target } } })
          (fun s => [.u16 (tillOf s t).session]) s
    | .topup t v =>
      let r := tillOf s t
      if r.state ≠ .trading || r.signedOff then .refused .badState
      else if Config.maxTopups ≤ r.topups then .refused .topupLimit
      else
        floatStore .topup t r.mask none v p ops
          (fun s =>
            let s := modTill t (fun r => { r with f := r.f + v, topups := r.topups + 1 }) s
            { s with store := { s.store with totals :=
              { s.store.totals with topupCount := s.store.totals.topupCount + 1
                                    topupValue := s.store.totals.topupValue + v } } })
          (fun _ => []) s

/-! ## The float-waiter list (R51 to R54) -/

/-- The float-waiter list, replaced. -/
def setFloatWaiters (ws : List FloatWaiter) (s : State) : State :=
  { s with float := { s.float with waiters := ws } }

/-- The waiter of a port and tag. -/
def isFloatWaiter (p : Port) (tag : Tag) (w : FloatWaiter) : Bool := w.port == p && w.tag == tag

/-- The waiters selected leave the list with no answer. -/
def discardFloats (sel : FloatWaiter → Bool) (s : State) : State :=
  setFloatWaiters (s.float.waiters.filter fun w => !sel w) s

/-- The waiters selected are answered with a code, in list order, and leave the list. -/
def dismissFloats (sel : FloatWaiter → Bool) (c : Code) (s : State) : State :=
  (s.float.waiters.filter sel).foldl (fun acc w => answer w.port w.tag c 0 [] acc) (discardFloats sel s)

/-- A till's parked top-ups are answered BAD_STATE and leave the list (R63 to R65). -/
def dismissTopups (t : TillIx) (s : State) : State :=
  dismissFloats (fun w => !w.ask.isFloat && w.ask.tillIx == t) .badState s

/-- After a float issued to a till, its other parked floats are answered BAD_STATE (R48). -/
def dismissRivals (ask : FloatAsk) (s : State) : State :=
  if ask.isFloat then dismissFloats (fun w => w.ask.isFloat && w.ask.tillIx == ask.tillIx) .badState s else s

/-- RESERVE_LOW, raised at every composition that fails: the reserve, the shortfall, and the waiters then in WAIT_STOCK (R51), whose
number is sent in one byte (DESIGN CHOICE, log 35). -/
def raiseReserveLow (shortfall : Int) (s : State) : State :=
  match reserve s with
  | none => s
  | some c =>
    raise .reserveLow (.comp c)
      [.value shortfall, .u8 (s.float.waiters.filter fun w => w.park == .stock).length] s

/-- A float or top-up request parks: it joins the end of the list and its slot becomes PARKED (R51, R193). -/
def parkFloat (p : Port) (tag : Tag) (ops : List Nat) (ask : FloatAsk) (park : FloatPark) (s : State) : State :=
  let w : FloatWaiter := { port := p, tag, ask, ops, park, elapsed := 0, stamp := s.stamp }
  setSlot p tag .parked { setFloatWaiters (s.float.waiters ++ [w]) s with stamp := s.stamp + 1 }

/-- A new float or top-up request, once its operands are checked (R48, R50). -/
def floatArrival (p : Port) (tag : Tag) (ops : List Nat) (ask : FloatAsk) (s : State) : State :=
  match floatTry p ops ask s with
  | .refused c => answer p tag c 0 [] s
  | .short k => raiseReserveLow k (parkFloat p tag ops ask .stock s)
  | .parked r c => parkFloat p tag ops ask (.access r c) s
  | .done t results => dismissRivals ask (answer p tag .ok 0 results t)

/-- The park reason of one waiter brought up to date; it keeps its place (R51). -/
def reparkFloat (p : Port) (tag : Tag) (park : FloatPark) (s : State) : State :=
  setFloatWaiters (s.float.waiters.map fun w => if isFloatWaiter p tag w then { w with park } else w) s

/-- One waiter re-tried, where it still waits (R52). -/
def retryFloat (s : State) (w : FloatWaiter) : State :=
  if s.float.waiters.any (isFloatWaiter w.port w.tag) then
    match floatTry w.port w.ops w.ask s with
    | .refused c => answer w.port w.tag c 0 [] (discardFloats (isFloatWaiter w.port w.tag) s)
    | .short k => raiseReserveLow k (reparkFloat w.port w.tag .stock s)
    | .parked r c => reparkFloat w.port w.tag (.access r c) s
    | .done t results =>
      dismissRivals w.ask (answer w.port w.tag .ok 0 results (discardFloats (isFloatWaiter w.port w.tag) t))
  else s

/-- A re-try pass over the waiters, in list order (R52). -/
def floatPass (s : State) : State := s.float.waiters.foldl retryFloat s

end Sys2Proof.Machine
end

