-- ==== Sys2Proof/Machine/SafeOps.lean ====
section
/-! DEFINITION. The Safe Unit's operations: the open range and the freeze (R125 to R127), the out-for-count mark (R124), the
handover hold (R140), and the report that a parking condition has ended (R130). -/

namespace Sys2Proof.Machine

/-- The compartment a counted tray is first posted to, by its source (spec/05, "Posting"). -/
def firstDestination (s : State) : Source → Option CompIx
  | .drawer _ _ => (compsWithRole s .takings).head?
  | .pouch _ _ _ => (compsWithRole s .takings).head?
  | .loose => (compsWithRole s .takings).head?
  | .inbound _ => (compsWithRole s .changeFund).head?
  | .compartment c => some c

/-- The first destination of a tray, where it has a source. -/
def destinationOf (s : State) (t : TrayIx) : Option CompIx :=
  match (trayOf s t).source with
  | some src => firstDestination s src
  | none => none

/-! ## Range and freeze -/

/-- The open range replaced, or FROZEN (R125): a high end above 15 is taken as 15. -/
def openRangeTo (low high : Nat) (s : State) : Except Code State :=
  if s.safe.frozen then .error .frozen
  else .ok { s with safe := { s.safe with range := { low, high := min high 15 } } }

/-- The open range emptied, or FROZEN (R126). -/
def lockAllNow (s : State) : Except Code State :=
  if s.safe.frozen then .error .frozen
  else .ok { s with safe := { s.safe with range := SafeRange.empty } }

/-- The freeze flag set (R127). -/
def freezeNow (s : State) : State := { s with safe := { s.safe with frozen := true } }

/-! ## The end of a parking condition (R130) -/

/-- The Safe Unit reports compartments accessible: a tray whose auto-post is pending for one of them is owed a new attempt
(R119), and the Float Unit a re-try where the reserve is among them and the event is one that goes to it (R52). -/
def parkingEnded (among : CompIx → Bool) (toFloat : Bool) (s : State) : State :=
  let due (t : TrayIx) : Bool :=
    look s.recon.pending t && (trayOf s t).state == .counted
      && (match destinationOf s t with | some c => among c | none => false)
  let s := { s with recon := { s.recon with reported := Vector.ofFn fun t => look s.recon.reported t || due t } }
  if toFloat && (match reserve s with | some c => among c | none => false) then oweRetry s else s

/-- The out-for-count mark set: it names the tray that received the compartment's count (R124). -/
def markOut (c : CompIx) (t : TrayIx) (s : State) : State :=
  modComp c (fun r => { r with outForCount := some t }) s

/-- The out-for-count mark cleared, with the re-try pass for reason COUNT_OUT and the report (R124, R130). -/
def clearOut (c : CompIx) (s : State) : State :=
  parkingEnded (· == c) true (signal (.countOutPass c) (modComp c (fun r => { r with outForCount := none }) s))

/-! ## The access-waiter list (R129) -/

/-- What an attempt at a request that may park in the access-waiter list comes to (R130, R193): refused with a code; parked
for a reason at a container; done, to be answered OK with results; a count started; or a START COUNT that waits for the
station or a tray. -/
inductive Attempt
  | refused (c : Code) (s : State)
  | parked (reason : AccessReason) (c : Container) (s : State)
  | done (s : State) (results : List Field)
  | running (s : State)
  | queued (park : CountPark)

/-- The access-waiter list, replaced. -/
def setAccessWaiters (ws : List AccessWaiter) (s : State) : State :=
  { s with safe := { s.safe with waiters := ws } }

/-- The waiter of a port and tag. -/
def isAccessWaiter (p : Port) (tag : Tag) (w : AccessWaiter) : Bool := w.port == p && w.tag == tag

/-- The waiters selected leave the list with no answer. -/
def discardAccess (sel : AccessWaiter → Bool) (s : State) : State :=
  setAccessWaiters (s.safe.waiters.filter fun w => !sel w) s

/-- A request parks at the end of the list and its slot becomes PARKED (R129, R193). -/
def parkAccess (p : Port) (tag : Tag) (ops : List Nat) (req : AccessReq) (reason : AccessReason) (c : Container)
    (s : State) : State :=
  let w : AccessWaiter := { port := p, tag, req, ops, reason, container := c, elapsed := 0, stamp := s.stamp }
  setSlot p tag .parked { setAccessWaiters (s.safe.waiters ++ [w]) s with stamp := s.stamp + 1 }

/-- A waiter that parks again keeps its place, with its reason and container brought up to date (R130). -/
def reparkAccess (p : Port) (tag : Tag) (reason : AccessReason) (c : Container) (s : State) : State :=
  setAccessWaiters
    (s.safe.waiters.map fun w => if isAccessWaiter p tag w then { w with reason, container := c } else w) s

/-- Whether a waiter is a post, parked WAIT_DESTINATION (R129). -/
def AccessReq.isPost : AccessReq → Bool
  | .postTray _ _ => true
  | .startCount _ _ _ | .manualCount _ _ _ | .transfer _ _ _ | .adjust _ _ | .fillBag _ _ _ => false

/-! ## The handover hold (R140) -/

/-- The handover compartment's latch held released at the beginning of a session. -/
def holdLatch (c : CompIx) (s : State) : State :=
  modComp c
    (fun r =>
      { r with hold := true, latch := .released, latchTimer := none, heldTimer := none, heldRaised := false
               alarm := if r.alarm = .held then .none else r.alarm })
    s

/-- The hold lifted at the end of a session. -/
def liftLatch (c : CompIx) (s : State) : State :=
  modComp c
    (fun r =>
      match r.door with
      | .closed => { r with hold := false, latch := .engaged }
      | .opened => { r with hold := false, heldTimer := some 0, heldRaised := false })
    s

end Sys2Proof.Machine
end

