-- ==== Sys2Proof/Machine/ReconOps.lean ====
section
/-! DEFINITION. The Reconciliation Unit's operations: the drawer computation, settling and holding (R99 to R106), the four
kinds of completion (R98, R108 to R111), and posting by the deposit rule (R114 to R119, R133, R134). -/

namespace Sys2Proof.Machine

/-! ## Drawers -/

/-- The drawer result of a till. -/
def drawerOf (s : State) (i : TillIx) : Option DrawerResult := look s.recon.drawers i

/-- The drawer result of a till, replaced. -/
def setDrawer (i : TillIx) (d : Option DrawerResult) (s : State) : State :=
  { s with recon := { s.recon with drawers := put s.recon.drawers i d } }

/-- An auto-post attempt is owed for a tray while the setting is ON (R118). -/
def oweAttempt (t : TrayIx) (s : State) : State :=
  if s.recon.autoPost then { s with recon := { s.recon with attemptDue := put s.recon.attemptDue t true } } else s

/-- A tray is COUNTED with the drawer of the till's present session as its source (R118). -/
def holdsDrawer (s : State) (i : TillIx) (t : TrayIx) : Bool :=
  (trayOf s t).state == .counted && (trayOf s t).source == some (.drawer i (tillOf s i).session)

/-- The totals with one more session settled: its variance in the over or the short total, its class counted (R14, R104). -/
def settleTotals (k : Classification) (t : DayTotals) : DayTotals :=
  { t with
    overTotal := if 0 < k.variance then t.overTotal + k.variance else t.overTotal
    shortTotal := if k.variance < 0 then t.shortTotal + |k.variance| else t.shortTotal
    settled := settledIn t.settled k.cls }

/-- A session settles (R104), and the auto-post check follows where a tray still holds its count (R118). -/
def settleTill (i : TillIx) (k : Classification) (s : State) : State :=
  let s := modTill i
    (fun r => { r with state := .idle, hold := HoldReasons.empty
                       last := some { cls := k.cls, variance := k.variance, allowance := k.allowance
                                      time := s.day.clock } }) s
  let s := { s with store := { s.store with totals := settleTotals k s.store.totals } }
  let s := raise .tillSettled (.till i) [.u8 (position classNames k.cls), .signed k.variance, .value k.allowance] s
  let s := report s
  ((List.finRange 2).filter (holdsDrawer s i)).foldl (fun acc t => oweAttempt t acc) s

/-- A till is HELD with reasons, and TILL_HELD raised with them and further figures (R99, R103). -/
def holdTill (i : TillIx) (h : HoldReasons) (figures : List Field) (s : State) : State :=
  report (raise .tillHeld (.till i) (.u8 (holdBits h) :: figures)
    (modTill i (fun r => { r with state := .held, hold := h }) s))

/-- The figures of a computation: E, W, L and the class, from the counted value, the till's record and its tolerance class
(R101, R102). -/
def computeDrawer (counted : Int) (f : Int) (final : Nat) (p : Int) (c : TolClass) : Classification :=
  let e := f + final - p
  let w := counted - e
  let l := allowance c final
  { expected := e, variance := w, allowance := l, cls := classify w l }

/-- The computation runs for a till whose drawer result and D final are present; it settles the session or holds the till
(R101 to R103). -/
def runComputation (i : TillIx) (s : State) : State :=
  let r := tillOf s i
  match drawerOf s i, r.final with
  | some d, some final =>
    let k := computeDrawer d.counted r.f final r.p (look s.recon.classes r.cls)
    let s := setDrawer i (some { d with classed := some k }) s
    let doubtful := d.uncertain || d.saturated
    if beyond k.cls || doubtful then
      holdTill i (holdOf k.cls doubtful)
        [.signed k.expected, .signed k.variance, .value k.allowance, .u8 (position classNames k.cls)] s
    else settleTill i k s
  | _, _ => s

/-- The drawer result a completed count makes (R97, R99). -/
def drawerResult (s : State) (i : TillIx) (t : TrayIx) : DrawerResult :=
  let tr := trayOf s t
  { session := (tillOf s i).session, counted := valueOf s (holding s (.tray t)), uncertain := trayUncertain tr.flags
    saturated := tr.flags.saturated, manual := tr.flags.manual, count := tr.count, tray := t, classed := none
    acceptOps := [] }

/-- The waiting reasons a drawer completion finds (R99). -/
def waitingReasons (r : TillRec) : HoldReasons :=
  { HoldReasons.empty with
    undeclared := r.final.isNone
    pendingPickups := r.pouches.any fun p => p.state ≠ .counted }

/-- An open drawer completion: of a till that is COUNTING (R99), or of one that is HELD (R100). -/
def drawerComplete (i : TillIx) (t : TrayIx) (s : State) : State :=
  let d := drawerResult s i t
  let r := tillOf s i
  let s := setDrawer i (some d) s
  if r.state = .held then
    if waiting r.hold then s
    else runComputation i
      (modTill i (fun r => { r with hold := { r.hold with outside := false, gross := false, uncertain := false } }) s)
  else
    let h := waitingReasons r
    if waiting h then holdTill i h [.value d.counted] s else runComputation i s

/-- What follows the removal of a waiting reason: the computation where none remains, else TILL_HELD with the remaining
reason (R105, R106). -/
def afterRemoval (i : TillIx) (s : State) : State :=
  let h := (tillOf s i).hold
  if waiting h then raise .tillHeld (.till i) [.u8 (holdBits h)] s else runComputation i s

/-- FINAL TAKINGS handed over for a till HELD with UNDECLARED (R105). -/
def lateFinal (i : TillIx) (s : State) : State :=
  afterRemoval i (modTill i (fun r => { r with hold := { r.hold with undeclared := false } }) s)

/-- A till HELD with PENDING_PICKUPS whose pouches are now all COUNTED loses that reason (R106). -/
def latePouch (i : TillIx) (s : State) : State :=
  let r := tillOf s i
  if r.state = .held && r.hold.pendingPickups && r.pouches.all (fun p => p.state == .counted) then
    afterRemoval i (modTill i (fun r => { r with hold := { r.hold with pendingPickups := false } }) s)
  else s

/-! ## Pouches (R108, R109) -/

/-- One pouch of a list, changed. -/
def modPouch (number : Nat) (f : Pouch → Pouch) (ps : List Pouch) : List Pouch :=
  ps.map fun p => if p.number = number then f p else p

/-- An open pouch completion: a first count (R108) or a recount (R109). -/
def pouchComplete (i : TillIx) (number : Nat) (t : TrayIx) (s : State) : State :=
  let c := valueOf s (holding s (.tray t))
  match pouch? (tillOf s i) number with
  | none => s
  | some p =>
    let counted (q : Pouch) : Pouch := { q with state := .counted, counted := some c, diff := some (c - q.declared) }
    if p.state = .counted then
      evaluate i (modTill i
        (fun r => { r with pouches := modPouch number counted r.pouches, p := r.p + c - p.counted.getD 0 }) s)
    else
      latePouch i (evaluate i (report (modTill i
        (fun r => { r with pouches := modPouch number counted r.pouches, p := r.p + c }) s)))

/-! ## Inbound bags and compartments (R110, R111) -/

/-- A custody difference entered: the total gains it less what this tray's count had added, and the tray records it. -/
def enterDifference (t : TrayIx) (d : Int) (s : State) : State :=
  let added := d - (look s.recon.diffs t).getD 0
  { s with
    store := { s.store with totals := { s.store.totals with custody := s.store.totals.custody + added } }
    recon := { s.recon with diffs := put s.recon.diffs t (some d) } }

/-- An inbound completion (R110). -/
def inboundComplete (b : BagIx) (t : TrayIx) (s : State) : State :=
  let c := valueOf s (holding s (.tray t))
  let r := bagOf s b
  let declared := (r.declared.map (·.value)).getD 0
  let d := c - declared
  let s := if r.state = .counting then report (modBag b (fun r => { r with state := .counted }) s) else s
  let s := enterDifference t d s
  if d ≠ 0 then
    raise .varianceNoted (.bag b) [.u32 (r.tag.getD 0), .value declared, .value c, .signed d] s
  else s

/-- A compartment completion: the reference is the tray's prior holding (R111). -/
def compartmentComplete (k : CompIx) (t : TrayIx) (s : State) : State :=
  let c := valueOf s (holding s (.tray t))
  let prior := valueOf s (trayOf s t).prior
  let d := c - prior
  let s := enterDifference t d s
  if d ≠ 0 then raise .varianceNoted (.comp k) [.value prior, .value c, .signed d] s else s

/-- What the Reconciliation Unit does with a completion, by the kind of the source and whether it is open, and the auto-post
check of a POUCH or LOOSE source (R98, R118). -/
def reconcile (src : Source) (isOpen : Bool) (t : TrayIx) (s : State) : State :=
  match src with
  | .drawer i _ => if isOpen then drawerComplete i t s else s
  | .pouch i _ n => oweAttempt t (if isOpen then pouchComplete i n t s else s)
  | .inbound b => inboundComplete b t s
  | .compartment c => compartmentComplete c t s
  | .loose => oweAttempt t s

/-! ## Posting (R114 to R119, R133, R134) -/

/-- The auto-post pending mark of a tray cleared: by POST TRAY, by a RECOUNT that starts, by the tray becoming EMPTY (R114,
R117, R119). An attempt that a completion or a settlement has left owed is kept, and acts on the tray as it then stands (DESIGN
CHOICE, log 15). -/
def clearPending (t : TrayIx) (s : State) : State :=
  { s with recon := { s.recon with pending := put s.recon.pending t false
                                   reported := put s.recon.reported t false } }

/-- The pending mark of a tray and every attempt owed for it taken away. -/
def clearAutoPost (t : TrayIx) (s : State) : State :=
  { clearPending t s with recon := { (clearPending t s).recon with attemptDue := put s.recon.attemptDue t false } }

/-- The fields of a tray that becomes EMPTY (R79). -/
def emptied (r : TrayRec) : TrayRec :=
  { r with state := .empty, source := none, prior := Counts.zero, rejects := 0, flags := TrayFlags.clear
           count := none }

/-- The POST of a tray's whole holding to a compartment (R114). -/
def postMove (t : TrayIx) (c : CompIx) (diverted : Bool) (p : Port) (ops : List Nat) (s : State) : Movement :=
  { kind := .post, src := some (.tray t), dst := some (.comp c), vec := holding s (.tray t), port := p, ops
    flags := { MoveFlags.clear with diverted }, held := false }

/-- What an applied POST does beside the movement (R115): the tray becomes EMPTY, an inbound bag FREE, an out-for-count mark
is cleared, and the pass over the count waiters is called for (R84). For a COMPARTMENT tray the pass over the access waiters parked
COUNT_OUT (R130) is called for first and made first (DESIGN CHOICE, log 9). -/
def posted (t : TrayIx) (s : State) : State :=
  let src := (trayOf s t).source
  let s := report (modTray t emptied s)
  let s := clearPending t { s with recon := { s.recon with diffs := put s.recon.diffs t none } }
  let s := match src with
    | some (.inbound b) => modBag b (fun _ => BagRec.free) s
    | some (.compartment c) => clearOut c s
    | _ => s
  signal .countPass s

/-- The walk along the overflow links after the first destination: the first compartment, not yet visited, that is
accessible, carries no step-pending mark and takes the whole tray (R133, steps 2 to 4). -/
def walkOverflow (t : TrayIx) (p : Port) (ops : List Nat) (s : State) : Nat → List CompIx → CompIx → Option CompIx
  | 0, _, _ => none
  | fuel + 1, visited, at' =>
    match (compOf s at').link with
    | none => none
    | some c =>
      if visited.contains c then none
      else if access s (some t) c = .accessible && !(stepBits s (.comp c)).mark
          && checkMovement 1 (postMove t c true p ops s) s = .pass then some c
      else walkOverflow t p ops s fuel (c :: visited) c

/-- The deposit applied at a compartment, with the answer of R115. -/
def deposit (t : TrayIx) (c : CompIx) (diverted : Bool) (p : Port) (ops : List Nat) (s : State) : Attempt :=
  let v := holding s (.tray t)
  let seq := s.store.journal.nextSeq
  let done := posted t (storeEvent [postMove t c diverted p ops s] false s)
  .done done [.u8 c.1, .u8 (if diverted then 1 else 0), .value (valueOf s v), .u32 seq]

/-- The deposit rule (R133, R134). POST_DIVERTED comes after the AUDIT_STEP, JOURNAL_HIGH and JOURNAL_FULL of the diverted POST
(DESIGN CHOICE, log 37). -/
def depositRule (t : TrayIx) (p : Port) (ops : List Nat) (s : State) : Attempt :=
  match destinationOf s t with
  | none => .refused .badState s
  | some first =>
    match checkMovement 1 (postMove t first false p ops s) s with
    | .pass => deposit t first false p ops s
    | .parked r _ => .parked r (.comp first) s
    | .refused k =>
      if k = .overCap ∨ k = .countRange then
        match walkOverflow t p ops s 16 [first] first with
        | some c =>
          match deposit t c true p ops s with
          | .done done results =>
            .done (raise .postDiverted (.tray t)
              [.u8 first.1, .u8 c.1, .value (valueOf s (holding s (.tray t))), .u32 s.store.journal.nextSeq] done) results
          | other => other
        | none => .refused k (raise .postHeld (.tray t) [.u8 (outcomeCode k), .u8 first.1] s)
      else .refused k s

/-- A post from step 2 of R114: an INVALID tray, a tray that is not COUNTED, and for a re-tried post a tray COUNTED under
another count number are refused (R116); else the pending mark is cleared and the deposit rule applied. -/
def postTry (t : TrayIx) (count : Option (Option CountNumber)) (p : Port) (ops : List Nat) (s : State) : Attempt :=
  let r := trayOf s t
  if r.state = .invalid then .refused .trayInvalid s
  else if r.state ≠ .counted then .refused .badState s
  else if (match count with | some n => decide (r.count ≠ n) | none => false) then .refused .badState s
  else depositRule t p ops (clearPending t s)

/-- POST_HELD for a refused auto-post. For OVER_CAP and COUNT_RANGE the deposit rule has raised the same notice (R119). -/
def raisePostHeld (t : TrayIx) (c : Code) (s : State) : State :=
  if c = .overCap ∨ c = .countRange then s else raise .postHeld (.tray t) [.u8 (outcomeCode c)] s

/-- One auto-post attempt (R118, R119), where one is owed: after a completion or a settlement, or because the destination is
reported accessible while the pending mark stands and the tray is still COUNTED. It is a post from step 2 of R114. -/
def autoPostTry (t : TrayIx) (s : State) : State :=
  let again := look s.recon.reported t && look s.recon.pending t && (trayOf s t).state == .counted
  if look s.recon.attemptDue t || again then
    match postTry t none .office (look s.recon.fillOps t) (clearAutoPost t s) with
    | .done s _ => s
    | .refused c s => raisePostHeld t c s
    | .parked _ _ s => { s with recon := { s.recon with pending := put s.recon.pending t true } }
    | .running _ | .queued _ => s
  else s

end Sys2Proof.Machine
end

