-- ==== Sys2Proof/Machine/CountOps.lean ====
section
/-! DEFINITION. The Count Unit's operations: count numbers (R78), the start of a count or recount (R80 to R83, R93), the
count-waiter list and its pass (R84), completion, failure and abandonment (R76, R88 to R92), the manual count (R94), and the
Counter Link conversation (R71 to R75). -/

namespace Sys2Proof.Machine

/-! ## Records -/

/-- The Count Unit's record, changed. -/
def modCount (f : CountUnit → CountUnit) (s : State) : State := { s with count := f s.count }

/-- The count number given at a start or a manual count (R78). -/
def nextCount (s : State) : CountNumber :=
  match s.count.lastCount with
  | some c =>
    { number := if c.day = s.day.number then (if c.number = 65535 then 1 else c.number + 1) else 1, day := s.day.number }
  | none => { number := 1, day := s.day.number }

/-- The count number given, as the last one and as the tray's. -/
def giveCount (t : TrayIx) (s : State) : State :=
  let n := nextCount s
  modTray t (fun r => { r with count := some n }) (modCount (fun u => { u with lastCount := some n }) s)

/-- The operator numbers of the request that fills a tray, which an auto-post carries (R118). -/
def recordFill (t : TrayIx) (ops : List Nat) (s : State) : State :=
  { s with recon := { s.recon with fillOps := put s.recon.fillOps t ops } }

/-- The station is RUNNING or COLLECTING (R80). -/
def stationBusy (s : State) : Bool := s.count.station == .running || s.count.station == .collecting

/-- The fields of a count source in the part's frames, a DRAWER or POUCH with its recorded session (R204). -/
def sourceFields : Source → List Field
  | .drawer t n => [.u8 0, .u8 t.1, .u16 n]
  | .pouch t n p => [.u8 1, .u8 t.1, .u16 n, .u8 p]
  | .inbound b => [.u8 2, .u8 b.1]
  | .compartment c => [.u8 3, .u8 c.1]
  | .loose => [.u8 4]

/-- A count number as a field, 0 where the tray has none. -/
def countField (c : Option CountNumber) : Field := .u16 ((c.map (·.number)).getD 0)

/-- COUNT_DONE with the count number, the source, the counted value and the flags (R88). -/
def raiseCountDone (t : TrayIx) (s : State) : State :=
  let r := trayOf s t
  raise .countDone (.tray t)
    ([countField r.count] ++ (r.source.map sourceFields).getD []
      ++ [.value (valueOf s (holding s (.tray t))), .u8 (trayFlagBits r.flags)]) s

/-- The source marked as the table of R81 gives, and the change reported. -/
def markSource (t : TrayIx) (src : Source) (s : State) : State :=
  report
    (match src with
     | .drawer i _ => modTill i (fun r => { r with state := .counting }) s
     | .pouch i _ n =>
       modTill i (fun r => { r with pouches := modPouch n (fun p => { p with state := .counting }) r.pouches }) s
     | .inbound b => modBag b (fun r => { r with state := .counting }) s
     | .compartment c => markOut c t s
     | .loose => s)

/-! ## The start (R80 to R83, R93) -/

/-- What a source moves into the tray (R81). -/
def sourceVector (s : State) (src : Source) : Counts :=
  match sourceContainer src with
  | some c => holding s c
  | none => Counts.zero

/-- The COUNT_OUT of a source's whole holding into a tray (R82), with MANUAL where a manual count makes it (R181). -/
def countOutMove (src : Source) (t : TrayIx) (p : Port) (ops : List Nat) (manual : Bool) (s : State) : Movement :=
  { kind := .countOut, src := sourceContainer src, dst := some (.tray t), vec := sourceVector s src, port := p, ops
    flags := { MoveFlags.clear with manual }, held := false }

/-- The checks of a start that moves nothing, written as a movement of a zero vector: 1, 2 and 3, with 6 and 7 for a
COMPARTMENT source (R82). -/
def emptyStart (src : Option Source) (p : Port) (ops : List Nat) : Movement :=
  { kind := .countOut
    src := match src with | some (.compartment c) => some (.comp c) | _ => none
    dst := none, vec := Counts.zero, port := p, ops, flags := MoveFlags.clear, held := false }

/-- The conversation begins with SELECT (R72), at once or behind an ABANDON exchange in progress (R71). -/
def sendSelect (s : State) : State :=
  modCount
    (fun u => match u.exchange with
      | none => { u with exchange := some .select }
      | some _ => { u with selectWaiting := true })
    s

/-- The count runs: its slot is RUNNING, the station RUNNING, one journal entry is held for the completion by the caller, and
SELECT is sent (R83, R93, R193). -/
def beginRun (p : Port) (tag : Tag) (ops : List Nat) (t : TrayIx) (outSeq : Option Nat) (s : State) : State :=
  let run : RunningCount := { port := p, tag, ops, tray := t, outSeq, mask := 0, reread := false, step := none }
  setSlot p tag .running (sendSelect (modCount (fun u => { u with station := .running, running := some run }) s))

/-- What a start of a first count makes beside the Store's event (R83). -/
def startCount (p : Port) (tag : Tag) (ops : List Nat) (src : Source) (t : TrayIx) (moved : Counts) (reject : Nat)
    (outSeq : Option Nat) (s : State) : State :=
  let s := modTray t
    (fun r => { r with state := .counting, source := some src, prior := moved, rejects := 0, flags := TrayFlags.clear
                       rejectLimit := reject }) s
  beginRun p tag ops t outSeq (recordFill t ops (giveCount t (markSource t src s)))

/-- The tray a START COUNT takes (R80, step 5). -/
def chooseTray (s : State) : Option TrayIx → Option TrayIx
  | some t => if (trayOf s t).state = .empty then some t else none
  | none => if (trayOf s 0).state = .empty then some 0 else if (trayOf s 1).state = .empty then some 1 else none

/-- START COUNT from step 2 of R80. -/
def startTry (p : Port) (tag : Tag) (ops : List Nat) (arg : SourceArg) (tray : Option TrayIx) (reject : Nat)
    (s : State) : Attempt :=
  if s.count.station = .down then .refused .counterDown s
  else match sourceOf s arg with
    | none => .refused .badState s
    | some src =>
      if !sourceReady s src then .refused .badState s
      else if stationBusy s then .queued .counter
      else match chooseTray s tray with
        | none => .queued .tray
        | some t =>
          let moved := sourceVector s src
          let none? := allZero moved
          let m := if none? then emptyStart (some src) p ops else countOutMove src t p ops false s
          match checkMovement (if none? then 1 else 2) m s with
          | .refused k => .refused k s
          | .parked r c => .parked r c s
          | .pass =>
            let seq := s.store.journal.nextSeq
            .running (startCount p tag ops src t moved reject (if none? then none else some seq)
              (storeEvent (if none? then [] else [m]) true s))

/-- RECOUNT from step 2 of R93. -/
def recountTry (p : Port) (tag : Tag) (ops : List Nat) (t : TrayIx) (reject : Nat) (s : State) : Attempt :=
  let r := trayOf s t
  let isOpen := match r.source with | some (.drawer i n) => sourceOpen s (.drawer i n)
                                    | some (.pouch i n k) => sourceOpen s (.pouch i n k)
                                    | _ => true
  if s.count.station = .down then .refused .counterDown s
  else if r.state ≠ .counted && r.state ≠ .invalid then .refused .badState s
  else if r.state == .counted && !isOpen then .refused .badState s
  else if stationBusy s then .queued .counter
  else match checkMovement 1 (emptyStart none p ops) s with
    | .refused k => .refused k s
    | .parked k c => .parked k c s
    | .pass =>
      let s := storeEvent [] true s
      let s := modTray t (fun r => { r with state := .counting, rejects := 0, flags := TrayFlags.clear
                                            rejectLimit := reject }) s
      .running (beginRun p tag ops t none (recordFill t ops (giveCount t (clearPending t (report s)))))

/-! ## The count-waiter list (R84) -/

/-- The count-waiter list, replaced. -/
def setCountWaiters (ws : List CountWaiter) (s : State) : State :=
  modCount (fun u => { u with waiters := ws }) s

/-- The waiter of a port and tag. -/
def isCountWaiter (p : Port) (tag : Tag) (w : CountWaiter) : Bool := w.port == p && w.tag == tag

/-- The waiters selected leave the list with no answer. -/
def discardCounts (sel : CountWaiter → Bool) (s : State) : State :=
  setCountWaiters (s.count.waiters.filter fun w => !sel w) s

/-- The waiters selected are answered with a code, in list order, and leave the list. -/
def dismissCounts (sel : CountWaiter → Bool) (c : Code) (s : State) : State :=
  (s.count.waiters.filter sel).foldl (fun acc w => answer w.port w.tag c 0 [] acc) (discardCounts sel s)

/-- A START COUNT or RECOUNT parks at the end of the list and its slot becomes PARKED (R84, R193). -/
def parkCount (p : Port) (tag : Tag) (ops : List Nat) (ask : CountAsk) (reject : Nat) (park : CountPark)
    (s : State) : State :=
  let w : CountWaiter := { port := p, tag, ask, reject, ops, park, elapsed := 0 }
  setSlot p tag .parked (setCountWaiters (s.count.waiters ++ [w]) s)

/-- A waiter keeps its place with its park reason brought up to date (R84). -/
def reparkCount (p : Port) (tag : Tag) (park : CountPark) (s : State) : State :=
  setCountWaiters (s.count.waiters.map fun w => if isCountWaiter p tag w then { w with park } else w) s

/-- What a waiter's needs lack, where they are not met (R84). -/
def countNeed (s : State) (ask : CountAsk) : Option CountPark :=
  if s.count.station ≠ .idle then some .counter
  else match ask with
    | .start _ tray => if (chooseTray s tray).isSome then none else some .tray
    | .recount _ => none

/-- The attempt at a count waiter's request (R84). -/
def countTry (w : CountWaiter) (s : State) : Attempt :=
  match w.ask with
  | .start arg tray => startTry w.port w.tag w.ops arg tray w.reject s
  | .recount t => recountTry w.port w.tag w.ops t w.reject s

/-- The access-waiter form of a count waiter's request; a RECOUNT never parks WAIT_ACCESS. -/
def CountAsk.access (ask : CountAsk) (reject : Nat) : AccessReq :=
  match ask with
  | .start arg tray => .startCount arg tray reject
  | .recount _ => .startCount .loose none reject

/-- The pass over the count-waiter list, in list order, which ends when a count starts (R84). -/
def countPassOver : List CountWaiter → State → State
  | [], s => s
  | w :: ws, s =>
    match countNeed s w.ask with
    | some park => countPassOver ws (reparkCount w.port w.tag park s)
    | none =>
      let rest := discardCounts (isCountWaiter w.port w.tag)
      match countTry w s with
      | .running s => rest s
      | .refused c s => countPassOver ws (answer w.port w.tag c 0 [] (rest s))
      | .parked r c s => countPassOver ws (parkAccess w.port w.tag w.ops (w.ask.access w.reject) r c (rest s))
      | .queued park => countPassOver ws (reparkCount w.port w.tag park s)
      | .done s _ => countPassOver ws s

/-- A pass over the count-waiter list (R84). -/
def countPass (s : State) : State := countPassOver s.count.waiters s

/-! ## The end of a count (R76, R88 to R92) -/

/-- ABANDON is sent at once; a reply still awaited is disregarded (R71). -/
def sendAbandon (s : State) : State :=
  modCount (fun u => { u with exchange := some .abandon, selectWaiting := false }) s

/-- The tray of a count that ends without a result becomes INVALID, and the held entry is released (R89). -/
def invalidate (t : TrayIx) (s : State) : State :=
  releaseEntry (report (modTray t (fun r => { r with state := .invalid }) s))

/-- A failed count sends ABANDON unless a STOP reply ended it (R74, R89). -/
def abandonsOn : FaultReason → Bool
  | .noResponse | .linkFault => true
  | .jam | .rejectLimit | .feedFault | .scaleFault => false

/-- The count in progress fails (R76, R89). -/
def failCount (reason : FaultReason) (s : State) : State :=
  match s.count.running with
  | none => s
  | some r =>
    let faults := if machineFault reason then s.count.faults + 1 else s.count.faults
    let down := machineFault reason && decide (2 ≤ faults)
    let s := if abandonsOn reason then sendAbandon s
      else modCount (fun u => { u with exchange := none, selectWaiting := false }) s
    let s := modCount
      (fun u => { u with station := if down then .down else .idle, faults, running := none }) s
    let s := invalidate r.tray s
    let s := raise .countFault (.tray r.tray) [.u8 (faultDetail reason), countField (trayOf s r.tray).count] s
    let s := answer r.port r.tag .countFault (faultDetail reason) [] s
    if down then
      dismissCounts (fun _ => true) .counterDown (raise .counterDown .station [.u8 (faultDetail reason)] s)
    else signal .countPass s

/-- The count in progress is abandoned: by WITHDRAW, RESET OPERATIONS, a link reset or power return (R90 to R92, R96). -/
def abandonCount (s : State) : State :=
  match s.count.running with
  | none => s
  | some r =>
    signal .countPass
      (invalidate r.tray (modCount (fun u => { u with station := .idle, running := none }) (sendAbandon s)))

/-- A COUNT_RESULT into a tray (R8, R88, R94). -/
def countResultMove (t : TrayIx) (v : Counts) (p : Port) (ops : List Nat) (flags : MoveFlags) (held : Bool) : Movement :=
  { kind := .countResult, src := none, dst := some (.tray t), vec := v, port := p, ops, flags, held }

/-- The completion handed to the Reconciliation Unit, with whether the source is open (R78, R88). -/
def handOver (t : TrayIx) (s : State) : State :=
  match (trayOf s t).source with
  | some src => reconcile src (sourceOpen s src) t s
  | none => s

/-- A count completes with its counted vector, reject count and flags (R88). JOURNAL_HIGH and JOURNAL_FULL of the event come before
COUNT_DONE (DESIGN CHOICE, log 37), and COUNT_DONE before what the Reconciliation Unit raises (DEDUCED from R88's list, log 37). -/
def completeCount (v : Counts) (rejects : Nat) (flags : TrayFlags) (s : State) : State :=
  match s.count.running with
  | none => s
  | some r =>
    let seq := s.store.journal.nextSeq
    let mf : MoveFlags :=
      { MoveFlags.clear with uncertain := trayUncertain flags, saturated := flags.saturated }
    let s := storeEvent [countResultMove r.tray v r.port r.ops mf true] false s
    let s := report (modTray r.tray (fun x => { x with state := .counted, rejects, flags }) s)
    let s := modCount (fun u => { u with station := .idle, faults := 0, running := none, exchange := none }) s
    let s := raiseCountDone r.tray s
    let s := answer r.port r.tag .ok 0
      ([.u8 r.tray.1, countField (trayOf s r.tray).count, .items v, .value (valueOf s v), .u16 rejects,
        .u8 (trayFlagBits flags), .u16 flags.uncertain.toNat]
        ++ optional (r.outSeq.map fun n => [.u32 n]) ++ [.u32 seq]) s
    signal .countPass (handOver r.tray s)

/-! ## The manual count (R94) -/

/-- The flags of a manual count. -/
def TrayFlags.byHand : TrayFlags := { manual := true, uncertain := 0, saturated := false }

/-- What an applied manual count makes beside the Store's event (R94). COUNT_DONE comes after the AUDIT_STEP, JOURNAL_HIGH and
JOURNAL_FULL of that event (DESIGN CHOICE, log 37), and before what the Reconciliation Unit raises (DEDUCED, log 37). -/
def manualDone (t : TrayIx) (ops : List Nat) (outSeq : Option Nat) (seq : Nat) (s : State) : Attempt :=
  let s := modTray t (fun r => { r with state := .counted, flags := TrayFlags.byHand, rejects := 0 }) s
  let s := raiseCountDone t (recordFill t ops (giveCount t (report s)))
  .done (handOver t s)
    ([countField (trayOf s t).count] ++ optional (outSeq.map fun n => [.u32 n]) ++ [.u32 seq])

/-- MANUAL COUNT of an EMPTY tray, from the check of its source (R94). The order of its notices is `manualDone`'s (DESIGN CHOICE,
log 37). -/
def manualTry (p : Port) (ops : List Nat) (t : TrayIx) (v : Counts) (arg : SourceArg) (s : State) : Attempt :=
  if (trayOf s t).state ≠ .empty then .refused .badState s
  else if !sourceNamed s arg then .refused .badOperand s
  else match sourceOf s arg with
    | none => .refused .badOperand s
    | some src =>
      if !sourceReady s src then .refused .badState s
      else
        let moved := sourceVector s src
        let none? := allZero moved
        let out := countOutMove src t p ops true s
        let result := countResultMove t v p ops { MoveFlags.clear with manual := true } false
        match checkEvent (if none? then 1 else 2) [if none? then emptyStart (some src) p ops else out, result] s with
        | .refused k => .refused k s
        | .parked r c => .parked r c s
        | .pass =>
          let seq := s.store.journal.nextSeq
          let s := storeEvent (if none? then [result] else [out, result]) false s
          let s := modTray t (fun r => { r with source := some src, prior := moved }) (markSource t src s)
          if none? then manualDone t ops none seq s else manualDone t ops (some seq) (seqAfter seq) s

/-- MANUAL COUNT of an INVALID tray (R94). The order of its notices is `manualDone`'s (DESIGN CHOICE, log 37). -/
def manualInvalid (p : Port) (ops : List Nat) (t : TrayIx) (v : Counts) (s : State) : Attempt :=
  let m := countResultMove t v p ops { MoveFlags.clear with manual := true } false
  match checkMovement 1 m s with
  | .refused k => .refused k s
  | .parked r c => .parked r c s
  | .pass => manualDone t ops none s.store.journal.nextSeq (storeEvent [m] false s)

/-! ## The Counter Link conversation (R71 to R75, R207) -/

/-- The payload of a reply whose type byte, length and CRC agree (R207). -/
def reply? (type size : Nat) (block : List Byte) : Option (List Byte) :=
  match payloadOf? type block with
  | some bs => if bs.length = size then some bs else none
  | none => none

/-- The accepted-note mask: the NOTE indices whose entries are ACTIVE or RETIRED (R72). -/
def noteMask (s : State) : BitVec 16 :=
  BitVec.ofNat 16 (bitSet ((List.finRange 16).map fun i =>
    let d := look s.store.denoms i
    d.status ≠ .unused && d.form == some .note))

/-- SET-UP sent, with the mask and the reject limit; the step limit starts (R72). -/
def sendSetUp (s : State) : State :=
  match s.count.running with
  | none => s
  | some r =>
    let mask := noteMask s
    let run := { r with mask, step := some { elapsed := 0, limit := s.count.stepLimit } }
    modCount (fun u => { u with running := some run
                                exchange := some (.setUp r.tray mask (trayOf s r.tray).rejectLimit) }) s

/-- A command sent, its reply awaited. -/
def sendCommand (c : LinkCommand) (s : State) : State := modCount (fun u => { u with exchange := some c }) s

/-- The ABANDON exchange is over, by its reply or without one; a SELECT that waited for it is sent (R71). -/
def abandonOver (s : State) : State :=
  modCount (fun u => { u with exchange := if u.selectWaiting then some .select else none, selectWaiting := false }) s

/-- A RESULT exchange fails: RESULT is sent once more, and a second failure fails the count (R75). -/
def resultFails (s : State) : State :=
  match s.count.running with
  | none => s
  | some r =>
    if r.reread then failCount .linkFault s
    else modCount (fun u => { u with running := some { r with reread := true }, exchange := some .result }) s

/-- The STATUS reply acted on by the table of R74. -/
def statusTaken (flags reason : Byte) (s : State) : State :=
  if flags.getLsbD 0 then
    match reason.toNat with
    | 1 => failCount .jam s
    | 2 => failCount .rejectLimit s
    | 3 => failCount .feedFault s
    | 4 => failCount .scaleFault s
    | _ => failCount .linkFault s
  else if flags.getLsbD 1 then sendCommand .result s
  else failCount .linkFault s

/-- The number of three bytes at a place of a payload. -/
def threeAt (bs : List Byte) (k : Nat) : Nat := numberOf ((bs.drop (3 * k)).take 3)

/-- The note count a RESULT payload gives for an index (R207). -/
def noteCount (bs : List Byte) (i : DenomIx) : Nat := threeAt bs i.1

/-- The weight a RESULT payload gives for an index (R207). -/
def coinWeight (bs : List Byte) (i : DenomIx) : Nat := threeAt bs (16 + i.1)

/-- Whether an index is COIN and not UNUSED. -/
def coinInUse (s : State) (i : DenomIx) : Bool :=
  let d := look s.store.denoms i
  d.status ≠ .unused && d.form == some .coin

/-- The content fault of R75: a nonzero note count outside the mask sent, or a nonzero weight at an index that is not COIN or
is UNUSED. -/
def contentFault (mask : BitVec 16) (bs : List Byte) (s : State) : Bool :=
  (List.finRange 16).any fun i =>
    (noteCount bs i ≠ 0 && !mask.getLsbD i.1) || (coinWeight bs i ≠ 0 && !coinInUse s i)

/-- One index of the counted vector (R86, R87). -/
def convertIndex (mask : BitVec 16) (bs : List Byte) (s : State) (i : DenomIx) : Converted :=
  if mask.getLsbD i.1 then convertNote (noteCount bs i)
  else if coinInUse s i then convertCoin (coinWeight bs i) ((look s.store.denoms i).unitMass.getD 1)
  else { count := 0, saturated := false, uncertain := false }

/-- The counted vector of a RESULT payload (R87). -/
def countedVector (mask : BitVec 16) (bs : List Byte) (s : State) : Counts :=
  Vector.ofFn fun i => (convertIndex mask bs s i).count

/-- The flags the conversion gives the tray (R86, R87). -/
def countedFlags (mask : BitVec 16) (bs : List Byte) (s : State) : TrayFlags :=
  let all := (List.finRange 16).map (convertIndex mask bs s)
  { manual := false, uncertain := BitVec.ofNat 16 (bitSet (all.map (·.uncertain)))
    saturated := all.any (·.saturated) }

/-- A RESULT reply that passes its check: the recovered count after a re-read, the content examined, the result converted and
the count completed (R75, R86 to R88). -/
def resultTaken (bs : List Byte) (s : State) : State :=
  match s.count.running with
  | none => s
  | some r =>
    let s := if r.reread then modCount (fun u => { u with recovered := min 65535 (u.recovered + 1) }) s else s
    if contentFault r.mask bs s then failCount .linkFault s
    else completeCount (countedVector r.mask bs s) (min 65535 (threeAt bs 32)) (countedFlags r.mask bs s) s

end Sys2Proof.Machine
end

