-- ==== Sys2Proof/Machine/CourierOps.lean ====
section
/-! DEFINITION. The Courier Unit's operations: tags and records (R146), staging and windows (R151 to R158), the manifest (R166,
R167), and the beginning and the end of a handover session (R163, R173, R174). -/

namespace Sys2Proof.Machine

/-! ## Bags and tags -/

/-- The FREE record of lowest index (R147, R170). -/
def lowestFree (s : State) : Option BagIx := (List.finRange 32).find? fun b => (bagOf s b).state == .free

/-- A tag number is in use: a record that is not FREE holds it (R146). -/
def tagInUse (s : State) (tag : Nat) : Bool :=
  (List.finRange 32).any fun b => (bagOf s b).state ≠ .free && (bagOf s b).tag == some tag

/-- A bag is OUTBOUND and in a state. -/
def outboundIn (s : State) (b : BagIx) (st : BagState) : Bool :=
  (bagOf s b).dir == some .outbound && (bagOf s b).state == st

/-! ## Windows (R153 to R158) -/

/-- A handover session exists for the window. -/
def sessionAt (s : State) (w : WindowIx) : Bool :=
  match s.courier.session with
  | some x => x.window == w
  | none => false

/-- A STAGED bag returned to CLOSED: its window absent, its tag kept (R156). -/
def unstaged (r : BagRec) : BagRec := { r with state := .closed, window := none }

/-- A window is unstaged (R156). -/
def unstage (w : WindowIx) (s : State) : State :=
  let s := (windowOf s w).staged.foldl (fun acc b => modBag b unstaged acc) s
  modWindow w (fun r => { r with staged := [], unstagePending := false }) s

/-- The content of the window notices: the day-clock time and the number of bags listed before the change (R153). -/
def windowContent (s : State) (w : WindowIx) : List Field := [.u32 s.day.clock, .u8 (windowOf s w).staged.length]

/-- OPEN WINDOW and WINDOW_OPEN on a window (R155). -/
def openWindowAt (w : WindowIx) (s : State) : Except Code State :=
  let r := windowOf s w
  if s.day.state = .closed then .error .dayNotOpen
  else if r.badge.isNone || r.comp.isNone then .error .badState
  else match r.state with
    | .opened => .ok s
    | .planned | .closed | .missed =>
      .ok (modWindow w (fun r => { r with state := .opened, unstagePending := false })
        (raise .windowOpen (.window w) (windowContent s w) s))

/-- A window's list unstaged at once, or at the end of the session for it (R156, R157). -/
def unstageOrWait (w : WindowIx) (s : State) : State :=
  if sessionAt s w then modWindow w (fun r => { r with unstagePending := true }) s else unstage w s

/-- CLOSE WINDOW and WINDOW_CLOSE on a window (R156). -/
def closeWindowAt (w : WindowIx) (s : State) : State :=
  match (windowOf s w).state with
  | .planned | .opened =>
    unstageOrWait w (modWindow w (fun r => { r with state := .closed })
      (raise .windowClosed (.window w) (windowContent s w) s))
  | .closed | .missed => s

/-- The missed opening of a window (R157). -/
def missWindow (w : WindowIx) (s : State) : State :=
  unstageOrWait w (modWindow w (fun r => { r with state := .missed })
    (raise .windowMissed (.window w) (windowContent s w) s))

/-- Every window set to a state with an empty list, and every STAGED bag returned to CLOSED (R29, R158). -/
def resetWindows (st : WindowState) (s : State) : State :=
  { s with courier :=
    { s.courier with
      bags := s.courier.bags.map fun r => if r.state = .staged then unstaged r else r
      windows := s.courier.windows.map fun r => { r with state := st, staged := [], unstagePending := false } } }

/-! ## The manifest (R166, R167) -/

/-- The value of a bag's holding. -/
def bagValue (s : State) (b : BagIx) : Int := valueOf s (holding s (.bag b))

/-- The manifest checksum of a window's staged list as it stands: the CRC over eight bytes for each bag (R166). -/
def manifestChecksum (s : State) (w : WindowIx) : BitVec 16 :=
  crc ((windowOf s w).staged.flatMap fun b => bytes4 ((bagOf s b).tag.getD 0) ++ bytes4 (bagValue s b).toNat)

/-- The place of a tag number in a window's staged list, counted from 0, with its bag. -/
def listedTag (s : State) (w : WindowIx) (tag : Nat) : Option (Nat × BagIx) :=
  ((windowOf s w).staged.zipIdx.find? fun p => (bagOf s p.1).tag == some tag).map fun p => (p.2, p.1)

/-- Bags of a window's list that are not in the scanned set (R168, R171). -/
def unscanned (s : State) (x : Session) : List BagIx :=
  (windowOf s x.window).staged.filter fun b => !x.scanned.contains b

/-! ## The session (R162, R163, R173, R174) -/

/-- The session that ARRIVE begins, with the latch of the handover compartment held (R163). -/
def beginSession (w : WindowIx) (badge : Nat) (c : CompIx) (s : State) : State :=
  let x : Session :=
    { window := w, badge, comp := c, manifestSent := false, checksum := none, scanned := [], errors := 0
      inbound := [], idle := 0 }
  holdLatch c { s with courier := { s.courier with session := some x } }

/-- The effects common to every ending (R174). -/
def endSession (x : Session) (s : State) : State :=
  let s := liftLatch x.comp { s with courier := { s.courier with session := none } }
  let s := parkingEnded (fun _ => true) true (signal .sessionPass s)
  report (if (windowOf s x.window).unstagePending then unstage x.window s else s)

/-- A session ended without confirmation: by DEPART or an abort (R173). -/
def abortSession (cause : AbortCause) (x : Session) (s : State) : State :=
  let content : List Field :=
    [.u8 (position abortCauseNames cause), .u8 (windowOf s x.window).staged.length, .u8 x.inbound.length]
  let s := x.inbound.foldl (fun acc b => modBag b (fun _ => BagRec.free) acc) s
  raise .handoverAborted (.window x.window) content (endSession x s)

/-- The handover session, where one exists, aborted. -/
def abortAny (cause : AbortCause) (s : State) : State :=
  match s.courier.session with
  | some x => abortSession cause x s
  | none => s

end Sys2Proof.Machine
end

