-- ==== Sys2Proof/Machine/DayOps.lean ====
section
/-! DEFINITION. The Day Unit's operations: the completion check and the completion of a close (R28, R29), the opening of a day
(R26), and the running of the Day Plan (R33 to R38). -/

namespace Sys2Proof.Machine

/-- The Day Unit's record, changed. -/
def modDay (f : DayUnit → DayUnit) (s : State) : State := { s with day := f s.day }

/-- DAY_STATE with the day state and the day number as they stand (R24). -/
def raiseDayState (s : State) : State :=
  raise .dayState .day [.u8 (position dayStateNames s.day.state), .u16 s.day.number] s

/-! ## The close (R28, R29) -/

/-- A pouch stands RECEIVED or COUNTING. -/
def pouchBusy (p : Pouch) : Bool := p.state == .received || p.state == .counting

/-- An inbound bag stands RECEIVED or COUNTING. -/
def inboundBusy (r : BagRec) : Bool := r.dir == some .inbound && (r.state == .received || r.state == .counting)

/-- Every condition of the completion check holds (R28). -/
def quiet (s : State) : Bool :=
  (s.float.tills.all fun r => r.state == .idle || r.state == .suspended)
    && (s.float.tills.all fun r => !r.pouches.any pouchBusy)
    && (s.courier.bags.all fun r => !inboundBusy r)
    && (s.count.trays.all fun r => r.state == .empty)
    && s.courier.session.isNone

/-- The close completes (R29). -/
def completeClose (s : State) : State :=
  let s := resetWindows .closed (modDay (fun d => { d with state := .closed, planState := .stopped }) s)
  raiseDayState { s with safe := { s.safe with range := SafeRange.empty, frozen := false } }

/-- The completion check (R28). -/
def completionCheck (s : State) : State := if s.day.state == .closing && quiet s then completeClose s else s

/-! ## The opening (R25, R26) -/

/-- The prerequisites of OPEN DAY (R25). -/
def mayOpen (s : State) : Bool :=
  (s.store.denoms.any fun d => d.status == .active) && (reserve s).isSome
    && (compsWithRole s .takings).head?.isSome && (compsWithRole s .changeFund).head?.isSome

/-- The Custody Store's part of OPEN DAY: the base taken, the flows and the totals cleared (R13, R14, R26). -/
def takeBase (s : State) : State :=
  { s with store := { s.store with base := officeSums s, inflow := Counts.zero, outflow := Counts.zero
                                   totals := DayTotals.zero } }

/-- The Courier Unit's part of OPEN DAY (R26, R158): HANDED and FREE records FREE with a zero holding, STAGED bags CLOSED, every
window PLANNED. -/
def freeHanded (s : State) : State :=
  let gone (b : BagIx) : Bool := (bagOf s b).state == .handed || (bagOf s b).state == .free
  let bags := Vector.ofFn fun b => if gone b then BagRec.free else bagOf s b
  let holds := Vector.ofFn fun b => if gone b then Counts.zero else look s.store.bagHold b
  resetWindows .planned
    { s with courier := { s.courier with bags }, store := { s.store with bagHold := holds } }

/-! ## The Day Plan (R33 to R38) -/

/-- The action of an entry. -/
def planAt (s : State) (i : PlanIx) : PlanEntry := look s.day.plan i

/-- The live part of a plan: the entries up to and including the first END (R33). -/
def liveIn : List PlanEntry → List PlanEntry
  | [] => []
  | e :: es => if e.action == .stop then [e] else e :: liveIn es

/-- Entry times are non-decreasing along a list (R33). -/
def inOrder : List PlanEntry → Bool
  | [] => true
  | [_] => true
  | a :: b :: es => decide (a.time ≤ b.time) && inOrder (b :: es)

/-- The times of the live part of a plan are non-decreasing (R33, R34). -/
def planOrdered (plan : Vector PlanEntry 64) : Bool := inOrder (liveIn plan.toList)

/-- Entries of a list that fall due: those at or before the clock, to the first later one or through the first END. -/
def dueIn (s : State) : List PlanIx → List PlanIx
  | [] => []
  | i :: is =>
    if s.day.clock < (planAt s i).time then []
    else if (planAt s i).action == .stop then [i]
    else i :: dueIn s is

/-- The entries from the pointer onwards that are due (R36, R38). -/
def dueSet (s : State) : List PlanIx := dueIn s ((List.finRange 64).drop s.day.pointer)

/-- A plan action handed to its owner, which carries it out or refuses it with a code (R37). -/
def planAction (a : PlanAction) (s : State) : Except Code State :=
  match a with
  | .windowOpen w => openWindowAt w s
  | .windowClose w => .ok (closeWindowAt w s)
  | .openRange low high => openRangeTo low.1 high s
  | .lockAll => lockAllNow s
  | .freeze => .ok (freezeNow s)
  | .pickupRound => .ok (pickupRound s)
  | .stop => .ok s

/-- The pointer advanced past an entry; the plan becomes ENDED at an END and past entry 63 (R35, R37). -/
def passEntry (i : PlanIx) (s : State) : State :=
  modDay
    (fun d => { d with pointer := i.1 + 1
                       planState := if (look d.plan i).action == .stop || i.1 == 63 then .ended else d.planState }) s

/-- An entry executed, with PLAN_ENTRY_REFUSED where its owner refuses it (R37). -/
def executeEntry (i : PlanIx) (s : State) : State :=
  match planAction (planAt s i).action (passEntry i s) with
  | .ok t => t
  | .error c => raise .planEntryRefused (.planEntry i) [.u8 (outcomeCode c)] (passEntry i s)

/-- An entry executed at catch-up: an opening whose closing stands later in the set is missed (R38). -/
def catchUpEntry (set : List PlanIx) (s : State) (i : PlanIx) : State :=
  match (planAt s i).action with
  | .windowOpen w =>
    if set.any (fun j => decide (i.1 < j.1) && (planAt s j).action == .windowClose w) then
      missWindow w (passEntry i s)
    else executeEntry i s
  | .windowClose _ | .openRange _ _ | .lockAll | .freeze | .pickupRound | .stop => executeEntry i s

/-- The plan runs: the day is OPEN or CLOSING and the plan RUNNING (R36, R38). -/
def planRuns (s : State) : Bool := s.day.state ≠ .closed && s.day.planState == .running

/-- The plan run at a second (R36). -/
def runPlan (s : State) : State :=
  if planRuns s then (dueSet s).foldl (fun acc i => executeEntry i acc) s else s

/-- Catch-up (R38). -/
def catchUp (s : State) : State :=
  if planRuns s then (dueSet s).foldl (catchUpEntry (dueSet s)) s else s

/-- What OPEN DAY makes, in its order, up to its answer (R26). -/
def openTheDay (s : State) : State :=
  let s := modDay (fun d => { d with number := (d.number + 1) % 65536, state := .opened, clockLimit := false }) s
  let s := freeHanded (takeBase s)
  raiseDayState (catchUp (modDay (fun d => { d with planState := .running, pointer := 0 }) s))

/-- The clock after one second (R31). -/
def tickClock (d : DayUnit) : Nat :=
  if d.clock < Config.lastSecond then d.clock + 1 else if d.state = .closed then 0 else Config.lastSecond

/-- At this second the clock stays at 86,399 for the first time with the clock-limit flag clear (R31). -/
def limitReached (d : DayUnit) : Bool :=
  d.state ≠ .closed && decide (Config.lastSecond ≤ d.clock) && !d.clockLimit

end Sys2Proof.Machine
end

