-- ==== Sys2Proof/Machine/Passes.lean ====
section
/-! DEFINITION. The access waiters and the passes over them (R129, R130), the one pass of RELEASE STEP (R23), the passes an event
calls for, and what every request goes through from its slot to its answer (R189 to R193, R195). -/

namespace Sys2Proof.Machine

/-! ## The requests that may park in the access-waiter list -/

/-- A one-movement request's attempt: the movement checked and applied (R135, R136). -/
def moveTry (m : Movement) (results : State → List Field) (s : State) : Attempt :=
  match checkMovement 1 m s with
  | .refused k => .refused k s
  | .parked r c => .parked r c s
  | .pass =>
    let done := storeEvent [m] false s
    .done done (results done ++ [.u32 s.store.journal.nextSeq])

/-- The TRANSFER movement (R135). -/
def transferMove (src dst : CompIx) (v : Counts) (p : Port) (ops : List Nat) : Movement :=
  { kind := .transfer, src := some (.comp src), dst := some (.comp dst), vec := v, port := p, ops
    flags := MoveFlags.clear, held := false }

/-- The ADJUST movement (R136). -/
def adjustMove (c : CompIx) (v : Counts) (p : Port) (ops : List Nat) : Movement :=
  { kind := .adjust, src := none, dst := some (.comp c), vec := v, port := p, ops, flags := MoveFlags.clear
    held := false }

/-- The BAG_FILL movement (R148). -/
def fillMove (b : BagIx) (c : CompIx) (v : Counts) (p : Port) (ops : List Nat) : Movement :=
  { kind := .bagFill, src := some (.comp c), dst := some (.bag b), vec := v, port := p, ops
    flags := MoveFlags.clear, held := false }

/-- FILL BAG from the check of the bag (R148). -/
def fillTry (p : Port) (ops : List Nat) (b : BagIx) (c : CompIx) (v : Counts) (s : State) : Attempt :=
  if !outboundIn s b .opened then .refused .badState s
  else moveTry (fillMove b c v p ops) (fun t => [.value (bagValue t b)]) s

/-- The attempt at a request of the access-waiter list, from the step its own chapter gives (R130). -/
def accessTry (p : Port) (tag : Tag) (ops : List Nat) (req : AccessReq) (s : State) : Attempt :=
  match req with
  | .startCount source tray reject => startTry p tag ops source tray reject s
  | .manualCount t v source => manualTry p ops t v source s
  | .postTray t count => postTry t (some count) p ops s
  | .transfer src dst v => moveTry (transferMove src dst v p ops) (fun _ => []) s
  | .adjust c v => moveTry (adjustMove c v p ops) (fun _ => []) s
  | .fillBag b c v => fillTry p ops b c v s

/-- A START COUNT that waits for the station or a tray, in the count-waiter list (R84). -/
def queueCount (p : Port) (tag : Tag) (ops : List Nat) (req : AccessReq) (park : CountPark) (s : State) : State :=
  match req with
  | .startCount source tray reject => parkCount p tag ops (.start source tray) reject park s
  | .manualCount _ _ _ | .postTray _ _ | .transfer _ _ _ | .adjust _ _ | .fillBag _ _ _ => s

/-- The attempt a new request makes, and what becomes of the request (R193). -/
def accessArrival (p : Port) (tag : Tag) (ops : List Nat) (req : AccessReq) (s : State) : State :=
  match accessTry p tag ops req s with
  | .refused c t => answer p tag c 0 [] t
  | .parked r c t => parkAccess p tag ops req r c t
  | .done t results => answer p tag .ok 0 results t
  | .running t => t
  | .queued park => queueCount p tag ops req park s

/-! ## The passes -/

/-- One access waiter re-tried, where it still waits (R130). -/
def retryAccess (s : State) (w : AccessWaiter) : State :=
  if s.safe.waiters.any (isAccessWaiter w.port w.tag) then
    let rest := discardAccess (isAccessWaiter w.port w.tag)
    match accessTry w.port w.tag w.ops w.req s with
    | .refused c t => answer w.port w.tag c 0 [] (rest t)
    | .parked r c t => reparkAccess w.port w.tag r c t
    | .done t results => answer w.port w.tag .ok 0 results (rest t)
    | .running t => rest t
    | .queued park => queueCount w.port w.tag w.ops w.req park (rest s)
  else s

/-- A re-try pass over the access waiters concerned, in list order (R130). -/
def accessPass (concerned : AccessWaiter → Bool) (s : State) : State :=
  (s.safe.waiters.filter concerned).foldl retryAccess s

/-- A waiter parked with a reason for a container. -/
def waitsOn (reason : AccessReason) (c : Container) (w : AccessWaiter) : Bool := w.reason == reason && w.container == c

/-- A float waiter parked AUDIT for a container. -/
def floatWaitsAudit (c : Container) (w : FloatWaiter) : Bool := w.park == .access .audit c

/-- The one pass of RELEASE STEP: the float and access waiters parked AUDIT for the container, in the order in which they
entered their lists (R23). -/
def stepPass (c : Container) (s : State) : State :=
  let floats := (s.float.waiters.filter (floatWaitsAudit c)).map fun w => (w.stamp, Sum.inl w)
  let others := (s.safe.waiters.filter (waitsOn .audit c)).map fun w => (w.stamp, Sum.inr w)
  let all : List (Nat × (FloatWaiter ⊕ AccessWaiter)) :=
    (floats ++ others).insertionSort fun a b => a.1 ≤ b.1
  all.foldl (fun acc a => match a.2 with
    | .inl w => retryFloat acc w
    | .inr w => retryAccess acc w) s

/-- One pass an event calls for. -/
def runSignal (g : Signal) (s : State) : State :=
  match g with
  | .countPass => countPass s
  | .sessionPass => accessPass (fun w => w.reason == .session) s
  | .countOutPass c => accessPass (waitsOn .countOut (.comp c)) s

/-- The passes an event calls for, in the order they were called for; a pass may call for more. -/
def runSignals : Nat → State → State
  | 0, s => s
  | fuel + 1, s =>
    match s.event.signals with
    | [] => s
    | g :: gs => runSignals fuel (runSignal g { s with event := { s.event with signals := gs } })

/-- Passes enough for one event: each waiter that leaves its list in a pass calls for two more at most. -/
def passFuel (s : State) : Nat := s.event.signals.length + 2 * s.safe.waiters.length + 1

/-- The working notes of an event, empty. -/
def Scratch.empty : Scratch := { signals := [], reported := false }

/-- The end of every event: its passes, the completion check where an owner has reported (R28), and the next frame of each
idle line (R195). -/
def finish (s : State) : State :=
  let s := runSignals (passFuel s) s
  let s := if s.event.reported then completionCheck s else s
  startFrames { s with event := Scratch.empty }

/-- What a command answers: always a next state, since no rule stops the part. -/
abbrev Result := Host.Outcome State Fault Refusal

/-! ## Requests (R189 to R193) -/

/-- Main supply is good and the port's receive line is in service: a frame can arrive (R189, R209). -/
def canReceive (s : State) (p : Port) : Bool := s.retention.supply == .good && (portOf s p).link ≠ .brk

/-- A well-formed frame has arrived: the port is ACTIVE, and the session's idle timer restarts where the port is the Courier
Port (R165, R189). -/
def heard (p : Port) (s : State) : State :=
  let s := modPort p (fun r => { r with link := .active }) s
  match p with
  | .courier => modSession (fun x => { x with idle := 0 }) s
  | .office => s
  | .till => s

/-- The slot takes the request, whose answer will echo this code (R191). -/
def takeSlot (p : Port) (tag : Tag) (code : Nat) (s : State) : State :=
  modPort p (fun r => { r with slots := put r.slots tag { state := .taken, code } }) s

/-- A request frame with a tag of 0 to 7: the slot taken, or a REJECT placed where it is not FREE (R191). -/
def framed (p : Port) (tag : Tag) (code : Nat) (after : State → State) (s : State) : State :=
  if canReceive s p then
    let s := heard p { s with event := Scratch.empty }
    if (slotOf s p tag).state ≠ .free then finish (rejectTag p tag s)
    else finish (after (takeSlot p tag code s))
  else s

/-- A request of a known code: the port's rights checked (R192), then the owner's part. -/
def request (h : Req) (code : Nat) (owner : State → State) (s : State) : State :=
  framed h.port h.tag code
    (fun s => if granted code h.port then owner s else answer h.port h.tag .notPermitted 0 [] s) s

/-- The answer an owner gives at once: the outcome code, the results, and the state it leaves (R193). -/
structure Reply where
  code : Code
  results : List Field
  state : State

/-- A request refused with a code, nothing changed. -/
def Reply.refuse (c : Code) (s : State) : Reply := { code := c, results := [], state := s }

/-- A request answered OK. -/
def Reply.ok (results : List Field) (s : State) : Reply := { code := .ok, results, state := s }

/-- A request answered in the event in which its owner receives it (R193). -/
def immediate (h : Req) (code : Nat) (owner : State → Reply) (s : State) : State :=
  request h code (fun s => answer h.port h.tag (owner s).code 0 (owner s).results (owner s).state) s

/-- An owner's part behind the authorisation check (R20). -/
def authorised (level : Level) (h : Req) (owner : State → Reply) (s : State) : Reply :=
  match authorise level h s with
  | some c => Reply.refuse c s
  | none => owner s

/-- An event that is no request, while main supply is good: its effect between the working notes and the end of the event. -/
def happening (effect : State → State) (s : State) : State :=
  if s.retention.supply = .good then finish (effect { s with event := Scratch.empty }) else s

end Sys2Proof.Machine
end

