-- ==== Sys2Proof/Machine/Counting.lean ====
section
/-! DEFINITION. The requests of the counting station, the trays and the drawers: START COUNT, RECOUNT, MANUAL COUNT, RESTORE
COUNTER, RESET OPERATIONS, POST TRAY and ACCEPT VARIANCE (R77, R80, R91, R93, R94, R107, R114). -/

namespace Sys2Proof.Machine

/-! ## START COUNT (R80) -/

/-- The operands of START COUNT, where step 1 of R80 passes them. -/
def startArg (s : State) (source : Coded SourceArg) (tray : Coded (Option Nat)) (reject : Nat) : Option AccessReq :=
  match source, optionalIx 2 tray with
  | .ok src, some t => if sourceNamed s src && valueIn 0 255 reject then some (.startCount src t reject) else none
  | _, _ => none

/-- An Office request of the access-waiter list as its owner takes it up: authorised, its operands checked, then attempted. -/
def accessRequest (h : Req) (level : Level) (req : Option AccessReq) (s : State) : State :=
  match authorise level h s, req with
  | some c, _ => answer h.port h.tag c 0 [] s
  | none, none => answer h.port h.tag .badOperand 0 [] s
  | none, some r => accessArrival h.port h.tag (recordedOps level h) r s

def execStartCount (h : Req) (source : Coded SourceArg) (tray : Coded (Option Nat)) (reject : Nat) (s : State) : Result :=
  .next (request h ReqCode.startCount (fun s => accessRequest h .one (startArg s source tray reject) s) s)

/-! ## RECOUNT (R93) -/

/-- A RECOUNT attempted, and what becomes of it; it never parks WAIT_ACCESS. -/
def recountArrival (h : Req) (t : TrayIx) (reject : Nat) (s : State) : State :=
  match recountTry h.port h.tag [h.op1] t reject s with
  | .refused c t => answer h.port h.tag c 0 [] t
  | .running t => t
  | .queued park => parkCount h.port h.tag [h.op1] (.recount t) reject park s
  | .parked _ _ t => t
  | .done t _ => t

/-- RECOUNT as the Count Unit takes it up (R93). -/
def recountOwner (h : Req) (tray reject : Nat) (s : State) : State :=
  match authorise .one h s, index? 2 tray with
  | some c, _ => answer h.port h.tag c 0 [] s
  | none, none => answer h.port h.tag .badOperand 0 [] s
  | none, some t =>
    if valueIn 0 255 reject then recountArrival h t reject s else answer h.port h.tag .badOperand 0 [] s

def execRecount (h : Req) (tray reject : Nat) (s : State) : Result :=
  .next (request h ReqCode.recount (recountOwner h tray reject) s)

/-! ## MANUAL COUNT (R94) -/

/-- A manual count of an INVALID tray as a reply. -/
def invalidReply (h : Req) (t : TrayIx) (v : Counts) (s : State) : Reply :=
  match manualInvalid h.port [h.op1, h.op2] t v s with
  | .refused c s => Reply.refuse c s
  | .done s results => Reply.ok results s
  | .parked _ _ s => Reply.refuse .badState s
  | .running s => Reply.refuse .badState s
  | .queued _ => Reply.refuse .badState s

/-- MANUAL COUNT by the state of its tray (R94). A source named for an INVALID tray is disregarded: R94 gives a source for an EMPTY
tray alone, and no answer to this one (DESIGN CHOICE, log 39). -/
def manualByState (h : Req) (t : TrayIx) (v : Counts) (source : Option SourceArg) (s : State) : State :=
  match (trayOf s t).state with
  | .empty =>
    match source with
    | none => answer h.port h.tag .badOperand 0 [] s
    | some src => accessArrival h.port h.tag [h.op1, h.op2] (.manualCount t v src) s
  | .invalid =>
    let r := invalidReply h t v s
    answer h.port h.tag r.code 0 r.results r.state
  | .counting | .counted => answer h.port h.tag .badState 0 [] s

/-- MANUAL COUNT as the Count Unit takes it up: the vector, dual control, the operands, the tray (R94). -/
def manualOwner (h : Req) (tray : Nat) (vec : Coded Counts) (source : Coded (Option SourceArg)) (s : State) : State :=
  match unsignedArg s vec, authorise .dual h s, index? 2 tray, source with
  | none, _, _, _ => answer h.port h.tag .badOperand 0 [] s
  | some _, some c, _, _ => answer h.port h.tag c 0 [] s
  | some v, none, some t, .ok src => manualByState h t v src s
  | some _, none, _, _ => answer h.port h.tag .badOperand 0 [] s

def execManualCount (h : Req) (tray : Nat) (vec : Coded Counts) (source : Coded (Option SourceArg)) (s : State) : Result :=
  .next (request h ReqCode.manualCount (manualOwner h tray vec source) s)

/-! ## RESTORE COUNTER and RESET OPERATIONS (R77, R91) -/

def replyRestoreCounter (s : State) : Reply :=
  if s.count.station = .down then
    Reply.ok [] (signal .countPass (modCount (fun u => { u with station := .idle, faults := 0 }) s))
  else Reply.refuse .badState s

def execRestoreCounter (h : Req) (s : State) : Result :=
  .next (immediate h ReqCode.restoreCounter (authorised .senior h replyRestoreCounter) s)

/-- The running count abandoned, and its request answered WITHDRAWN (R90). -/
def withdrawRunning (s : State) : State :=
  match s.count.running with
  | some r => answer r.port r.tag .withdrawn 0 [] (abandonCount s)
  | none => s

def replyResetOperations (s : State) : Reply :=
  let abandoned := if s.count.running.isSome then 1 else 0
  Reply.ok [.u8 abandoned, .u8 s.count.waiters.length] (dismissCounts (fun _ => true) .withdrawn (withdrawRunning s))

def execResetOperations (h : Req) (s : State) : Result :=
  .next (immediate h ReqCode.resetOperations replyResetOperations s)

/-! ## POST TRAY (R114) -/

/-- The operand of POST TRAY, with the tray's count number as it stands when the post is taken (R116). -/
def postArg (s : State) (tray : Nat) : Option AccessReq :=
  (index? 2 tray).map fun t => .postTray t (trayOf s t).count

def execPostTray (h : Req) (tray : Nat) (s : State) : Result :=
  .next (request h ReqCode.postTray (fun s => accessRequest h .one (postArg s tray) s) s)

/-! ## ACCEPT VARIANCE (R107) -/

/-- The level the hold reasons give (R18). -/
def acceptLevel (r : HoldReasons) : Level := if r.gross then .dualManager else .senior

/-- The results of ACCEPT VARIANCE: the class, E, W and L. -/
def classFields (k : Classification) : List Field :=
  [.u8 (position classNames k.cls), .signed k.expected, .signed k.variance, .value k.allowance]

def replyAcceptVariance (h : Req) (till : Nat) (s : State) : Reply :=
  match index? 64 till with
  | none => Reply.refuse .badOperand s
  | some i =>
    let r := tillOf s i
    match drawerOf s i with
    | some d =>
      match d.classed with
      | some k =>
        if r.state ≠ .held || waiting r.hold then Reply.refuse .badState s
        else match authorise (acceptLevel r.hold) h s with
          | some c => Reply.refuse c s
          | none =>
            Reply.ok (classFields k)
              (settleTill i k (setDrawer i (some { d with acceptOps := recordedOps (acceptLevel r.hold) h }) s))
      | none => Reply.refuse .badState s
    | none => Reply.refuse .badState s

def execAcceptVariance (h : Req) (till : Nat) (s : State) : Result :=
  .next (immediate h ReqCode.acceptVariance (replyAcceptVariance h till) s)

end Sys2Proof.Machine
end

