-- ==== Sys2Proof/Machine/Safe.lean ====
section
/-! DEFINITION. The requests about the safe: the range, the freeze, transfers, adjustments and alarms (R125 to R128, R135, R136,
R141). -/

namespace Sys2Proof.Machine

/-- The two ends of the open range. -/
def rangeFields (s : State) : List Field := [.u8 s.safe.range.low, .u8 s.safe.range.high]

def replyOpenRange (low high : Nat) (s : State) : Reply :=
  if low ≤ 15 ∧ high ≤ 255 then
    match openRangeTo low high s with
    | .ok t => Reply.ok (rangeFields t) t
    | .error c => Reply.refuse c s
  else Reply.refuse .badOperand s

def execOpenRange (h : Req) (low high : Nat) (s : State) : Result :=
  .next (immediate h ReqCode.openRange (replyOpenRange low high) s)

def replyLockAll (s : State) : Reply :=
  match lockAllNow s with
  | .ok t => Reply.ok [] t
  | .error c => Reply.refuse c s

def execLockAll (h : Req) (s : State) : Result :=
  .next (immediate h ReqCode.lockAll replyLockAll s)

def replyFreeze (s : State) : Reply := Reply.ok [] (freezeNow s)

def execFreeze (h : Req) (s : State) : Result :=
  .next (immediate h ReqCode.freeze replyFreeze s)

def replyThaw (s : State) : Reply :=
  if s.safe.frozen then Reply.ok (rangeFields s) { s with safe := { s.safe with frozen := false } }
  else Reply.refuse .badState s

def execThaw (h : Req) (s : State) : Result :=
  .next (immediate h ReqCode.thaw (authorised .dual h replyThaw) s)

/-- The operands of TRANSFER after the vector: two compartments that differ, a vector that is not all zero (R135). -/
def transferArg (src dst : Nat) (v : Counts) : Option AccessReq :=
  match index? 16 src, index? 16 dst with
  | some a, some b => if a ≠ b && !allZero v then some (.transfer a b v) else none
  | _, _ => none

/-- A request with a vector: the vector checked under R5, then authorisation, then the other operands (R20). -/
def vectorRequest (h : Req) (level : Level) (vec : Option Counts) (arg : Counts → Option AccessReq) (s : State) : State :=
  match vec with
  | none => answer h.port h.tag .badOperand 0 [] s
  | some v => accessRequest h level (arg v) s

def execTransfer (h : Req) (src dst : Nat) (vec : Coded Counts) (s : State) : Result :=
  .next (request h ReqCode.transfer
    (fun s => vectorRequest h .one (unsignedArg s vec) (transferArg src dst) s) s)

/-- The operands of ADJUST after the vector (R136). -/
def adjustArg (comp : Nat) (v : Counts) : Option AccessReq :=
  match index? 16 comp with
  | some c => if !allZero v then some (.adjust c v) else none
  | none => none

def execAdjust (h : Req) (comp : Nat) (vec : Coded Counts) (s : State) : Result :=
  .next (request h ReqCode.adjust
    (fun s => vectorRequest h .dual (signedArg s vec) (adjustArg comp) s) s)

def replyClearAlarm (comp : Nat) (s : State) : Reply :=
  match index? 16 comp with
  | some c =>
    if (compOf s c).alarm ≠ .forced || (compOf s c).door == .opened then Reply.refuse .badState s
    else Reply.ok [] (modComp c (fun r => { r with alarm := .none }) s)
  | none => Reply.refuse .badOperand s

def execClearAlarm (h : Req) (comp : Nat) (s : State) : Result :=
  .next (immediate h ReqCode.clearAlarm (authorised .dual h (replyClearAlarm comp)) s)

end Sys2Proof.Machine
end

