-- ==== Sys2Proof/Machine/Bags.lean ====
section
/-! DEFINITION. The Office requests about courier bags and windows (R147 to R152, R155, R156). -/

namespace Sys2Proof.Machine

def replyNewBag (comp : Nat) (s : State) : Reply :=
  match index? 16 comp with
  | some c =>
    if (compOf s c).role ≠ .outbound then Reply.refuse .badState s
    else match lowestFree s with
      | some b =>
        Reply.ok [.u8 b.1]
          (modBag b (fun _ => { BagRec.free with dir := some .outbound, state := .opened, location := some c }) s)
      | none => Reply.refuse .bagLimit s
  | none => Reply.refuse .badOperand s

def execNewBag (h : Req) (comp : Nat) (s : State) : Result :=
  .next (immediate h ReqCode.newBag (replyNewBag comp) s)

/-- The operands of FILL BAG after the vector (R148). -/
def fillArg (bag comp : Nat) (v : Counts) : Option AccessReq :=
  match index? 32 bag, index? 16 comp with
  | some b, some c => if !allZero v then some (.fillBag b c v) else none
  | _, _ => none

def execFillBag (h : Req) (bag comp : Nat) (vec : Coded Counts) (s : State) : Result :=
  .next (request h ReqCode.fillBag
    (fun s => vectorRequest h .one (unsignedArg s vec) (fillArg bag comp) s) s)

def replyCloseBag (bag tagNumber : Nat) (s : State) : Reply :=
  match index? 32 bag with
  | some b =>
    if !valueIn 0 Config.maxTagNumber tagNumber then Reply.refuse .badOperand s
    else if !outboundIn s b .opened then Reply.refuse .badState s
    else if tagInUse s tagNumber then Reply.refuse .badOperand s
    else Reply.ok [] (modBag b (fun r => { r with state := .closed, tag := some tagNumber }) s)
  | none => Reply.refuse .badOperand s

def execCloseBag (h : Req) (bag tagNumber : Nat) (s : State) : Result :=
  .next (immediate h ReqCode.closeBag (replyCloseBag bag tagNumber) s)

def replyReopenBag (bag : Nat) (s : State) : Reply :=
  match index? 32 bag with
  | some b =>
    if outboundIn s b .closed then Reply.ok [] (modBag b (fun r => { r with state := .opened, tag := none }) s)
    else Reply.refuse .badState s
  | none => Reply.refuse .badOperand s

def execReopenBag (h : Req) (bag : Nat) (s : State) : Result :=
  .next (immediate h ReqCode.reopenBag (replyReopenBag bag) s)

def replyFreeBag (bag : Nat) (s : State) : Reply :=
  match index? 32 bag with
  | some b =>
    if outboundIn s b .opened && allZero (holding s (.bag b)) then Reply.ok [] (modBag b (fun _ => BagRec.free) s)
    else Reply.refuse .badState s
  | none => Reply.refuse .badOperand s

def execFreeBag (h : Req) (bag : Nat) (s : State) : Result :=
  .next (immediate h ReqCode.freeBag (replyFreeBag bag) s)

def replyStageBag (bag window : Nat) (s : State) : Reply :=
  match index? 32 bag, index? 4 window with
  | some b, some w =>
    let r := windowOf s w
    if !outboundIn s b .closed then Reply.refuse .badState s
    else if r.state ≠ .planned && r.state ≠ .opened then Reply.refuse .badState s
    else if r.comp.isNone || r.comp ≠ (bagOf s b).location then Reply.refuse .badOperand s
    else if Config.maxStaged ≤ r.staged.length then Reply.refuse .badOperand s
    else
      Reply.ok [.u8 (r.staged.length + 1)]
        (modWindow w (fun r => { r with staged := r.staged ++ [b] })
          (modBag b (fun r => { r with state := .staged, window := some w }) s))
  | _, _ => Reply.refuse .badOperand s

def execStageBag (h : Req) (bag window : Nat) (s : State) : Result :=
  .next (immediate h ReqCode.stageBag (replyStageBag bag window) s)

/-- A STAGED bag dropped from its window's list, and from the scanned set of a session (R152, R167). -/
def dropFrom (b : BagIx) (w : WindowIx) (s : State) : State :=
  modSession (fun x => { x with scanned := x.scanned.filter (· ≠ b) })
    (modWindow w (fun r => { r with staged := r.staged.filter (· ≠ b) }) (modBag b unstaged s))

def replyDropBag (bag : Nat) (s : State) : Reply :=
  match index? 32 bag with
  | some b =>
    if (bagOf s b).state = .staged then
      match (bagOf s b).window with
      | some w => Reply.ok [] (dropFrom b w s)
      | none => Reply.ok [] (modBag b unstaged s)
    else Reply.refuse .badState s
  | none => Reply.refuse .badOperand s

def execDropBag (h : Req) (bag : Nat) (s : State) : Result :=
  .next (immediate h ReqCode.dropBag (replyDropBag bag) s)

/-- The state of a window as a field. -/
def windowField (s : State) (w : WindowIx) : Field := .u8 (position windowStateNames (windowOf s w).state)

def replyOpenWindow (window : Nat) (s : State) : Reply :=
  match index? 4 window with
  | some w =>
    match openWindowAt w s with
    | .ok t => Reply.ok [windowField t w] t
    | .error c => Reply.refuse c s
  | none => Reply.refuse .badOperand s

def execOpenWindow (h : Req) (window : Nat) (s : State) : Result :=
  .next (immediate h ReqCode.openWindow (replyOpenWindow window) s)

def replyCloseWindow (window : Nat) (s : State) : Reply :=
  match index? 4 window with
  | some w =>
    let t := closeWindowAt w s
    Reply.ok [windowField t w] t
  | none => Reply.refuse .badOperand s

def execCloseWindow (h : Req) (window : Nat) (s : State) : Result :=
  .next (immediate h ReqCode.closeWindow (replyCloseWindow window) s)

end Sys2Proof.Machine
end

