-- ==== Sys2Proof/Machine/Day.lean ====
section
/-! DEFINITION. The requests of the business day and of the Day Plan (R25 to R41). -/

namespace Sys2Proof.Machine

/-! ## OPEN DAY, CLOSE DAY and REOPEN (R25 to R30) -/

def replyOpenDay (s : State) : Reply :=
  if s.day.state = .closed ∧ mayOpen s = true then
    let t := openTheDay s
    Reply.ok [.u16 t.day.number] t
  else Reply.refuse .badState s

def execOpenDay (h : Req) (s : State) : Result :=
  .next (immediate h ReqCode.openDay replyOpenDay s)

/-- CLOSE DAY of an OPEN day: CLOSING, the float waiters answered, then the request, then the completion check (R27). -/
def closeTheDay (h : Req) (s : State) : State :=
  let s := raiseDayState (modDay (fun d => { d with state := .closing }) s)
  completionCheck (answer h.port h.tag .ok 0 [] (dismissFloats (fun _ => true) .dayClosing s))

def execCloseDay (h : Req) (s : State) : Result :=
  .next (request h ReqCode.closeDay
    (fun s => if s.day.state = .opened then closeTheDay h s else answer h.port h.tag .badState 0 [] s) s)

def replyReopen (s : State) : Reply :=
  if s.day.state = .closing then Reply.ok [] (raiseDayState (modDay (fun d => { d with state := .opened }) s))
  else Reply.refuse .badState s

def execReopen (h : Req) (s : State) : Result :=
  .next (immediate h ReqCode.reopen replyReopen s)

/-! ## SET CLOCK (R32) -/

/-- The value SET CLOCK sets, clamped to a step of 300 seconds unless the day is CLOSED, then to the day (R32). -/
def clockSet (d : DayUnit) (time : Nat) : Nat :=
  if d.state = .closed then min time Config.lastSecond
  else min (max (d.clock - Config.clockStep) (min time (d.clock + Config.clockStep))) Config.lastSecond

def replySetClock (time : Nat) (s : State) : Reply :=
  let t := clockSet s.day time
  let moved := modDay (fun d => { d with clock := t }) s
  Reply.ok [.u32 t] (if s.day.clock < t then catchUp moved else moved)

def execSetClock (h : Req) (time : Nat) (s : State) : Result :=
  .next (immediate h ReqCode.setClock (replySetClock time) s)

/-! ## The plan (R34, R39) -/

/-- A plan action with its arguments inside the ranges of R33. -/
def planArg : Coded PlanArg → Option PlanAction
  | .bad => none
  | .ok (.windowOpen w) => (index? 4 w).map .windowOpen
  | .ok (.windowClose w) => (index? 4 w).map .windowClose
  | .ok (.openRange low high) =>
    match index? 16 low with
    | some l => if high ≤ 255 then some (.openRange l high) else none
    | none => none
  | .ok .lockAll => some .lockAll
  | .ok .freeze => some .freeze
  | .ok .pickupRound => some .pickupRound
  | .ok .stop => some .stop

def replyLoadPlanEntry (index time : Nat) (action : Coded PlanArg) (s : State) : Reply :=
  match index? 64 index, planArg action with
  | some i, some a =>
    let plan := put s.day.plan i { time, action := a }
    if Config.lastSecond < time then Reply.refuse .badOperand s
    else if i.1 < s.day.pointer && (s.day.planState == .running || s.day.planState == .held) then
      Reply.refuse .planBusy s
    else if !planOrdered plan then Reply.refuse .planOrder s
    else Reply.ok [] (modDay (fun d => { d with plan }) s)
  | _, _ => Reply.refuse .badOperand s

def execLoadPlanEntry (h : Req) (index time : Nat) (action : Coded PlanArg) (s : State) : Result :=
  .next (immediate h ReqCode.loadPlanEntry (replyLoadPlanEntry index time action) s)

def replyHoldPlan (s : State) : Reply :=
  if s.day.planState = .running then Reply.ok [] (modDay (fun d => { d with planState := .held }) s)
  else Reply.refuse .badState s

def execHoldPlan (h : Req) (s : State) : Result :=
  .next (immediate h ReqCode.holdPlan replyHoldPlan s)

def replyResumePlan (s : State) : Reply :=
  if s.day.planState = .held then Reply.ok [] (catchUp (modDay (fun d => { d with planState := .running }) s))
  else Reply.refuse .badState s

def execResumePlan (h : Req) (s : State) : Result :=
  .next (immediate h ReqCode.resumePlan replyResumePlan s)

end Sys2Proof.Machine
end

