-- ==== Sys2Proof/Machine/Handover.lean ====
section
/-! DEFINITION. The requests of the Courier Port in a handover session (R163, R166, R168 to R173). -/

namespace Sys2Proof.Machine

/-! ## ARRIVE (R163) -/

/-- BADGE_REFUSED with the badge presented and the day-clock time (R163). -/
def raiseBadgeRefused (w : WindowIx) (badge : Nat) (s : State) : State :=
  raise .badgeRefused (.window w) [.u32 badge, .u32 s.day.clock] s

def replyArrive (window badge : Nat) (s : State) : Reply :=
  match index? 4 window with
  | some w =>
    let r := windowOf s w
    if !valueIn 1 Config.maxTagNumber badge then Reply.refuse .badOperand s
    else if r.state ≠ .opened then Reply.refuse .windowNotOpen s
    else if s.courier.session.isSome then Reply.refuse .sessionBusy s
    else if r.badge ≠ some badge then Reply.refuse .badgeMismatch (raiseBadgeRefused w badge s)
    else match r.comp with
      | some c => Reply.ok [.u8 w.1, .u8 c.1, .u8 r.staged.length] (beginSession w badge c s)
      | none => Reply.refuse .badState s
  | none => Reply.refuse .badOperand s

def execArrive (h : Req) (window badge : Nat) (s : State) : Result :=
  .next (immediate h ReqCode.arrive (replyArrive window badge) s)

/-! ## READ MANIFEST (R166) -/

/-- One bag of the manifest: its tag number and its holding value. -/
def manifestLine (s : State) (b : BagIx) : List Field := [.u32 ((bagOf s b).tag.getD 0), .value (bagValue s b)]

def replyReadManifest (s : State) : Reply :=
  match s.courier.session with
  | none => Reply.refuse .noSession s
  | some x =>
    let list := (windowOf s x.window).staged
    let sum := manifestChecksum s x.window
    Reply.ok ([.u8 x.window.1, .u8 list.length] ++ list.flatMap (manifestLine s) ++ [.u16 sum.toNat])
      (modSession (fun x => { x with manifestSent := true, checksum := some sum }) s)

def execReadManifest (h : Req) (s : State) : Result :=
  .next (immediate h ReqCode.readManifest replyReadManifest s)

/-! ## SCAN BAG (R168, R169) -/

/-- A failing scan: one error more, and the third ends the session (R168, R169). -/
def scanError (x : Session) (s : State) : State :=
  let s := modSession (fun x => { x with errors := x.errors + 1 }) s
  if Config.maxScanErrors ≤ x.errors + 1 then abortAny .scanErrors s else s

/-- A bag scanned: in the scanned set once. -/
def scanned (b : BagIx) (x : Session) : Session :=
  if x.scanned.contains b then x else { x with scanned := x.scanned ++ [b] }

def replyScanBag (tagNumber : Nat) (s : State) : Reply :=
  match s.courier.session with
  | none => Reply.refuse .noSession s
  | some x =>
    if !valueIn 0 Config.maxTagNumber tagNumber then Reply.refuse .badOperand s
    else match listedTag s x.window tagNumber with
      | some (place, b) =>
        Reply.ok [.u8 (place + 1), .u8 (unscanned s (scanned b x)).length] (modSession (scanned b) s)
      | none => Reply.refuse .unknownTag (scanError x s)

def execScanBag (h : Req) (tagNumber : Nat) (s : State) : Result :=
  .next (immediate h ReqCode.scanBag (replyScanBag tagNumber) s)

/-! ## DECLARE INBOUND (R170) -/

/-- The record of a declared bag (R170). -/
def announced (x : Session) (tagNumber : Nat) (v : Counts) (value : Int) : BagRec :=
  { dir := some .inbound, state := .announced, tag := some tagNumber, location := some x.comp
    declared := some { vec := v, value }, window := some x.window }

def replyDeclareInbound (tagNumber : Nat) (vec : Coded Counts) (s : State) : Reply :=
  match unsignedArg s vec with
  | none => Reply.refuse .badOperand s
  | some v =>
    match s.courier.session with
    | none => Reply.refuse .noSession s
    | some x =>
      if !valueIn 0 Config.maxTagNumber tagNumber || allZero v then Reply.refuse .badOperand s
      else if Config.maxInbound ≤ x.inbound.length then Reply.refuse .badOperand s
      else if tagInUse s tagNumber then Reply.refuse .badOperand s
      else match lowestFree s with
        | some b =>
          let value := valueOf s v
          Reply.ok [.u8 b.1, .value value]
            (modSession (fun x => { x with inbound := x.inbound ++ [b] })
              (modBag b (fun _ => announced x tagNumber v value) s))
        | none => Reply.refuse .bagLimit s

def execDeclareInbound (h : Req) (tagNumber : Nat) (vec : Coded Counts) (s : State) : Result :=
  .next (immediate h ReqCode.declareInbound (replyDeclareInbound tagNumber vec) s)

/-! ## CONFIRM HANDOVER (R171, R172) -/

/-- The HANDOVER_OUT of a staged bag (R171). -/
def handMove (s : State) (b : BagIx) : Movement :=
  { kind := .handoverOut, src := some (.bag b), dst := none, vec := holding s (.bag b), port := .courier, ops := []
    flags := MoveFlags.clear, held := false }

/-- The RECEIVE_IN of an inbound bag, with a zero vector (R171). -/
def receiveMove (b : BagIx) : Movement :=
  { kind := .receiveIn, src := none, dst := some (.bag b), vec := Counts.zero, port := .courier, ops := []
    flags := MoveFlags.clear, held := false }

/-- The movements of a confirmation, in order (R171). -/
def handoverMoves (x : Session) (s : State) : List Movement :=
  (windowOf s x.window).staged.map (handMove s) ++ x.inbound.map receiveMove

/-- The figures of HANDOVER_DONE and of its answer (R172). A number of bags is sent in one byte (DESIGN CHOICE, log 35). -/
def handoverFigures (x : Session) (s : State) : List Field :=
  let list := (windowOf s x.window).staged
  let handed := (list.map (bagValue s)).sum
  let declared := (x.inbound.map fun b => ((bagOf s b).declared.map (·.value)).getD 0).sum
  let n := list.length + x.inbound.length
  let first := s.store.journal.nextSeq
  [.u8 list.length, .value handed, .u8 x.inbound.length, .value declared, .u32 (if n = 0 then 0 else first),
   .u32 (if n = 0 then 0 else Nat.iterate seqAfter (n - 1) first)]

/-- A bag handed: no location, its tag number and window kept (R145). -/
def handed (r : BagRec) : BagRec := { r with state := .handed, location := none }

/-- The confirmation applied: the bags handed and received, the session ended (R172). HANDOVER_DONE comes after the JOURNAL_HIGH and
JOURNAL_FULL of the event (DESIGN CHOICE, log 37). -/
def confirmed (x : Session) (s : State) : State :=
  let list := (windowOf s x.window).staged
  let figures := handoverFigures x s
  let s := storeEvent (handoverMoves x s) false s
  let s := list.foldl (fun acc b => modBag b handed acc) s
  let s := modWindow x.window (fun r => { r with staged := [] }) s
  let s := x.inbound.foldl (fun acc b => modBag b (fun r => { r with state := .received }) acc) s
  raise .handoverDone (.window x.window) figures (endSession x s)

/-- What the Store answers to a confirmation: each movement needs its own free entry, all of them found first (R12, R171). -/
def confirmCheck (x : Session) (s : State) : Check :=
  let ms := handoverMoves x s
  if ms.isEmpty then (if s.retention.suspect then .refused .memorySuspect else .pass) else checkEvent ms.length ms s

def replyConfirmHandover (checksum : BitVec 16) (s : State) : Reply :=
  match s.courier.session with
  | none => Reply.refuse .noSession s
  | some x =>
    if !x.manifestSent then Reply.refuse .badState s
    else if x.checksum ≠ some checksum || manifestChecksum s x.window ≠ checksum then Reply.refuse .checksumMismatch s
    else if !(unscanned s x).isEmpty then
      { code := .incomplete, results := [.u16 (unscanned s x).length], state := s }
    else match confirmCheck x s with
      | .refused k => Reply.refuse k s
      | .parked _ _ => Reply.refuse .badState s
      | .pass => Reply.ok (handoverFigures x s) (confirmed x s)

def execConfirmHandover (h : Req) (checksum : BitVec 16) (s : State) : Result :=
  .next (immediate h ReqCode.confirmHandover (replyConfirmHandover checksum) s)

/-! ## DEPART (R173) -/

def replyDepart (s : State) : Reply :=
  match s.courier.session with
  | none => Reply.refuse .noSession s
  | some x => Reply.ok [] (abortSession .depart x s)

def execDepart (h : Req) (s : State) : Result :=
  .next (immediate h ReqCode.depart replyDepart s)

end Sys2Proof.Machine
end

