-- ==== Sys2Proof/Machine/Ledger.lean ====
section
/-! DEFINITION. The requests about the Movement Journal: READ JOURNAL and ARCHIVE (R186, R187). -/

namespace Sys2Proof.Machine

/-- Bytes of a READ JOURNAL answer before its entries: the five bytes of a response head and the fields of R205. -/
def journalHead : Nat := Config.responseHead + 17

/-- The entries of a list that the answer carries: as many as the count allows and as fit whole in the payload (R186). -/
def fitting : Nat → Nat → List JournalEntry → List JournalEntry
  | 0, _, _ => []
  | _, _, [] => []
  | count + 1, room, e :: es =>
    let size := fieldsSize (entryFields e)
    if size ≤ room then e :: fitting count (room - size) es else []

/-- The entries from the first one to report (R186). -/
def entriesFrom (s : State) (start : Nat) : List JournalEntry :=
  let es := s.store.journal.entries
  match seqPlace es start, es.head? with
  | .inList, some oldest => es.drop (forward oldest.seq start)
  | .below, _ => es
  | _, _ => []

/-- The number of the oldest and of the newest entry, 0 where the list is empty: R205 gives this for READ JOURNAL, and the model
sends the same four bytes in the ARCHIVE answer (DESIGN CHOICE, log 35). -/
def endNumbers (s : State) : Nat × Nat :=
  let es := s.store.journal.entries
  ((es.head?.map (·.seq)).getD 0, (es.getLast?.map (·.seq)).getD 0)

def replyReadJournal (start maximum : Nat) (s : State) : Reply :=
  if valueIn 1 Config.maxSeq start && valueIn 1 255 maximum then
    let all := entriesFrom s start
    let es := fitting maximum (Config.maxPayload - journalHead) all
    Reply.ok
      ([.u16 (occupancy s), .u8 s.store.journal.held, .u32 (endNumbers s).1, .u32 (endNumbers s).2,
        .u32 s.store.journal.nextSeq, .u8 es.length, .u8 (if es.length < all.length then 1 else 0)]
        ++ es.flatMap entryFields) s
  else Reply.refuse .badOperand s

def execReadJournal (h : Req) (start maximum : Nat) (s : State) : Result :=
  .next (immediate h ReqCode.readJournal (replyReadJournal start maximum) s)

/-- How many entries ARCHIVE frees (R187). -/
def archived (s : State) (seq : Nat) : Nat :=
  let es := s.store.journal.entries
  match seqPlace es seq, es.head? with
  | .inList, some oldest => forward oldest.seq seq + 1
  | .beyond, _ => es.length
  | _, _ => 0

/-- ARCHIVE (R187). The number of entries freed and the occupancy go in two bytes each, and the new oldest number in four, all 0 for
none (DESIGN CHOICE, log 35). -/
def replyArchive (seq : Nat) (s : State) : Reply :=
  if valueIn 1 Config.maxSeq seq then
    let n := archived s seq
    let j := s.store.journal
    let t := journalMarks (occupancy s)
      { s with store := { s.store with journal := { j with entries := j.entries.drop n } } }
    Reply.ok [.u16 n, .u32 (endNumbers t).1, .u16 (occupancy t)] t
  else Reply.refuse .badOperand s

def execArchive (h : Req) (seq : Nat) (s : State) : Result :=
  .next (immediate h ReqCode.archive (replyArchive seq) s)

end Sys2Proof.Machine
end

