-- ==== Sys2Proof/Machine/PortEvents.lean ====
section
/-! DEFINITION. WITHDRAW, and the frames and line events of the ports (R189, R190, R191, R192, R194, R195, R202). -/

namespace Sys2Proof.Machine

/-! ## WITHDRAW (R194) -/

/-- The count in progress is the one a port and tag started. -/
def runsFor (s : State) (p : Port) (tag : Tag) : Bool :=
  match s.count.running with
  | some r => r.port == p && r.tag == tag
  | none => false

/-- One outstanding request withdrawn by its owner and answered WITHDRAWN (R54, R90, R132). -/
def withdrawTag (p : Port) (tag : Tag) (s : State) : State :=
  match (slotOf s p tag).state with
  | .running => answer p tag .withdrawn 0 [] (if runsFor s p tag then abandonCount s else s)
  | .parked =>
    answer p tag .withdrawn 0 []
      (discardAccess (isAccessWaiter p tag)
        (discardCounts (isCountWaiter p tag) (discardFloats (isFloatWaiter p tag) s)))
  | .free | .taken | .answered => s

/-- The slot of a tag is PARKED or RUNNING: the request is outstanding for WITHDRAW (R194). -/
def outstanding (s : State) (p : Port) (tag : Tag) : Bool :=
  (slotOf s p tag).state == .parked || (slotOf s p tag).state == .running

/-- The tags of a set, ascending. -/
def tagsOf (set : BitVec 8) : List Tag := (List.finRange 8).filter fun t => set.getLsbD t.1

/-- A set of tags as a field (R204). -/
def tagBits (ts : List Tag) : Nat := bitSet ((List.finRange 8).map fun t => ts.contains t)

def replyWithdraw (p : Port) (tags : BitVec 8) (s : State) : Reply :=
  let named := tagsOf tags
  let out := named.filter (outstanding s p)
  Reply.ok [.u8 (tagBits out), .u8 (tagBits (named.filter fun t => !outstanding s p t))]
    (out.foldl (fun acc t => withdrawTag p t acc) s)

def execWithdraw (h : Req) (tags : BitVec 8) (s : State) : Result :=
  .next (immediate h ReqCode.withdraw (replyWithdraw h.port tags) s)

/-! ## Frames that are no request of a slot (R189, R192, R202) -/

/-- A discarded frame is without effect and without answer (R189). -/
def execFrameDiscarded (_p : Port) (_cause : DiscardCause) (s : State) : Result :=
  .next (happening (fun s => s) s)

/-- A request code the part does not know, or a frame too short for its fields, is refused (R192). -/
def execUnknownRequestCode (p : Port) (tag : Tag) (code : Nat) (s : State) : Result :=
  .next (framed p tag code (answer p tag .badOperand 0 []) s)

/-- A response with this tag byte is waiting in the response list (R202). -/
def responseWaiting (r : PortRec) (tag : Nat) : Bool :=
  r.responses.any fun f => match f with
    | .response x _ => x.tag == tag
    | .reject _ => false
    | .notice _ _ => false

/-- The answer to a malformed tag: BAD_OPERAND under the tag byte as it came, once while one waits (R202). -/
def malformedTag (tag code : Nat) (r : PortRec) : PortRec :=
  if responseWaiting r tag then r
  else { r with responses := r.responses ++ framesOf { tag, code, outcome := .badOperand, detail := 0, results := [] } }

def execBadTagFrame (p : Port) (tag code : Nat) (s : State) : Result :=
  .next
    (if canReceive s p && decide (7 < tag) then
      finish (modPort p (malformedTag tag code) (heard p { s with event := Scratch.empty }))
    else s)

/-! ## The line (R190, R195) -/

/-- A Port Controller at a link reset (R190, steps 1 to 6). -/
def PortRec.afterBreak (r : PortRec) : PortRec :=
  { r with link := .brk, slots := Vector.replicate 8 { state := .free, code := 0 }, responses := [], notices := []
           dropped := false, line := none }

/-- The owners at a link reset: the port's requests are gone (R54, R92, R132, R177). -/
def dropRequests (p : Port) (s : State) : State :=
  let runs := match s.count.running with
    | some r => r.port == p
    | none => false
  let s := discardFloats (fun w => w.port == p) s
  let s := if runs then abandonCount s else s
  let s := discardCounts (fun w => w.port == p) s
  let s := discardAccess (fun w => w.port == p) s
  match p with
  | .courier => abortAny .linkReset s
  | .office => s
  | .till => s

/-- A link reset is taken while the port is in service; a break held longer is the same reset (R190). A port found in BREAK at power
return or cold start, whose line then stays spacing for 10 ms, has had no reset, and R188's table says "any" state; the model takes no
reset there either, so what the port holds, a queued POWER_RETURN with it, stays (DESIGN CHOICE, log 34). -/
def execLinkReset (p : Port) (s : State) : Result :=
  .next
    (if (portOf s p).link = .brk then s
    else happening (fun s => dropRequests p (modPort p PortRec.afterBreak s)) s)

/-- The receive line returns to marking: a port in BREAK becomes QUIET (R188). -/
def execLinkReturnsMarking (p : Port) (s : State) : Result :=
  .next
    (if (portOf s p).link = .brk then happening (modPort p fun r => { r with link := .quiet }) s else s)

/-- The frame on the line is sent: after the last frame of an answer its slot becomes FREE (R191, R205). -/
def lineDone (r : PortRec) : PortRec :=
  match r.line with
  | some (.response x k) =>
    match index? 8 x.tag with
    | some t =>
      if lastPart x k then { r with line := none, slots := put r.slots t { look r.slots t with state := .free } }
      else { r with line := none }
    | none => { r with line := none }
  | some (.reject _) => { r with line := none }
  | some (.notice _ _) => { r with line := none }
  | none => r

def execFrameTransmitted (p : Port) (s : State) : Result :=
  .next (happening (modPort p lineDone) s)

end Sys2Proof.Machine
end

