-- ==== Sys2Proof/Machine/Reads.lean ====
section
/-! DEFINITION. The requests that read the record and change nothing (R16, R41, R68, R95, R112, R113, R143, R160, R178, R197, R201).
Each answer carries the fields its rule lists, in that order; where the rule leaves a figure's width or a list's count to no
field of R204, the encoding is the model's (log 6). -/

namespace Sys2Proof.Machine

/-! ## Fields of records -/

/-- A yes or no as a field: 1 for yes and 0 for no (DESIGN CHOICE, log 35). -/
def boolField (b : Bool) : Field := .u8 (if b then 1 else 0)

/-- An optional index as a field. -/
def indexField {n : Nat} (o : Option (Fin n)) : List Field := optional (o.map fun i => [.u8 i.1])

/-- An optional four-byte number as a field. -/
def wordField (o : Option Nat) : List Field := optional (o.map fun n => [.u32 n])

/-- An optional value as a field. -/
def valueField (o : Option Nat) : List Field := optional (o.map fun (n : Nat) => [.value n])

/-- A vector and its value. -/
def vectorFields (s : State) (v : Counts) : List Field := [.items v, .value (valueOf s v)]

/-- A count number with its day number, optional, as R78 has it for a tray. R97 names a drawer result's count number alone, and the
model sends it in the same form (DESIGN CHOICE, log 35). -/
def countFields (c : Option CountNumber) : List Field := optional (c.map fun c => [.u16 c.number, .u16 c.day])

/-! ## READ HOLDING, READ POSITION and READ DENOMINATIONS (R16) -/

/-- The Till Port may name tills alone (R192). -/
def holdingGranted (p : Port) : Container → Bool
  | .till _ => true
  | .comp _ | .tray _ | .bag _ => p == .office

/-- READ HOLDING (R16). On the Till Port a kind outside the list, or a kind other than till with an index outside its range, falls
under R192's NOT_PERMITTED and R204's BAD_OPERAND, and the model answers BAD_OPERAND (DESIGN CHOICE, log 39). -/
def replyReadHolding (p : Port) (container : Coded Container) (s : State) : Reply :=
  match container with
  | .ok c => if holdingGranted p c then Reply.ok (vectorFields s (holding s c)) s else Reply.refuse .notPermitted s
  | .bad => Reply.refuse .badOperand s

def execReadHolding (h : Req) (container : Coded Container) (s : State) : Result :=
  .next (immediate h ReqCode.readHolding (replyReadHolding h.port container) s)

/-- Every day total, in the order of R14's table. -/
def totalFields (t : DayTotals) : List Field :=
  [.value t.overTotal, .value t.shortTotal, .signed t.custody, .value t.floatCount, .value t.floatValue,
   .value t.topupCount, .value t.topupValue, .value t.settled.balanced, .value t.settled.surplus,
   .value t.settled.short, .value t.settled.outside, .value t.settled.gross]

/-- The four figures of one index (R16). -/
def positionLine (s : State) (i : DenomIx) : List Field :=
  [.signed (look s.store.base i), .signed (look s.store.inflow i), .signed (look s.store.outflow i),
   .signed (officeSum s i)]

def replyReadPosition (s : State) : Reply :=
  Reply.ok
    ([.u8 (position dayStateNames s.day.state), .u16 s.day.number] ++ (List.finRange 16).flatMap (positionLine s)
      ++ [.signed (valueOf s s.store.base), .signed (valueOf s s.store.inflow), .signed (valueOf s s.store.outflow),
          .signed (valueOf s (officeSums s))]
      ++ totalFields s.store.totals) s

def execReadPosition (h : Req) (s : State) : Result :=
  .next (immediate h ReqCode.readPosition replyReadPosition s)

/-- The fields of a denomination entry, in the order of R1's table. -/
def denomFields (d : DenomEntry) : List Field :=
  optional (d.face.map fun n => [.u16 n]) ++ optional (d.form.map fun f => [.u8 (position formNames f)])
    ++ optional (d.pack.map fun n => [.u16 n]) ++ optional (d.unitMass.map fun n => [.u16 n])
    ++ [.u8 (position denomStatusNames d.status)]

def replyReadDenominations (s : State) : Reply := Reply.ok (s.store.denoms.toList.flatMap denomFields) s

def execReadDenominations (h : Req) (s : State) : Result :=
  .next (immediate h ReqCode.readDenominations replyReadDenominations s)

/-! ## READ PLAN (R41) -/

/-- A plan action with its arguments; its code is its place in the plan-action table. -/
def actionFields : PlanAction → List Field
  | .windowOpen w => [.u8 0, .u8 w.1]
  | .windowClose w => [.u8 1, .u8 w.1]
  | .openRange low high => [.u8 2, .u8 low.1, .u8 high]
  | .lockAll => [.u8 3]
  | .freeze => [.u8 4]
  | .pickupRound => [.u8 5]
  | .stop => [.u8 6]

/-- The index of the first END, or 64 (R41). -/
def firstStop (s : State) : Nat := s.day.plan.toList.findIdx fun e => e.action == .stop

def replyReadPlan (s : State) : Reply :=
  Reply.ok
    ([.u8 (position dayStateNames s.day.state), .u16 s.day.number, .u32 s.day.clock, boolField s.day.clockLimit,
      .u8 (position planStateNames s.day.planState), .u8 s.day.pointer]
      ++ s.day.plan.toList.flatMap (fun e => .u32 e.time :: actionFields e.action) ++ [.u8 (firstStop s)]) s

def execReadPlan (h : Req) (s : State) : Result :=
  .next (immediate h ReqCode.readPlan replyReadPlan s)

/-! ## READ PROFILE and READ TILL (R68) -/

/-- READ PROFILE (R68). The figures of a DEFINED profile follow its state with no presence byte of their own (DESIGN CHOICE,
log 35). R68 gives no answer for a profile outside P0 to P7; the model answers BAD_OPERAND, as R68 does for a till
out of range (DESIGN CHOICE, log 39). -/
def replyReadProfile (profile : Nat) (s : State) : Reply :=
  match index? 8 profile with
  | some i =>
    let p := look s.float.profiles i
    Reply.ok
      (if p.defined then [boolField true, .value p.target, .items p.template, .u16 p.mask.toNat]
       else [boolField false]) s
  | none => Reply.refuse .badOperand s

def execReadProfile (h : Req) (profile : Nat) (s : State) : Result :=
  .next (immediate h ReqCode.readProfile (replyReadProfile profile) s)

/-- The last result of a till (R42), its figures under one presence byte (DESIGN CHOICE, log 35). -/
def lastFields (l : Option LastResult) : List Field :=
  optional (l.map fun l => [.u8 (position classNames l.cls), .signed l.variance, .value l.allowance, .u32 l.time])

/-- A pouch with, once COUNTED, its counted value and difference (R68). The two go as one optional field, under one presence byte
(DESIGN CHOICE, log 35). -/
def pouchFields (p : Pouch) : List Field :=
  [.u8 p.number, .value p.declared, .u8 (position pouchStateNames p.state)]
    ++ optional (p.counted.map fun c => [.value c, .signed (p.diff.getD 0)])

/-- Every field of a till record but the pouch list, in the order of R42's table. -/
def tillFields (r : TillRec) : List Field :=
  [.u8 (position tillStateNames r.state), .u16 r.session] ++ indexField r.profile
    ++ [.u16 r.mask.toNat, .value r.f, .u8 r.topups, boolField r.signedOff]
    ++ valueField r.running ++ valueField r.final
    ++ [.value r.p, .value r.limit, .u8 r.cls.1, boolField r.armed, .u8 (holdBits r.hold)] ++ lastFields r.last

def replyReadTill (till : Nat) (s : State) : Reply :=
  match index? 64 till with
  | some i =>
    let r := tillOf s i
    Reply.ok
      (tillFields r ++ vectorFields s (holding s (.till i)) ++ [.value (estimate r)] ++ listed pouchFields r.pouches) s
  | none => Reply.refuse .badOperand s

def execReadTill (h : Req) (till : Nat) (s : State) : Result :=
  .next (immediate h ReqCode.readTill (replyReadTill till) s)

/-! ## READ RESULT (R113) -/

/-- The classification fields of a drawer result (R97). -/
def classedFields (k : Classification) : List Field :=
  [.signed k.expected, .signed k.variance, .value k.allowance, .u8 (position classNames k.cls)]

/-- A drawer result, and whether it belongs to the session (R97, R113). The byte that says so stands inside the optional drawer
result, so an absent one sends none, the count number goes as `countFields` gives it, the classification stands under one presence
byte, and the acceptance operators are a list: their number, 0 to 2, in one byte, then two bytes each (DESIGN CHOICE, log 35). -/
def drawerFields (session : Nat) (d : DrawerResult) : List Field :=
  [.u16 d.session, .value d.counted, .u8 (bitSet [d.uncertain, d.saturated, d.manual])] ++ countFields d.count
    ++ [.u8 d.tray.1] ++ optional (d.classed.map classedFields) ++ listed (fun n => [.u16 n]) d.acceptOps
    ++ [boolField (d.session == session)]

def replyReadResult (till : Nat) (s : State) : Reply :=
  match index? 64 till with
  | some i =>
    let r := tillOf s i
    Reply.ok
      ([.u8 (position tillStateNames r.state), .u8 (holdBits r.hold)] ++ lastFields r.last
        ++ optional ((drawerOf s i).map (drawerFields r.session)) ++ [.value r.f] ++ valueField r.final ++ [.value r.p]) s
  | none => Reply.refuse .badOperand s

def execReadResult (h : Req) (till : Nat) (s : State) : Result :=
  .next (immediate h ReqCode.readResult (replyReadResult till) s)

/-! ## Park reasons (R193) -/

/-- The park reasons, in the order of R193's table. -/
inductive ParkReason
  | stock | access | counter | tray | destination
  deriving DecidableEq, Repr

def parkReasonNames : List ParkReason := [.stock, .access, .counter, .tray, .destination]

/-- A park reason as a field. -/
def parkField (p : ParkReason) : Field := .u8 (position parkReasonNames p)

/-- WAIT_ACCESS with its reason and container. -/
def accessFields (r : AccessReason) (c : Container) : List Field :=
  [parkField .access, .u8 (position accessReasonNames r), .container (some c)]

/-- The park reason of a float waiter with its container (R51, R193). -/
def floatParkFields (s : State) (w : FloatWaiter) : List Field :=
  match w.park with
  | .stock => [parkField .stock, .container ((reserve s).map .comp)]
  | .access r c => accessFields r c

/-- The tray a count waiter names, if any. -/
def namedTray (ask : CountAsk) : Option TrayIx :=
  match ask with
  | .start _ t => t
  | .recount t => some t

/-- The park reason of a count waiter, WAIT_TRAY with the tray it names (R193). -/
def countParkFields (w : CountWaiter) : List Field :=
  match w.park with
  | .counter => [parkField .counter, .container none]
  | .tray => [parkField .tray, .container ((namedTray w.ask).map .tray)]

/-- The park reason of an access waiter, a post's with its first destination (R193). -/
def accessParkFields (w : AccessWaiter) : List Field :=
  if w.req.isPost then [parkField .destination, .container (some w.container)] else accessFields w.reason w.container

/-! ## READ TRAY and READ TOLERANCE (R95, R112) -/

/-- A count waiter: its tag, its kind as its request code, its source or tray, its park reason, its elapsed count (R95). A waiter
has no recorded session, so a DRAWER or POUCH source carries the till's present session number (DESIGN CHOICE, log 35). -/
def countWaiterFields (s : State) (w : CountWaiter) : List Field :=
  [.u8 w.tag.1]
    ++ (match w.ask with
        | .start arg _ => .u8 ReqCode.startCount :: ((sourceOf s arg).map sourceFields).getD []
        | .recount t => [.u8 ReqCode.recount, .u8 t.1])
    ++ [parkField (match w.park with | .counter => .counter | .tray => .tray), .u32 w.elapsed]

/-- Every field of a tray record but its holding, in the order of R78's table. -/
def trayFields (r : TrayRec) : List Field :=
  [.u8 (position trayStateNames r.state)] ++ optional (r.source.map sourceFields)
    ++ [.items r.prior, .u16 r.rejects, .u8 (trayFlagBits r.flags), .u16 r.flags.uncertain.toNat]
    ++ countFields r.count ++ [.u8 r.rejectLimit]

def replyReadTray (tray : Nat) (s : State) : Reply :=
  match index? 2 tray with
  | some t =>
    Reply.ok
      (trayFields (trayOf s t) ++ vectorFields s (holding s (.tray t))
        ++ [.u8 (position stationNames s.count.station), .u16 s.count.faults, .u16 s.count.recovered,
            .u32 s.count.stepLimit, .u32 s.count.waitLimit]
        ++ listed (countWaiterFields s) s.count.waiters) s
  | none => Reply.refuse .badOperand s

def execReadTray (h : Req) (tray : Nat) (s : State) : Result :=
  .next (immediate h ReqCode.readTray (replyReadTray tray) s)

def replyReadTolerance (s : State) : Reply :=
  Reply.ok
    (s.recon.classes.toList.flatMap (fun c => [.value c.a, .u16 c.p]) ++ [boolField s.recon.autoPost, .u32 s.recon.destLimit])
    s

def execReadTolerance (h : Req) (s : State) : Result :=
  .next (immediate h ReqCode.readTolerance replyReadTolerance s)

/-! ## READ SAFE (R143) -/

/-- Every field of a compartment record, in the order of R120's table. -/
def compFields (r : CompRec) : List Field :=
  [.u8 (position compRoleNames r.role), .value r.cap] ++ indexField r.link ++ [.u8 (position latchNames r.latch)]
    ++ wordField r.latchTimer ++ [boolField r.hold, .u8 (position doorNames r.door)] ++ wordField r.heldTimer
    ++ [.u8 (position alarmNames r.alarm)] ++ indexField r.outForCount

/-- Every field of a bag record but its holding, in the order of R144's table. The declared vector and its value stand under one
presence byte (DESIGN CHOICE, log 35). -/
def bagFields (r : BagRec) : List Field :=
  optional (r.dir.map fun d => [.u8 (position directionNames d)]) ++ [.u8 (position bagStateNames r.state)]
    ++ wordField r.tag ++ indexField r.location ++ optional (r.declared.map fun d => [.items d.vec, .value d.value])
    ++ indexField r.window

/-- A bag record located in a compartment: its index, its record and its holding with its value (R143, R160). R143 gives no order:
the index goes first, and the holding with its value after the fields of R144's table (DESIGN CHOICE, log 35). -/
def locatedBag (s : State) (b : BagIx) : List Field :=
  .u8 b.1 :: bagFields (bagOf s b) ++ vectorFields s (holding s (.bag b))

/-- A compartment with its holding value, its cap load and the bag records located in it (R143). -/
def safeLine (s : State) (c : CompIx) : List Field :=
  compFields (compOf s c) ++ [.value (valueOf s (holding s (.comp c))), .value (capLoad s c)]
    ++ listed (locatedBag s) (bagsIn s c)

/-- The request code of an access waiter's request. -/
def AccessReq.code : AccessReq → Nat
  | .startCount _ _ _ => ReqCode.startCount
  | .manualCount _ _ _ => ReqCode.manualCount
  | .postTray _ _ => ReqCode.postTray
  | .transfer _ _ _ => ReqCode.transfer
  | .adjust _ _ => ReqCode.adjust
  | .fillBag _ _ _ => ReqCode.fillBag

/-- An access waiter: its tag, request, park kind, reason, container and elapsed count (R143). -/
def accessWaiterFields (w : AccessWaiter) : List Field :=
  [.u8 w.tag.1, .u8 w.req.code, parkField (if w.req.isPost then .destination else .access),
   .u8 (position accessReasonNames w.reason), .container (some w.container), .u32 w.elapsed]

def replyReadSafe (s : State) : Reply :=
  Reply.ok
    ((List.finRange 16).flatMap (safeLine s)
      ++ [.u8 s.safe.range.low, .u8 s.safe.range.high, boolField s.safe.frozen, .u32 s.safe.waitLimit,
          .u32 s.safe.heldLimit, .u32 s.recon.destLimit]
      ++ listed accessWaiterFields s.safe.waiters) s

def execReadSafe (h : Req) (s : State) : Result :=
  .next (immediate h ReqCode.readSafe replyReadSafe s)

/-! ## READ BAG and READ WINDOW (R160) -/

def replyReadBag (bag : Nat) (s : State) : Reply :=
  match index? 32 bag with
  | some b => Reply.ok (bagFields (bagOf s b) ++ vectorFields s (holding s (.bag b))) s
  | none => Reply.refuse .badOperand s

def execReadBag (h : Req) (bag : Nat) (s : State) : Result :=
  .next (immediate h ReqCode.readBag (replyReadBag bag) s)

/-- A listed bag: to the Office Port its record index, tag number and value, to the Courier Port without the index (R160). -/
def listedBag (p : Port) (s : State) (b : BagIx) : List Field :=
  (if p == .office then [.u8 b.1] else []) ++ [.u32 ((bagOf s b).tag.getD 0), .value (bagValue s b)]

/-- READ WINDOW (R160). The badge, to the Office Port alone, goes last (DESIGN CHOICE, log 35). -/
def replyReadWindow (p : Port) (window : Nat) (s : State) : Reply :=
  match index? 4 window with
  | some w =>
    let r := windowOf s w
    Reply.ok
      ([windowField s w] ++ indexField r.comp ++ [boolField r.unstagePending, boolField (sessionAt s w)]
        ++ listed (listedBag p s) r.staged ++ (if p == .office then wordField r.badge else [])) s
  | none => Reply.refuse .badOperand s

def execReadWindow (h : Req) (window : Nat) (s : State) : Result :=
  .next (immediate h ReqCode.readWindow (replyReadWindow h.port window) s)

/-! ## READ SESSION (R178) -/

/-- The answer for a session: the window, the compartment, the state, the checksum and whether it agrees, the staged bags with
whether each is scanned, the errors, the inbound bags, the timer and its limit; the Office Port's also carries the badge. With
no checksum stored the agreement is sent as 0, and R178 gives the record indices and the badge no place: each index goes before its
bag's tag number, and the badge last (DESIGN CHOICE, log 35). The whole session stands under one presence byte (the same log). -/
def sessionFields (p : Port) (s : State) (x : Session) : List Field :=
  [.u8 x.window.1, .u8 x.comp.1, boolField x.manifestSent] ++ optional (x.checksum.map fun k => [.u16 k.toNat])
    ++ [boolField (x.checksum == some (manifestChecksum s x.window))]
    ++ listed (fun b => listedBag p s b ++ [boolField (x.scanned.contains b)]) (windowOf s x.window).staged
    ++ [.u8 x.errors]
    ++ listed (fun b => (if p == .office then [.u8 b.1] else [])
        ++ [.u32 ((bagOf s b).tag.getD 0), .value (((bagOf s b).declared.map (·.value)).getD 0)]) x.inbound
    ++ [.u32 x.idle, .u32 s.courier.idleLimit] ++ (if p == .office then [.u32 x.badge] else [])

def replyReadSession (p : Port) (s : State) : Reply :=
  Reply.ok (optional (s.courier.session.map (sessionFields p s))) s

def execReadSession (h : Req) (s : State) : Result :=
  .next (immediate h ReqCode.readSession (replyReadSession h.port) s)

/-! ## READ ROUTING (R197) and READ STATUS (R201) -/

/-- A routing entry as READ ROUTING gives it. -/
def routeLine (r : Route) : List Field :=
  [.u8 (bitSet [r.ports.office, r.ports.till, r.ports.courier]), .u8 r.priority]

def replyReadRouting (s : State) : Reply := Reply.ok (s.ports.routing.toList.flatMap routeLine) s

def execReadRouting (h : Req) (s : State) : Result :=
  .next (immediate h ReqCode.readRouting replyReadRouting s)

/-- What a PARKED slot reports: its park reason, the container concerned and its elapsed seconds (R201). -/
def parkedFields (s : State) (p : Port) (t : Tag) : List Field :=
  match s.float.waiters.find? (isFloatWaiter p t), s.count.waiters.find? (isCountWaiter p t),
      s.safe.waiters.find? (isAccessWaiter p t) with
  | some w, _, _ => floatParkFields s w ++ [.u32 w.elapsed]
  | none, some w, _ => countParkFields w ++ [.u32 w.elapsed]
  | none, none, some w => accessParkFields w ++ [.u32 w.elapsed]
  | none, none, none => []

/-- One slot of the asking port (R201). -/
def slotFields (s : State) (p : Port) (t : Tag) : List Field :=
  let st := (slotOf s p t).state
  .u8 (position slotStateNames st) ::
    (match st with
     | .parked => parkedFields s p t
     | .running => (s.count.running.map fun r => [Field.u8 r.tray.1]).getD []
     | .free | .taken | .answered => [])

def replyReadStatus (p : Port) (s : State) : Reply :=
  Reply.ok
    ([.u8 (position dayStateNames s.day.state), .u16 s.day.number, .u32 s.day.clock,
      boolField s.retention.suspect, boolField s.day.clockLimit, boolField s.safe.frozen,
      .u8 (position planStateNames s.day.planState), .u8 s.day.pointer,
      .u8 (position stationNames s.count.station), .u16 s.count.faults, .u16 s.count.recovered,
      .u8 (position trayStateNames (trayOf s 0).state), .u8 (position trayStateNames (trayOf s 1).state)]
      ++ indexField (s.courier.session.map (·.window))
      ++ [.u16 (occupancy s), .u8 s.store.journal.held]
      ++ (List.finRange 8).flatMap (slotFields s p)
      ++ [.u8 (portOf s p).notices.length, boolField (portOf s p).dropped]) s

def execReadStatus (h : Req) (s : State) : Result :=
  .next (immediate h ReqCode.readStatus (replyReadStatus h.port) s)

end Sys2Proof.Machine
end

