-- ==== Sys2Proof/Machine/Setup.lean ====
section
/-! DEFINITION. The configuration requests of the Office Port: the tables, limits, compartments, caps, windows, audit steps and
routing, and RESTORE MEMORY (R2, R17, R44, R53, R67, R112, R121, R122, R154, R21, R23, R197, R211). -/

namespace Sys2Proof.Machine

/-! ## SET DENOMINATION (R2) -/

/-- The entry the request describes, where its fields lie in their ranges (R1, R2). -/
def newDenom (status : Coded DenomStatus) (face : Nat) (form : Coded Form) (pack mass : Nat) : Option DenomEntry :=
  match status with
  | .bad => none
  | .ok .unused => some DenomEntry.unused
  | .ok st =>
    if valueIn 1 50000 face && valueIn 1 1000 pack then
      match form with
      | .bad => none
      | .ok .note => some { status := st, face := some face, form := some .note, pack := some pack, unitMass := none }
      | .ok .coin =>
        if valueIn 1 2000 mass then
          some { status := st, face := some face, form := some .coin, pack := some pack, unitMass := some mass }
        else none
    else none

/-- The face of an entry is the face of another entry that is not UNUSED (R2). -/
def faceTaken (denoms : Vector DenomEntry 16) (i : DenomIx) (e : DenomEntry) : Bool :=
  (List.finRange 16).any fun j =>
    j ≠ i && (look denoms j).status ≠ .unused && e.face.isSome && (look denoms j).face == e.face

/-- Some container holds a nonzero count at the index (R2). -/
def heldSomewhere (s : State) (i : DenomIx) : Bool := containers.any fun c => look (holding s c) i ≠ 0

/-- The change of an entry that R2 refuses while cash is held at its index. R2 refuses there a request that would make the entry
UNUSED, and takes one that would leave it exactly as it stands; UNUSED for an entry already UNUSED falls under both, and is taken
(DESIGN CHOICE, log 39). -/
def reshapes (old new : DenomEntry) : Bool :=
  (new.status == .unused && old.status ≠ .unused) || old.face ≠ new.face || old.form ≠ new.form || old.pack ≠ new.pack
    || old.unitMass ≠ new.unitMass

def replySetDenomination (index : Nat) (status : Coded DenomStatus) (face : Nat) (form : Coded Form) (pack mass : Nat)
    (s : State) : Reply :=
  if s.day.state ≠ .closed then Reply.refuse .badState s
  else match index? 16 index, newDenom status face form pack mass with
    | some i, some e =>
      if faceTaken s.store.denoms i e then Reply.refuse .badOperand s
      else if heldSomewhere s i && reshapes (look s.store.denoms i) e then Reply.refuse .badState s
      else Reply.ok [] { s with store := { s.store with denoms := put s.store.denoms i e } }
    | _, _ => Reply.refuse .badOperand s

def execSetDenomination (h : Req) (index : Nat) (status : Coded DenomStatus) (face : Nat) (form : Coded Form)
    (pack mass : Nat) (s : State) : Result :=
  .next (immediate h ReqCode.setDenomination (replySetDenomination index status face form pack mass) s)

/-! ## SET OPERATOR (R17) -/

/-- The place of an operator number in the table. -/
def operatorPlace (s : State) (number : Nat) : Option (Fin 32) :=
  (List.finRange 32).find? fun i => (look s.store.operators i).any fun e => e.number == number

/-- The empty entry a new operator takes: the one of lowest index (DESIGN CHOICE, log 8). -/
def emptyPlace (s : State) : Option (Fin 32) :=
  (List.finRange 32).find? fun i => (look s.store.operators i).isNone

/-- The operator table with one entry replaced. -/
def putOperator (i : Fin 32) (e : Option OperatorEntry) (s : State) : State :=
  { s with store := { s.store with operators := put s.store.operators i e } }

def replySetOperator (number : Nat) (role : Coded RoleArg) (standing : Coded Standing) (s : State) : Reply :=
  match role, standing with
  | .ok r, .ok st =>
    if !valueIn 1 9999 number then Reply.refuse .badOperand s
    else match r, operatorPlace s number with
      | .remove, some i => Reply.ok [] (putOperator i none s)
      | .remove, none => Reply.ok [] s
      | .role x, some i => Reply.ok [] (putOperator i (some { number, role := x, standing := st }) s)
      | .role x, none =>
        match emptyPlace s with
        | some i => Reply.ok [] (putOperator i (some { number, role := x, standing := st }) s)
        | none => Reply.refuse .operatorLimit s
  | _, _ => Reply.refuse .badOperand s

def execSetOperator (h : Req) (number : Nat) (role : Coded RoleArg) (standing : Coded Standing) (s : State) : Result :=
  .next (immediate h ReqCode.setOperator (replySetOperator number role standing) s)

/-! ## SET FLOAT PROFILE (R44) -/

/-- Step 2 of R44: the template is worth the target, its counts stand at ACTIVE indices of the mask, its coins are rolls. -/
def profileFits (denoms : Vector DenomEntry 16) (target : Nat) (template : Counts) (mask : BitVec 16) : Bool :=
  decide (valueWith denoms template = target)
    && ((List.finRange 16).all fun i =>
      look template i = 0 || ((look denoms i).status == .active && mask.getLsbD i.1))
    && ((List.finRange 16).all fun i =>
      (look denoms i).form ≠ some .coin || decide (look template i % ((look denoms i).pack.getD 1 : Nat) = 0))

/-- A profile replaced. -/
def putProfile (i : ProfileIx) (p : Profile) (s : State) : State :=
  { s with float := { s.float with profiles := put s.float.profiles i p } }

def replySetFloatProfile (index : Nat) (profile : Coded (Option ProfileArg)) (s : State) : Reply :=
  match profile with
  | .bad => Reply.refuse .badOperand s
  | .ok none =>
    match index? 8 index with
    | some i => Reply.ok [] (putProfile i Profile.empty s)
    | none => Reply.refuse .badOperand s
  | .ok (some a) =>
    match unsignedArg s a.template, index? 8 index with
    | some v, some i =>
      if !valueIn 1 Config.maxValue a.target then Reply.refuse .badOperand s
      else if !profileFits s.store.denoms a.target v a.mask then Reply.refuse .profileMismatch s
      else Reply.ok [] (putProfile i { defined := true, target := a.target, template := v, mask := a.mask } s)
    | _, _ => Reply.refuse .badOperand s

def execSetFloatProfile (h : Req) (index : Nat) (profile : Coded (Option ProfileArg)) (s : State) : Result :=
  .next (immediate h ReqCode.setFloatProfile (replySetFloatProfile index profile) s)

/-! ## SET TILL (R67) -/

def replySetTill (till limit cls : Nat) (s : State) : Reply :=
  match index? 64 till, index? 4 cls with
  | some i, some k =>
    if !valueIn 0 Config.maxValue limit then Reply.refuse .badOperand s
    else
      let t := modTill i (fun r => { r with limit, cls := k }) s
      Reply.ok [] (if (tillOf s i).limit = limit then t else evaluate i t)
  | _, _ => Reply.refuse .badOperand s

def execSetTill (h : Req) (till limit cls : Nat) (s : State) : Result :=
  .next (immediate h ReqCode.setTill (replySetTill till limit cls) s)

/-! ## SET TOLERANCE CLASS (R112) -/

def replySetToleranceClass (cls a p : Nat) (s : State) : Reply :=
  match index? 4 cls with
  | some k =>
    if valueIn 0 100000 a && valueIn 0 500 p then
      Reply.ok [] { s with recon := { s.recon with classes := put s.recon.classes k { a, p } } }
    else Reply.refuse .badOperand s
  | none => Reply.refuse .badOperand s

def execSetToleranceClass (h : Req) (cls a p : Nat) (s : State) : Result :=
  .next (immediate h ReqCode.setToleranceClass (replySetToleranceClass cls a p) s)

/-! ## SET LIMIT (R53, R85, R116, R118, R131, R139, R165) -/

/-- The range of each limit; for AUTO_POST, 0 is OFF and 1 is ON (R205). -/
def limitRange : Limit → Nat × Nat
  | .floatWait | .accessWait | .counterWait | .destinationWait => (1, 3600)
  | .counterStep => (5, 600)
  | .doorHeld => (10, 600)
  | .handoverIdle => (30, 1800)
  | .autoPost => (0, 1)

/-- The limit replaced. OFF clears every tray's pending mark and leaves no attempt owed (R118). -/
def putLimit (l : Limit) (v : Nat) (s : State) : State :=
  match l with
  | .floatWait => { s with float := { s.float with waitLimit := v } }
  | .accessWait => { s with safe := { s.safe with waitLimit := v } }
  | .counterWait => { s with count := { s.count with waitLimit := v } }
  | .destinationWait => { s with recon := { s.recon with destLimit := v } }
  | .counterStep => { s with count := { s.count with stepLimit := v } }
  | .doorHeld => { s with safe := { s.safe with heldLimit := v } }
  | .handoverIdle => { s with courier := { s.courier with idleLimit := v } }
  | .autoPost =>
    if v = 0 then clearAutoPost 1 (clearAutoPost 0 { s with recon := { s.recon with autoPost := false } })
    else { s with recon := { s.recon with autoPost := true } }

def replySetLimit (limit : Coded Limit) (value : Nat) (s : State) : Reply :=
  match limit with
  | .ok l =>
    if valueIn (limitRange l).1 (limitRange l).2 value then Reply.ok [] (putLimit l value s)
    else Reply.refuse .badOperand s
  | .bad => Reply.refuse .badOperand s

def execSetLimit (h : Req) (limit : Coded Limit) (value : Nat) (s : State) : Result :=
  .next (immediate h ReqCode.setLimit (replySetLimit limit value) s)

/-! ## SET COMPARTMENT and SET CAP (R121, R122) -/

/-- A role of which there is at most one compartment (R121). -/
def soleRole (r : CompRole) : Bool := r == .floatReserve || r == .changeFund

/-- A bag record that is not FREE is located in the compartment, or a window names it (R121). -/
def dockInUse (s : State) (c : CompIx) : Bool :=
  ((List.finRange 32).any fun b => (bagOf s b).state ≠ .free && (bagOf s b).location == some c)
    || ((List.finRange 4).any fun w => (windowOf s w).comp == some c)

def replySetCompartment (comp : Nat) (role : Coded CompRole) (link : Coded (Option Nat)) (s : State) : Reply :=
  if s.day.state ≠ .closed then Reply.refuse .badState s
  else match index? 16 comp, role, optionalIx 16 link with
    | some c, .ok r, some l =>
      if l = some c then Reply.refuse .badOperand s
      else if soleRole r && (List.finRange 16).any (fun d => d ≠ c && (compOf s d).role == r) then
        Reply.refuse .badOperand s
      else if (compOf s c).role == .outbound && r ≠ .outbound && dockInUse s c then Reply.refuse .badState s
      else Reply.ok [] (modComp c (fun x => { x with role := r, link := l }) s)
    | _, _, _ => Reply.refuse .badOperand s

def execSetCompartment (h : Req) (comp : Nat) (role : Coded CompRole) (link : Coded (Option Nat)) (s : State) : Result :=
  .next (immediate h ReqCode.setCompartment (replySetCompartment comp role link) s)

def replySetCap (comp cap : Nat) (s : State) : Reply :=
  match index? 16 comp with
  | some c =>
    if !valueIn 0 Config.maxValue cap then Reply.refuse .badOperand s
    else if (cap : Int) < capLoad s c then Reply.refuse .overCap s
    else Reply.ok [] (modComp c (fun x => { x with cap }) s)
  | none => Reply.refuse .badOperand s

def execSetCap (h : Req) (comp cap : Nat) (s : State) : Result :=
  .next (immediate h ReqCode.setCap (replySetCap comp cap) s)

/-! ## SET WINDOW (R154) -/

/-- An expected badge: absent, or a number of 1 to 99,999,999 (R153). -/
def badgeArg : Coded (Option Nat) → Option (Option Nat)
  | .bad => none
  | .ok none => some none
  | .ok (some n) => if valueIn 1 Config.maxTagNumber n then some (some n) else none

def replySetWindow (window : Nat) (badge comp : Coded (Option Nat)) (s : State) : Reply :=
  match index? 4 window, badgeArg badge, optionalIx 16 comp with
  | some w, some b, some c =>
    let r := windowOf s w
    if (r.state ≠ .planned && r.state ≠ .closed) || sessionAt s w then Reply.refuse .badState s
    else if c.any (fun k => (compOf s k).role ≠ .outbound) then Reply.refuse .badState s
    else if c ≠ r.comp && !r.staged.isEmpty then Reply.refuse .badState s
    else Reply.ok [] (modWindow w (fun x => { x with badge := b, comp := c }) s)
  | _, _, _ => Reply.refuse .badOperand s

def execSetWindow (h : Req) (window : Nat) (badge : Coded (Option Nat)) (comp : Coded (Option Nat)) (s : State) : Result :=
  .next (immediate h ReqCode.setWindow (replySetWindow window badge comp) s)

/-! ## SET AUDIT STEP and RELEASE STEP (R21, R23) -/

/-- A till or a compartment, the containers that have an audit-step flag (R21). -/
def stepContainer : Coded Container → Option Container
  | .ok (.till i) => some (.till i)
  | .ok (.comp i) => some (.comp i)
  | .ok (.tray _) => none
  | .ok (.bag _) => none
  | .bad => none

def replySetAuditStep (container : Coded Container) (on : Coded Bool) (s : State) : Reply :=
  match stepContainer container, on with
  | some c, .ok b => Reply.ok [] (setStepBits c { flag := b, mark := (stepBits s c).mark } s)
  | _, _ => Reply.refuse .badOperand s

def execSetAuditStep (h : Req) (container : Coded Container) (on : Coded Bool) (s : State) : Result :=
  .next (immediate h ReqCode.setAuditStep (replySetAuditStep container on) s)

/-- A compartment whose parking condition a removed step-pending mark ends (R130). -/
def isComp (c : Container) (k : CompIx) : Bool := c == .comp k

/-- RELEASE STEP of a container: its mark removed, the request answered, the one pass made and the report given (R23, R130). -/
def releaseStepOf (h : Req) (c : Container) (s : State) : State :=
  if (stepBits s c).mark then
    let s := setStepBits c { flag := (stepBits s c).flag, mark := false } s
    parkingEnded (isComp c) false (stepPass c (answer h.port h.tag .ok 0 [] s))
  else answer h.port h.tag .ok 0 [] s

/-- RELEASE STEP (R23). R23 gives no answer for a tray or a bag; the model answers BAD_OPERAND, as R21 does for SET AUDIT STEP
(DESIGN CHOICE, log 39). -/
def execReleaseStep (h : Req) (container : Coded Container) (s : State) : Result :=
  .next (request h ReqCode.releaseStep
    (fun s => match stepContainer container with
      | some c => releaseStepOf h c s
      | none => answer h.port h.tag .badOperand 0 [] s) s)

/-! ## SET ROUTING (R197) -/

/-- A set of ports as a field (R204). -/
def portBits (p : PortSet) : Nat := bitSet [p.office, p.till, p.courier]

/-- The fields of a routing entry. -/
def routeFields (r : Route) : List Field := [.u8 (portBits r.ports), .u8 r.priority]

/-- The entry SET ROUTING stores: the Office Port is kept for the kinds of R197. -/
def newRoute (k : NoticeKind) (ports : PortSet) (priority : Nat) : Route :=
  { ports := { ports with office := ports.office || officeAlways k }, priority }

def replySetRouting (kind : Coded NoticeKind) (ports : Coded PortSet) (priority : Nat) (s : State) : Reply :=
  match kind, ports with
  | .ok k, .ok ps =>
    if !valueIn 0 3 priority then Reply.refuse .badOperand s
    else
      let r := newRoute k ps priority
      Reply.ok (routeFields r)
        { s with ports := { s.ports with routing := put s.ports.routing (kindIx k) r } }
  | _, _ => Reply.refuse .badOperand s

def execSetRouting (h : Req) (kind : Coded NoticeKind) (ports : Coded PortSet) (priority : Nat) (s : State) : Result :=
  .next (immediate h ReqCode.setRouting (replySetRouting kind ports priority) s)

/-! ## RESTORE MEMORY (R211) -/

def replyRestoreMemory (s : State) : Reply :=
  if s.retention.suspect then Reply.ok [] { s with retention := { s.retention with suspect := false } }
  else Reply.refuse .badState s

def execRestoreMemory (h : Req) (s : State) : Result :=
  .next (immediate h ReqCode.restoreMemory (authorised .dualManager h replyRestoreMemory) s)

end Sys2Proof.Machine
end

