-- ==== Sys2Proof/Machine/Station.lean ====
section
/-! DEFINITION. The counting station's line and replies, the reply timeout and the step limit (R71 to R76, R207). -/

namespace Sys2Proof.Machine

/-- READY is taken while the station is RUNNING and the SET-UP reply has been accepted (R73). -/
def readyTaken (s : State) : State :=
  match s.count.running with
  | some r =>
    if s.count.station = .running ∧ s.count.exchange = none ∧ r.step.isSome = true then
      modCount (fun u => { u with station := .collecting, running := some { r with step := none }
                                  exchange := some .status }) s
    else s
  | none => s

def execReady (s : State) : Result := .next (happening readyTaken s)

/-- SELECT's reply: 0x01 goes on to SET-UP, anything else fails the exchange (R72, R207). -/
def selectAnswered (block : List Byte) (s : State) : State :=
  if s.count.exchange = some .select then
    if reply? 0xD1 1 block = some [0x01#8] then sendSetUp s else failCount .linkFault s
  else s

def execSelectReply (block : List Byte) (s : State) : Result := .next (happening (selectAnswered block) s)

/-- A SET-UP exchange is in progress. -/
def settingUp (s : State) : Bool :=
  match s.count.exchange with
  | some (.setUp _ _ _) => true
  | some .select | some .status | some .result | some .abandon => false
  | none => false

/-- SET-UP's reply: 0x01 is accepted, and the link rests until READY; anything else fails the exchange (R72, R207). -/
def setUpAnswered (block : List Byte) (s : State) : State :=
  if settingUp s then
    if reply? 0xD2 1 block = some [0x01#8] then modCount (fun u => { u with exchange := none }) s
    else failCount .linkFault s
  else s

def execSetUpReply (block : List Byte) (s : State) : Result := .next (happening (setUpAnswered block) s)

/-- STATUS's reply (R74). -/
def statusAnswered (block : List Byte) (s : State) : State :=
  if s.count.exchange = some .status then
    match reply? 0xD3 2 block with
    | some [flags, reason] => statusTaken flags reason s
    | _ => failCount .linkFault s
  else s

def execStatusReply (block : List Byte) (s : State) : Result := .next (happening (statusAnswered block) s)

/-- RESULT's reply (R75). -/
def resultAnswered (block : List Byte) (s : State) : State :=
  if s.count.exchange = some .result then
    match reply? 0xD4 99 block with
    | some bs => resultTaken bs s
    | none => resultFails s
  else s

def execResultReply (block : List Byte) (s : State) : Result := .next (happening (resultAnswered block) s)

/-- ABANDON's reply, disregarded but for the end of its exchange (R71). -/
def abandonAnswered (s : State) : State := if s.count.exchange = some .abandon then abandonOver s else s

def execAbandonReply (_block : List Byte) (s : State) : Result := .next (happening abandonAnswered s)

/-- No reply within 50 ms, or a gap of more than 10 ms inside one: the exchange in progress fails (R71, R75). -/
def exchangeFails (s : State) : State :=
  match s.count.exchange with
  | some .select | some (.setUp _ _ _) | some .status => failCount .linkFault s
  | some .result => resultFails s
  | some .abandon => abandonOver s
  | none => s

def execCounterReplyTimeout (s : State) : Result := .next (happening exchangeFails s)

/-- The step limit expires while the station is RUNNING (R73). -/
def stepExpires (s : State) : State :=
  match s.count.running with
  | some r =>
    match r.step with
    | some x => if s.count.station = .running ∧ x.limit ≤ x.elapsed then failCount .noResponse s else s
    | none => s
  | none => s

def execStepLimitExpiry (s : State) : Result := .next (happening stepExpires s)

end Sys2Proof.Machine
end

