-- ==== Sys2Proof/Machine/Supply.lean ====
section
/-! DEFINITION. The supply: the loss of main and of backup supply, power return and cold start (R40, R54, R96, R132, R142, R161,
R177, R200, R208 to R212). -/

namespace Sys2Proof.Machine

/-- The supply field, replaced. -/
def setSupply (v : Supply) (s : State) : State := { s with retention := { s.retention with supply := v } }

/-- The loss of main supply: the backup domain runs on where backup is present (R209). -/
def execMainSupplyLoss (backupPresent : Bool) (s : State) : Result :=
  .next
    (if s.retention.supply = .good then setSupply (if backupPresent then .cut else .dead) s else s)

/-- Backup absent while main is not good: the backup domain stops, and retained memory is lost (R209). -/
def execBackupSupplyLoss (s : State) : Result :=
  .next (if s.retention.supply = .cut then setSupply .dead s else s)

/-! ## Power return (R210) -/

/-- Step 1: every Port Controller reset, and POWER_RETURN raised with content WARM, coded 0 (R200; log 6). -/
def resetPorts (spacing : List Port) (s : State) : State :=
  let ports :=
    { s.ports with
      office := PortRec.cold (spacing.contains .office)
      till := PortRec.cold (spacing.contains .till)
      courier := PortRec.cold (spacing.contains .courier) }
  raise .powerReturn .part [.u8 0] { s with ports }

/-- The Count Unit's changes (R96). A station that was running sends ABANDON; any other exchange is gone. -/
def returnCount (s : State) : State :=
  let s := modCount (fun u => { u with exchange := none, selectWaiting := false }) s
  discardCounts (fun _ => true) (abandonCount s)

/-- One compartment at power return (R142). -/
def returnComp (open_ : Bool) (r : CompRec) : CompRec :=
  { r with
    latch := .engaged, latchTimer := none, hold := false, heldRaised := false
    door := if open_ then .opened else .closed
    heldTimer := if open_ then some 0 else none
    alarm := if !open_ && r.alarm == .held then .none else r.alarm }

/-- The Safe Unit's changes (R132, R142). -/
def returnSafe (doorsOpen : List CompIx) (s : State) : State :=
  let comps := Vector.ofFn fun c => returnComp (doorsOpen.contains c) (compOf s c)
  { s with safe := { s.safe with comps, waiters := [] } }

/-- The Float Unit's changes (R54); a re-try owed to a list that is emptied lapses. -/
def returnFloat (s : State) : State := { s with float := { s.float with waiters := [], retryDue := 0 } }

/-- Auto-post attempts owed lapse at the cut; the pending marks are retained (R119). -/
def returnRecon (s : State) : State :=
  let none' : Vector Bool 2 := Vector.replicate 2 false
  { s with recon := { s.recon with attemptDue := none', reported := none' } }

/-- Each word rotated left by its word address modulo 32, and the words summed modulo 2^32 (R208). -/
def checkWord (words : List (BitVec 32)) : BitVec 32 :=
  words.zipIdx.foldl (fun acc p => acc + p.1.rotateLeft (p.2 % 32)) 0#32

/-- Step 3: the stored word, which differs from the computed one by the drift, compared with it; a difference sets
MEMORY_SUSPECT, and the stored word becomes the computed one (R210). -/
def compareWords (s : State) : State :=
  let computed := checkWord (Config.retainedWords s)
  if s.retention.drift = 0 then s
  else
    raise .memorySuspect .part [.u32 (computed + s.retention.drift).toNat, .u32 computed.toNat]
      { s with retention := { s.retention with suspect := true, drift := 0 } }

/-- Step 4: catch-up, and a CLOCK_LIMIT left from the cut (R40). -/
def returnDay (s : State) : State :=
  let s := catchUp s
  if s.day.limitOwed then raise .clockLimit .day [] (modDay (fun d => { d with limitOwed := false }) s) else s

/-- The completion check on the reports the units make at power return (R40). -/
def reportedCheck (s : State) : State :=
  if s.event.reported then completionCheck { s with event := Scratch.empty } else s

/-- Power return (R210). The session's end reports every compartment accessible, which reaches the pending auto-posts (R119, R174)
and finds no float waiter (R177); the Day Unit acts after the check word, on the units' reports first (R40; log 10). `drift` is
the difference that words changed without a write during the cut have left. -/
def warmStart (doorsOpen : List CompIx) (spacing : List Port) (drift : BitVec 32) (s : State) : State :=
  let s := setSupply .good { s with event := Scratch.empty }
  let s := { s with retention := { s.retention with drift := s.retention.drift + drift } }
  let s := returnRecon (returnFloat (returnCount (resetPorts spacing s)))
  let s := abortAny .powerReturn (returnSafe doorsOpen s)
  let s := { returnFloat s with event := { s.event with signals := [] } }
  finish (returnDay (reportedCheck (compareWords s)))

/-- A cold start: everything at its cold value, the commands still waiting kept (R212). -/
def coldStart (doorsOpen : List CompIx) (spacing : List Port) (s : State) : State :=
  { State.cold doorsOpen spacing with pending := s.pending }

/-- Power return is taken from a cut; after a stopped backup domain the return of main supply is a cold start (R209). -/
def execPowerReturn (doorsOpen : List CompIx) (spacing : List Port) (drift : BitVec 32) (s : State) : Result :=
  .next
    (match s.retention.supply with
     | .good => s
     | .cut => warmStart doorsOpen spacing drift s
     | .dead => coldStart doorsOpen spacing s)

/-- COLD_START, a cold start (R212), in every supply state. While main supply is good, or after a cut with backup present, R212's
event cannot arise; the command then stands for the loss of both supplies followed by it (DESIGN CHOICE, log 4). -/
def execColdStart (doorsOpen : List CompIx) (spacing : List Port) (s : State) : Result :=
  .next (coldStart doorsOpen spacing s)

end Sys2Proof.Machine
end

