-- ==== Sys2Proof/Machine/Till.lean ====
section
/-! DEFINITION. The requests about tills: floats and top-ups, takings, pickups and pouches, and the till state requests (R48, R50,
R54 to R56, R61 to R66). -/

namespace Sys2Proof.Machine

/-! ## Floats and top-ups (R48, R50) -/

/-- The operands of a float request: the till and the profile, in range (R48, step 1). -/
def floatArg (till profile : Nat) : Option FloatAsk :=
  match index? 64 till, index? 8 profile with
  | some t, some p => some (.float t p)
  | _, _ => none

/-- The operands of a top-up request: the till and the value, in range (R50, step 1). -/
def topupArg (till value : Nat) : Option FloatAsk :=
  match index? 64 till with
  | some t => if valueIn 1 Config.maxValue value then some (.topup t value) else none
  | none => none

/-- A float or top-up request as the Float Unit takes it up: authorised, its operands checked, then attempted. -/
def floatRequest (h : Req) (code : Nat) (level : Level) (ask : Option FloatAsk) (s : State) : State :=
  request h code
    (fun s => match authorise level h s, ask with
      | some c, _ => answer h.port h.tag c 0 [] s
      | none, none => answer h.port h.tag .badOperand 0 [] s
      | none, some a => floatArrival h.port h.tag (recordedOps level h) a s) s

def execIssueFloat (h : Req) (till profile : Nat) (s : State) : Result :=
  .next (floatRequest h ReqCode.issueFloat .one (floatArg till profile) s)

def execRequestFloat (h : Req) (till profile : Nat) (s : State) : Result :=
  .next (floatRequest h ReqCode.requestFloat .zero (floatArg till profile) s)

def execRequestTopup (h : Req) (till value : Nat) (s : State) : Result :=
  .next (floatRequest h ReqCode.requestTopup (topupLevel h) (topupArg till value) s)

/-! ## Takings (R55, R56) -/

def replyTakingsUpdate (till value : Nat) (s : State) : Reply :=
  match index? 64 till with
  | some i =>
    let st := (tillOf s i).state
    if !valueIn 0 Config.maxValue value then Reply.refuse .badOperand s
    else if st ≠ .trading && st ≠ .suspended then Reply.refuse .badState s
    else
      let t := evaluate i (modTill i (fun r => { r with running := some value }) s)
      Reply.ok [.value (estimate (tillOf t i))] t
  | none => Reply.refuse .badOperand s

def execTakingsUpdate (h : Req) (till value : Nat) (s : State) : Result :=
  .next (immediate h ReqCode.takingsUpdate (replyTakingsUpdate till value) s)

/-- What FINAL TAKINGS leads to in the till's state (R56). -/
def afterFinal (i : TillIx) (s : State) : State :=
  let r := tillOf s i
  match r.state with
  | .trading => evaluate i s
  | .held => if r.hold.undeclared then lateFinal i s else s
  | .idle | .returned | .suspended | .counting => s

def replyFinalTakings (till value : Nat) (s : State) : Reply :=
  match index? 64 till with
  | some i =>
    if !valueIn 0 Config.maxValue value then Reply.refuse .badOperand s
    else if (tillOf s i).state = .idle then Reply.refuse .badState s
    else Reply.ok [] (afterFinal i (modTill i (fun r => { r with running := some value, final := some value }) s))
  | none => Reply.refuse .badOperand s

def execFinalTakings (h : Req) (till value : Nat) (s : State) : Result :=
  .next (immediate h ReqCode.finalTakings (replyFinalTakings till value) s)

/-! ## Pickups and pouches (R61, R62) -/

/-- Pouches of a till that are not COUNTED. -/
def openPouches (r : TillRec) : Nat := (r.pouches.filter fun p => p.state ≠ .counted).length

/-- The pouch REQUEST PICKUP adds: the next number, OUTSTANDING (R60, R61). -/
def newPouch (r : TillRec) (declared : Nat) : Pouch :=
  { number := r.pouches.length + 1, declared, state := .outstanding, counted := none, diff := none }

def replyRequestPickup (till declared : Nat) (s : State) : Reply :=
  match index? 64 till with
  | some i =>
    let r := tillOf s i
    if !valueIn 1 Config.maxValue declared then Reply.refuse .badOperand s
    else if r.state ≠ .trading || r.signedOff then Reply.refuse .badState s
    else if Config.maxOpenPouches ≤ openPouches r || Config.maxPouches ≤ r.pouches.length then
      Reply.refuse .pouchLimit s
    else
      let p := newPouch r declared
      let t := evaluate i (modTill i (fun r => { r with pouches := r.pouches ++ [p] }) s)
      Reply.ok [.u8 p.number, .value (estimate (tillOf t i))] t
  | none => Reply.refuse .badOperand s

def execRequestPickup (h : Req) (till declared : Nat) (s : State) : Result :=
  .next (immediate h ReqCode.requestPickup (replyRequestPickup till declared) s)

def replyReceivePouch (till number : Nat) (s : State) : Reply :=
  match index? 64 till with
  | some i =>
    match pouch? (tillOf s i) number with
    | some p =>
      if p.state = .outstanding then
        Reply.ok [] (report (modTill i
          (fun r => { r with pouches := modPouch number (fun p => { p with state := .received }) r.pouches }) s))
      else Reply.refuse .badState s
    | none => Reply.refuse .badOperand s
  | none => Reply.refuse .badOperand s

def execReceivePouch (h : Req) (till number : Nat) (s : State) : Result :=
  .next (immediate h ReqCode.receivePouch (replyReceivePouch till number) s)

/-! ## SIGN OFF, WITHDRAW TILL, RETURN DRAWER, SUSPEND TILL and RESTORE TILL (R54, R63 to R66) -/

/-- SIGN OFF (R63). The till's parked top-ups are answered before the request itself (DESIGN CHOICE, log 9). A till signed off that is
neither TRADING nor SUSPENDED falls under two sentences of R63, OK and BAD_STATE; the model answers BAD_STATE (DESIGN CHOICE, log 39). -/
def replySignOff (till : Nat) (s : State) : Reply :=
  match index? 64 till with
  | some i =>
    let r := tillOf s i
    if r.state ≠ .trading && r.state ≠ .suspended then Reply.refuse .badState s
    else if r.signedOff then Reply.ok [] s
    else Reply.ok [] (dismissTopups i (modTill i (fun r => { r with signedOff := true }) s))
  | none => Reply.refuse .badOperand s

def execSignOff (h : Req) (till : Nat) (s : State) : Result :=
  .next (immediate h ReqCode.signOff (replySignOff till) s)

/-- The Till Port's waiters for a till (R54). -/
def tillPortWaiter (i : TillIx) (w : FloatWaiter) : Bool := w.port == .till && w.ask.tillIx == i

def replyWithdrawTill (till : Nat) (s : State) : Reply :=
  match index? 64 till with
  | some i =>
    Reply.ok [.u8 (s.float.waiters.filter (tillPortWaiter i)).length] (dismissFloats (tillPortWaiter i) .withdrawn s)
  | none => Reply.refuse .badOperand s

def execWithdrawTill (h : Req) (till : Nat) (s : State) : Result :=
  .next (immediate h ReqCode.withdrawTill (replyWithdrawTill till) s)

/-- A till's state changed, and the change reported (R43). -/
def moveTill (i : TillIx) (st : TillState) (s : State) : State := report (modTill i (fun r => { r with state := st }) s)

def replyReturnDrawer (till : Nat) (s : State) : Reply :=
  match index? 64 till with
  | some i =>
    let st := (tillOf s i).state
    if s.day.state = .closed then Reply.refuse .dayNotOpen s
    else if st ≠ .trading && st ≠ .suspended then Reply.refuse .badState s
    else Reply.ok [] (dismissTopups i (moveTill i .returned s))
  | none => Reply.refuse .badOperand s

def execReturnDrawer (h : Req) (till : Nat) (s : State) : Result :=
  .next (immediate h ReqCode.returnDrawer (replyReturnDrawer till) s)

def replySuspendTill (till : Nat) (s : State) : Reply :=
  match index? 64 till with
  | some i =>
    if (tillOf s i).state ≠ .trading then Reply.refuse .badState s
    else Reply.ok [] (dismissTopups i (moveTill i .suspended s))
  | none => Reply.refuse .badOperand s

def execSuspendTill (h : Req) (till : Nat) (s : State) : Result :=
  .next (immediate h ReqCode.suspendTill (replySuspendTill till) s)

def replyRestoreTill (till : Nat) (s : State) : Reply :=
  match index? 64 till with
  | some i =>
    if s.day.state = .closed then Reply.refuse .dayNotOpen s
    else if (tillOf s i).state ≠ .suspended then Reply.refuse .badState s
    else Reply.ok [] (evaluate i (moveTill i .trading s))
  | none => Reply.refuse .badOperand s

def execRestoreTill (h : Req) (till : Nat) (s : State) : Result :=
  .next (immediate h ReqCode.restoreTill (replyRestoreTill till) s)

end Sys2Proof.Machine
end

