-- ==== Sys2Proof/Machine/Timers.lean ====
section
/-! DEFINITION. The events the units make of their own accord: auto-post attempts, float re-tries, expiries, doors, the seconds
tick and the plan (R31, R36, R52, R53, R85, R116, R119, R131, R137 to R140, R165). -/

namespace Sys2Proof.Machine

/-! ## Attempts that follow other events -/

def execAutoPostAttempt (t : TrayIx) (s : State) : Result := .next (happening (autoPostTry t) s)

/-- A re-try pass of the float waiters, where one is owed (R52). -/
def owedFloatPass (s : State) : State :=
  if s.float.retryDue = 0 then s
  else floatPass { s with float := { s.float with retryDue := s.float.retryDue - 1 } }

def execFloatRetryPass (s : State) : Result := .next (happening owedFloatPass s)

/-! ## Wait limits (R53, R85, R116, R131)

A limit is compared at every second, and a new value from the next second: the comparison is with the limit in force. -/

/-- A float waiter's expiry, with reason STOCK or ACCESS (R53). -/
def floatExpires (p : Port) (tag : Tag) (s : State) : State :=
  match s.float.waiters.find? (isFloatWaiter p tag) with
  | some w =>
    if s.float.waitInForce ≤ w.elapsed then
      answer p tag .expired (if w.park = .stock then expiredStock else expiredAccess) []
        (discardFloats (isFloatWaiter p tag) s)
    else s
  | none => s

def execFloatWaitExpiry (p : Port) (tag : Tag) (s : State) : Result := .next (happening (floatExpires p tag) s)

/-- A count waiter's expiry, with reason COUNTER or TRAY (R85). -/
def countExpires (p : Port) (tag : Tag) (s : State) : State :=
  match s.count.waiters.find? (isCountWaiter p tag) with
  | some w =>
    if s.count.waitInForce ≤ w.elapsed then
      answer p tag .expired (if w.park = .counter then expiredCounter else expiredTray) []
        (discardCounts (isCountWaiter p tag) s)
    else s
  | none => s

def execCounterWaitExpiry (p : Port) (tag : Tag) (s : State) : Result := .next (happening (countExpires p tag) s)

/-- The expiry of an access waiter that is a post or is not one, at its limit, with its detail (R116, R131). -/
def accessExpires (post : Bool) (limit detail : Nat) (p : Port) (tag : Tag) (s : State) : State :=
  match s.safe.waiters.find? (isAccessWaiter p tag) with
  | some w =>
    if w.req.isPost = post ∧ limit ≤ w.elapsed then
      answer p tag .expired detail [] (discardAccess (isAccessWaiter p tag) s)
    else s
  | none => s

def execAccessWaitExpiry (p : Port) (tag : Tag) (s : State) : Result :=
  .next (happening (accessExpires false s.safe.waitInForce expiredAccess p tag) s)

def execDestinationWaitExpiry (p : Port) (tag : Tag) (s : State) : Result :=
  .next (happening (accessExpires true s.recon.destInForce expiredDestination p tag) s)

/-! ## Latches, doors and the session (R137 to R140, R165) -/

/-- The latch window of a compartment has run its 30 seconds with the door CLOSED (R137). -/
def windowOver (r : CompRec) : Bool :=
  match r.latchTimer with
  | some n => decide (Config.latchWindow ≤ n) && r.door == .closed && !r.hold
  | none => false

/-- The latch engages at the end of its window (R137). -/
def latchExpires (c : CompIx) (s : State) : State :=
  if windowOver (compOf s c) then modComp c (fun r => { r with latch := .engaged, latchTimer := none }) s else s

def execLatchWindowExpiry (c : CompIx) (s : State) : Result := .next (happening (latchExpires c) s)

/-- The held timer reaches the door-held limit: HELD unless FORCED, and DOOR_HELD once for each run (R139). -/
def heldExpires (c : CompIx) (s : State) : State :=
  let r := compOf s c
  match r.heldTimer with
  | some n =>
    if s.safe.heldInForce ≤ n ∧ r.heldRaised = false then
      raise .doorHeld (.comp c) [.u32 n]
        (modComp c (fun r => { r with heldRaised := true, alarm := if r.alarm = .none then .held else r.alarm }) s)
    else s
  | none => s

def execDoorHeldExpiry (c : CompIx) (s : State) : Result := .next (happening (heldExpires c) s)

/-- The idle timer reaches the handover idle limit (R165). -/
def idleExpires (s : State) : State :=
  match s.courier.session with
  | some x => if s.courier.idleInForce ≤ x.idle then abortSession .idle x s else s
  | none => s

def execHandoverIdleExpiry (s : State) : Result := .next (happening idleExpires s)

/-- A door opens (R138, R140). -/
def doorOpened (c : CompIx) (s : State) : State :=
  let r := compOf s c
  match r.door with
  | .opened => s
  | .closed =>
    if r.hold then modComp c (fun r => { r with door := .opened }) s
    else
      let s := modComp c (fun r => { r with door := .opened, heldTimer := some 0, heldRaised := false }) s
      match r.latch with
      | .released => modComp c (fun r => { r with latchTimer := none }) s
      | .engaged =>
        raise .doorForced (.comp c) [.u8 (position alarmNames r.alarm), .u32 s.day.clock]
          (modComp c (fun r => { r with alarm := .forced }) s)

def execDoorOpens (c : CompIx) (s : State) : Result := .next (happening (doorOpened c) s)

/-- A door closes (R139, R140). -/
def doorClosed (c : CompIx) (s : State) : State :=
  modComp c
    (fun r => match r.door with
      | .closed => r
      | .opened =>
        { r with door := .closed, heldTimer := none, heldRaised := false
                 latch := if r.hold then r.latch else .engaged
                 alarm := if r.alarm = .held then .none else r.alarm })
    s

def execDoorCloses (c : CompIx) (s : State) : Result := .next (happening (doorClosed c) s)

/-! ## The seconds timebase (R31, R36) -/

/-- One compartment's timers after a second: the latch window, and the held timer of an open door that is not under a hold. -/
def tickComp (r : CompRec) : CompRec :=
  { r with
    latchTimer := r.latchTimer.map (· + 1)
    heldTimer := if r.hold then r.heldTimer else r.heldTimer.map (· + 1) }

/-- The elapsed-second timers after a second (R31): the waiters, the running count's step limit, latches and doors, the
session's idle timer. -/
def tickTimers (s : State) : State :=
  { s with
    float := { s.float with waiters := s.float.waiters.map fun w => { w with elapsed := w.elapsed + 1 } }
    count := { s.count with
      waiters := s.count.waiters.map fun w => { w with elapsed := w.elapsed + 1 }
      running := s.count.running.map fun r =>
        { r with step := r.step.map fun x => { x with elapsed := x.elapsed + 1 } } }
    safe := { s.safe with
      waiters := s.safe.waiters.map fun w => { w with elapsed := w.elapsed + 1 }
      comps := s.safe.comps.map tickComp }
    courier := { s.courier with session := s.courier.session.map fun x => { x with idle := x.idle + 1 } } }

/-- Each wait limit as it stands at a second is the one compared until the next (R53, R85, R116, R131, R139, R165). -/
def tickLimits (s : State) : State :=
  { s with
    float := { s.float with waitInForce := s.float.waitLimit }
    count := { s.count with waitInForce := s.count.waitLimit }
    recon := { s.recon with destInForce := s.recon.destLimit }
    safe := { s.safe with waitInForce := s.safe.waitLimit, heldInForce := s.safe.heldLimit }
    courier := { s.courier with idleInForce := s.courier.idleLimit } }

/-- The day clock after a second while main supply is good, with CLOCK_LIMIT where it is reached (R31). -/
def tickDay (s : State) : State :=
  let reached := limitReached s.day
  let s := modDay (fun d => { d with clock := tickClock d, clockLimit := d.clockLimit || reached }) s
  if reached then raise .clockLimit .day [] s else s

/-- The day clock after a second of a cut: no notice is queued, and a limit reached is still to be reported (R31). -/
def tickCut (s : State) : State :=
  let reached := limitReached s.day
  modDay (fun d => { d with clock := tickClock d, clockLimit := d.clockLimit || reached
                            limitOwed := d.limitOwed || reached }) s

/-- A second of the timebase, which runs on backup supply through a cut (R31, R209). -/
def execClockTick (s : State) : Result :=
  .next
    (match s.retention.supply with
     | .good => happening (fun s => tickDay (tickTimers (tickLimits s))) s
     | .cut => tickCut (tickLimits s)
     | .dead => s)

def execPlanEntryDue (s : State) : Result := .next (happening runPlan s)

end Sys2Proof.Machine
end

