-- ==== Sys2Proof/Machine/Dispatch.lean ====
section
/-! DEFINITION. One arm per command, each one call of its meaning. -/

namespace Sys2Proof.Machine

/-- The effect of a command on everything but the queue. -/
def exec (i : Instr) (s : State) : Host.Outcome State Fault Refusal :=
  match i with
  | .setDenomination h index status face form pack mass => Sys2Proof.Machine.execSetDenomination h index status face form pack mass s
  | .setOperator h number role standing => Sys2Proof.Machine.execSetOperator h number role standing s
  | .setFloatProfile h index profile => Sys2Proof.Machine.execSetFloatProfile h index profile s
  | .setTill h till limit cls => Sys2Proof.Machine.execSetTill h till limit cls s
  | .setToleranceClass h cls a p => Sys2Proof.Machine.execSetToleranceClass h cls a p s
  | .setLimit h limit value => Sys2Proof.Machine.execSetLimit h limit value s
  | .setCompartment h comp role link => Sys2Proof.Machine.execSetCompartment h comp role link s
  | .setCap h comp cap => Sys2Proof.Machine.execSetCap h comp cap s
  | .setWindow h window badge comp => Sys2Proof.Machine.execSetWindow h window badge comp s
  | .setAuditStep h container on => Sys2Proof.Machine.execSetAuditStep h container on s
  | .releaseStep h container => Sys2Proof.Machine.execReleaseStep h container s
  | .setRouting h kind ports priority => Sys2Proof.Machine.execSetRouting h kind ports priority s
  | .restoreMemory h => Sys2Proof.Machine.execRestoreMemory h s
  | .openDay h => Sys2Proof.Machine.execOpenDay h s
  | .closeDay h => Sys2Proof.Machine.execCloseDay h s
  | .reopen h => Sys2Proof.Machine.execReopen h s
  | .setClock h time => Sys2Proof.Machine.execSetClock h time s
  | .loadPlanEntry h index time action => Sys2Proof.Machine.execLoadPlanEntry h index time action s
  | .holdPlan h => Sys2Proof.Machine.execHoldPlan h s
  | .resumePlan h => Sys2Proof.Machine.execResumePlan h s
  | .issueFloat h till profile => Sys2Proof.Machine.execIssueFloat h till profile s
  | .requestFloat h till profile => Sys2Proof.Machine.execRequestFloat h till profile s
  | .requestTopup h till value => Sys2Proof.Machine.execRequestTopup h till value s
  | .takingsUpdate h till value => Sys2Proof.Machine.execTakingsUpdate h till value s
  | .finalTakings h till value => Sys2Proof.Machine.execFinalTakings h till value s
  | .requestPickup h till declared => Sys2Proof.Machine.execRequestPickup h till declared s
  | .signOff h till => Sys2Proof.Machine.execSignOff h till s
  | .withdrawTill h till => Sys2Proof.Machine.execWithdrawTill h till s
  | .returnDrawer h till => Sys2Proof.Machine.execReturnDrawer h till s
  | .suspendTill h till => Sys2Proof.Machine.execSuspendTill h till s
  | .restoreTill h till => Sys2Proof.Machine.execRestoreTill h till s
  | .receivePouch h till number => Sys2Proof.Machine.execReceivePouch h till number s
  | .startCount h source tray reject => Sys2Proof.Machine.execStartCount h source tray reject s
  | .recount h tray reject => Sys2Proof.Machine.execRecount h tray reject s
  | .manualCount h tray vec source => Sys2Proof.Machine.execManualCount h tray vec source s
  | .restoreCounter h => Sys2Proof.Machine.execRestoreCounter h s
  | .resetOperations h => Sys2Proof.Machine.execResetOperations h s
  | .postTray h tray => Sys2Proof.Machine.execPostTray h tray s
  | .acceptVariance h till => Sys2Proof.Machine.execAcceptVariance h till s
  | .openRange h low high => Sys2Proof.Machine.execOpenRange h low high s
  | .lockAll h => Sys2Proof.Machine.execLockAll h s
  | .freeze h => Sys2Proof.Machine.execFreeze h s
  | .thaw h => Sys2Proof.Machine.execThaw h s
  | .transfer h src dst vec => Sys2Proof.Machine.execTransfer h src dst vec s
  | .adjust h comp vec => Sys2Proof.Machine.execAdjust h comp vec s
  | .clearAlarm h comp => Sys2Proof.Machine.execClearAlarm h comp s
  | .newBag h comp => Sys2Proof.Machine.execNewBag h comp s
  | .fillBag h bag comp vec => Sys2Proof.Machine.execFillBag h bag comp vec s
  | .closeBag h bag tagNumber => Sys2Proof.Machine.execCloseBag h bag tagNumber s
  | .reopenBag h bag => Sys2Proof.Machine.execReopenBag h bag s
  | .freeBag h bag => Sys2Proof.Machine.execFreeBag h bag s
  | .stageBag h bag window => Sys2Proof.Machine.execStageBag h bag window s
  | .dropBag h bag => Sys2Proof.Machine.execDropBag h bag s
  | .openWindow h window => Sys2Proof.Machine.execOpenWindow h window s
  | .closeWindow h window => Sys2Proof.Machine.execCloseWindow h window s
  | .arrive h window badge => Sys2Proof.Machine.execArrive h window badge s
  | .readManifest h => Sys2Proof.Machine.execReadManifest h s
  | .scanBag h tagNumber => Sys2Proof.Machine.execScanBag h tagNumber s
  | .declareInbound h tagNumber vec => Sys2Proof.Machine.execDeclareInbound h tagNumber vec s
  | .confirmHandover h checksum => Sys2Proof.Machine.execConfirmHandover h checksum s
  | .depart h => Sys2Proof.Machine.execDepart h s
  | .readJournal h start maximum => Sys2Proof.Machine.execReadJournal h start maximum s
  | .archive h seq => Sys2Proof.Machine.execArchive h seq s
  | .readStatus h => Sys2Proof.Machine.execReadStatus h s
  | .withdraw h tags => Sys2Proof.Machine.execWithdraw h tags s
  | .readHolding h container => Sys2Proof.Machine.execReadHolding h container s
  | .readPosition h => Sys2Proof.Machine.execReadPosition h s
  | .readDenominations h => Sys2Proof.Machine.execReadDenominations h s
  | .readPlan h => Sys2Proof.Machine.execReadPlan h s
  | .readProfile h profile => Sys2Proof.Machine.execReadProfile h profile s
  | .readTill h till => Sys2Proof.Machine.execReadTill h till s
  | .readResult h till => Sys2Proof.Machine.execReadResult h till s
  | .readTray h tray => Sys2Proof.Machine.execReadTray h tray s
  | .readTolerance h => Sys2Proof.Machine.execReadTolerance h s
  | .readSafe h => Sys2Proof.Machine.execReadSafe h s
  | .readBag h bag => Sys2Proof.Machine.execReadBag h bag s
  | .readWindow h window => Sys2Proof.Machine.execReadWindow h window s
  | .readSession h => Sys2Proof.Machine.execReadSession h s
  | .readRouting h => Sys2Proof.Machine.execReadRouting h s
  | .frameDiscarded p cause => Sys2Proof.Machine.execFrameDiscarded p cause s
  | .unknownRequestCode p tag code => Sys2Proof.Machine.execUnknownRequestCode p tag code s
  | .badTagFrame p tag code => Sys2Proof.Machine.execBadTagFrame p tag code s
  | .linkReset p => Sys2Proof.Machine.execLinkReset p s
  | .linkReturnsMarking p => Sys2Proof.Machine.execLinkReturnsMarking p s
  | .frameTransmitted p => Sys2Proof.Machine.execFrameTransmitted p s
  | .ready => Sys2Proof.Machine.execReady s
  | .selectReply block => Sys2Proof.Machine.execSelectReply block s
  | .setUpReply block => Sys2Proof.Machine.execSetUpReply block s
  | .statusReply block => Sys2Proof.Machine.execStatusReply block s
  | .resultReply block => Sys2Proof.Machine.execResultReply block s
  | .abandonReply block => Sys2Proof.Machine.execAbandonReply block s
  | .counterReplyTimeout => Sys2Proof.Machine.execCounterReplyTimeout s
  | .stepLimitExpiry => Sys2Proof.Machine.execStepLimitExpiry s
  | .autoPostAttempt t => Sys2Proof.Machine.execAutoPostAttempt t s
  | .floatRetryPass => Sys2Proof.Machine.execFloatRetryPass s
  | .floatWaitExpiry p tag => Sys2Proof.Machine.execFloatWaitExpiry p tag s
  | .counterWaitExpiry p tag => Sys2Proof.Machine.execCounterWaitExpiry p tag s
  | .accessWaitExpiry p tag => Sys2Proof.Machine.execAccessWaitExpiry p tag s
  | .destinationWaitExpiry p tag => Sys2Proof.Machine.execDestinationWaitExpiry p tag s
  | .latchWindowExpiry c => Sys2Proof.Machine.execLatchWindowExpiry c s
  | .doorHeldExpiry c => Sys2Proof.Machine.execDoorHeldExpiry c s
  | .handoverIdleExpiry => Sys2Proof.Machine.execHandoverIdleExpiry s
  | .doorOpens c => Sys2Proof.Machine.execDoorOpens c s
  | .doorCloses c => Sys2Proof.Machine.execDoorCloses c s
  | .clockTick => Sys2Proof.Machine.execClockTick s
  | .planEntryDue => Sys2Proof.Machine.execPlanEntryDue s
  | .mainSupplyLoss backupPresent => Sys2Proof.Machine.execMainSupplyLoss backupPresent s
  | .backupSupplyLoss => Sys2Proof.Machine.execBackupSupplyLoss s
  | .powerReturn doorsOpen spacing drift => Sys2Proof.Machine.execPowerReturn doorsOpen spacing drift s
  | .coldStart doorsOpen spacing => Sys2Proof.Machine.execColdStart doorsOpen spacing s

end Sys2Proof.Machine
end

