-- ==== Sys2Proof/Safety.lean ====
section
/-! DEFINITION. What counts as a safe state and as a served request, in the terms the statements use: a request that its port
can take, the state in which its owner takes it up, the end of an event, and the invariants the manual states in bold. -/

namespace Sys2Proof.Machine

/-! ## A request served -/

/-- A request that the part takes up: main supply is good, the port's line is in service and the slot of its tag is FREE (R189,
R191, R209). -/
def ready (s : State) (h : Req) : Bool := canReceive s h.port && (slotOf s h.port h.tag).state == .free

/-- A ready request of the Office Port. -/
def officeReady (s : State) (h : Req) : Bool := ready s h && h.port == .office

/-- A ready request of the Till Port. -/
def tillReady (s : State) (h : Req) : Bool := ready s h && h.port == .till

/-- A ready request of the Courier Port. -/
def courierReady (s : State) (h : Req) : Bool := ready s h && h.port == .courier

/-- The state in which the owner takes up a request of this code: the port ACTIVE, the slot TAKEN, and on the Courier Port the
session's idle timer restarted (R165, R189, R191). Everything else is as the request found it. -/
def accepted (h : Req) (code : Nat) (s : State) : State :=
  takeSlot h.port h.tag code (heard h.port { s with event := Scratch.empty })

/-- A request answered in an event that calls for no pass and no completion check: beyond `t`, the answer enters the port's
response list and the idle lines start their next frames. -/
def settled (h : Req) (c : Code) (results : List Field) (t : State) : State :=
  startFrames { answer h.port h.tag c 0 results t with event := Scratch.empty }

/-- A request answered in an event whose passes and completion check follow the answer. -/
def replied (h : Req) (c : Code) (results : List Field) (t : State) : State :=
  finish (answer h.port h.tag c 0 results t)

/-- The state in which an event that is no request begins. -/
def begun (s : State) : State := { s with event := Scratch.empty }

/-- The end of an event that calls for no pass and no completion check. -/
def ended (t : State) : State := startFrames { t with event := Scratch.empty }

/-- The request a command is, with the code its answer echoes (R205); nothing for a frame, line or internal event. -/
def requestOf : Instr → Option (Req × Nat)
  | .setDenomination h _ _ _ _ _ _ => some (h, 0x01)
  | .setOperator h _ _ _ => some (h, 0x02)
  | .setFloatProfile h _ _ => some (h, 0x03)
  | .setTill h _ _ _ => some (h, 0x04)
  | .setToleranceClass h _ _ _ => some (h, 0x05)
  | .setLimit h _ _ => some (h, 0x06)
  | .setCompartment h _ _ _ => some (h, 0x07)
  | .setCap h _ _ => some (h, 0x08)
  | .setWindow h _ _ _ => some (h, 0x09)
  | .setAuditStep h _ _ => some (h, 0x0A)
  | .releaseStep h _ => some (h, 0x0B)
  | .setRouting h _ _ _ => some (h, 0x0C)
  | .restoreMemory h => some (h, 0x0D)
  | .openDay h => some (h, 0x10)
  | .closeDay h => some (h, 0x11)
  | .reopen h => some (h, 0x12)
  | .setClock h _ => some (h, 0x13)
  | .loadPlanEntry h _ _ _ => some (h, 0x14)
  | .holdPlan h => some (h, 0x15)
  | .resumePlan h => some (h, 0x16)
  | .issueFloat h _ _ => some (h, 0x20)
  | .requestFloat h _ _ => some (h, 0x21)
  | .requestTopup h _ _ => some (h, 0x22)
  | .takingsUpdate h _ _ => some (h, 0x23)
  | .finalTakings h _ _ => some (h, 0x24)
  | .requestPickup h _ _ => some (h, 0x25)
  | .signOff h _ => some (h, 0x26)
  | .withdrawTill h _ => some (h, 0x27)
  | .returnDrawer h _ => some (h, 0x28)
  | .suspendTill h _ => some (h, 0x29)
  | .restoreTill h _ => some (h, 0x2A)
  | .receivePouch h _ _ => some (h, 0x2B)
  | .startCount h _ _ _ => some (h, 0x30)
  | .recount h _ _ => some (h, 0x31)
  | .manualCount h _ _ _ => some (h, 0x32)
  | .restoreCounter h => some (h, 0x33)
  | .resetOperations h => some (h, 0x34)
  | .postTray h _ => some (h, 0x35)
  | .acceptVariance h _ => some (h, 0x36)
  | .openRange h _ _ => some (h, 0x40)
  | .lockAll h => some (h, 0x41)
  | .freeze h => some (h, 0x42)
  | .thaw h => some (h, 0x43)
  | .transfer h _ _ _ => some (h, 0x44)
  | .adjust h _ _ => some (h, 0x45)
  | .clearAlarm h _ => some (h, 0x46)
  | .newBag h _ => some (h, 0x50)
  | .fillBag h _ _ _ => some (h, 0x51)
  | .closeBag h _ _ => some (h, 0x52)
  | .reopenBag h _ => some (h, 0x53)
  | .freeBag h _ => some (h, 0x54)
  | .stageBag h _ _ => some (h, 0x55)
  | .dropBag h _ => some (h, 0x56)
  | .openWindow h _ => some (h, 0x57)
  | .closeWindow h _ => some (h, 0x58)
  | .arrive h _ _ => some (h, 0x60)
  | .readManifest h => some (h, 0x61)
  | .scanBag h _ => some (h, 0x62)
  | .declareInbound h _ _ => some (h, 0x63)
  | .confirmHandover h _ => some (h, 0x64)
  | .depart h => some (h, 0x65)
  | .readJournal h _ _ => some (h, 0x70)
  | .archive h _ => some (h, 0x71)
  | .readStatus h => some (h, 0x80)
  | .withdraw h _ => some (h, 0x81)
  | .readHolding h _ => some (h, 0x82)
  | .readPosition h => some (h, 0x83)
  | .readDenominations h => some (h, 0x84)
  | .readPlan h => some (h, 0x85)
  | .readProfile h _ => some (h, 0x86)
  | .readTill h _ => some (h, 0x87)
  | .readResult h _ => some (h, 0x88)
  | .readTray h _ => some (h, 0x89)
  | .readTolerance h => some (h, 0x8A)
  | .readSafe h => some (h, 0x8B)
  | .readBag h _ => some (h, 0x8C)
  | .readWindow h _ => some (h, 0x8D)
  | .readSession h => some (h, 0x8E)
  | .readRouting h => some (h, 0x8F)
  | .frameDiscarded _ _ | .unknownRequestCode _ _ _ | .badTagFrame _ _ _ | .linkReset _ | .linkReturnsMarking _
  | .frameTransmitted _ | .ready | .selectReply _ | .setUpReply _ | .statusReply _ | .resultReply _ | .abandonReply _
  | .counterReplyTimeout | .stepLimitExpiry | .autoPostAttempt _ | .floatRetryPass | .floatWaitExpiry _ _
  | .counterWaitExpiry _ _ | .accessWaitExpiry _ _ | .destinationWaitExpiry _ _ | .latchWindowExpiry _
  | .doorHeldExpiry _ | .handoverIdleExpiry | .doorOpens _ | .doorCloses _ | .clockTick | .planEntryDue
  | .mainSupplyLoss _ | .backupSupplyLoss | .powerReturn _ _ _ | .coldStart _ _ => none

/-- An ACTIVE operator of that number is in the table, with a role that passes (R18). -/
def hasOperator (s : State) (number : Nat) (role : OpRole → Bool) : Prop :=
  ∃ i e, look s.store.operators i = some e ∧ e.number = number ∧ e.standing = .active ∧ role e.role = true

/-! ## A count that starts -/

/-- The movement a start is checked by: COUNT_OUT of the source's whole holding, or for a source that holds
nothing the checks alone (R82). -/
def startMove (s : State) (src : Source) (t : TrayIx) (h : Req) : Movement :=
  if allZero (sourceVector s src) = true then emptyStart (some src) h.port [h.op1]
  else countOutMove src t h.port [h.op1] false s

/-! ## A count abandoned, and waiters answered -/

/-- The state in which the running count has been abandoned (R90, R183): ABANDON is sent and any other exchange given up, the station
is IDLE with its faults as they were, the tray INVALID with its holding, source and count number kept, the held journal entry
released with the marks following, and the pass over the count waiters called for. No notice is raised. -/
def abandoned (r : RunningCount) (s : State) : State :=
  let left := s.store.journal.entries.length + (s.store.journal.held - 1)
  { s with
    count := { s.count with
      station := .idle, running := none, exchange := some .abandon, selectWaiting := false
      trays := put s.count.trays r.tray { trayOf s r.tray with state := .invalid } }
    store := { s.store with journal := { s.store.journal with
      held := s.store.journal.held - 1
      high := s.store.journal.high && decide (Config.journalHigh ≤ left)
      full := s.store.journal.full && decide (Config.journalSize ≤ left) } }
    event := { signals := s.event.signals ++ [.countPass], reported := true } }

/-- `t` is `s` with the requests of a list answered, in its order, with one code, no detail and no results: on each port the frames
of their answers follow the responses waiting, their slots are ANSWERED, and nothing else of the ports differs (R193, R205). -/
structure AnswersEach (ws : List (Port × Tag)) (c : Code) (s t : State) : Prop where
  responses : ∀ p, (portOf t p).responses = (portOf s p).responses ++ (ws.filter fun w => w.1 == p).flatMap fun w =>
    framesOf { tag := w.2.1, code := (slotOf s p w.2).code, outcome := c, detail := 0, results := [] }
  slots : ∀ p tag, slotOf t p tag = if (p, tag) ∈ ws then { slotOf s p tag with state := .answered } else slotOf s p tag
  rest : ∀ p, (portOf t p).link = (portOf s p).link ∧ (portOf t p).notices = (portOf s p).notices
    ∧ (portOf t p).dropped = (portOf s p).dropped ∧ (portOf t p).line = (portOf s p).line
  routing : t.ports.routing = s.ports.routing

/-- `t` is `s` with the float waiters selected gone from their list, the others in their order, and each of them answered in list order
(R48, R54, R63 to R65). -/
structure FloatsAnswered (sel : FloatWaiter → Bool) (c : Code) (s t : State) : Prop where
  rest : t = { s with float := { s.float with waiters := s.float.waiters.filter fun w => !sel w }, ports := t.ports }
  answers : AnswersEach ((s.float.waiters.filter sel).map fun w => (w.port, w.tag)) c s t

/-- The ports of `t` are those of `s` with one slot PARKED, its code kept (R193). -/
structure SlotParked (p : Port) (tag : Tag) (s t : State) : Prop where
  slots : ∀ q u, slotOf t q u = if q = p ∧ u = tag then { slotOf s p tag with state := .parked } else slotOf s q u
  rest : ∀ q, portOf t q = { portOf s q with slots := (portOf t q).slots }
  routing : t.ports.routing = s.ports.routing

/-! ## Invariants -/

/-- For every denomination, while the day is not CLOSED, the sum over all containers is base + inflow − outflow (R15). -/
def Balanced (s : State) : Prop :=
  s.day.state ≠ .closed →
    ∀ i : DenomIx, officeSum s i = look s.store.base i + look s.store.inflow i - look s.store.outflow i

/-- A count of a holding lies in 0 to 65,535 (R6). -/
def countsInRange (v : Counts) : Prop := ∀ i : DenomIx, 0 ≤ look v i ∧ look v i ≤ Config.maxCount

/-- The vector a waiting request carries, where it carries an unsigned one. -/
def AccessReq.carried : AccessReq → Option Counts
  | .manualCount _ v _ => some v
  | .transfer _ _ v => some v
  | .fillBag _ _ v => some v
  | .startCount _ _ _ | .postTray _ _ | .adjust _ _ => none

/-- Every holding is in range (R6), and so is everything a later movement may be built from: the vectors of waiting requests
(R5) and the templates of the profiles (R44). -/
structure RangesHold (s : State) : Prop where
  holdings : ∀ c, countsInRange (holding s c)
  waiting : ∀ w ∈ s.safe.waiters, ∀ v, w.req.carried = some v → countsInRange v
  templates : ∀ p : ProfileIx, countsInRange (look s.float.profiles p).template

/-- A queue of notices holds at most 16, no two of the same kind and subject (R198). -/
def QueueOk (q : List Notice) : Prop :=
  q.length ≤ 16 ∧ q.Pairwise fun m n => ¬ (m.kind = n.kind ∧ m.subject = n.subject)

/-- Every port's queue is one, and no routing entry gives a priority above 3 (R196, R198). -/
structure QueuesHold (s : State) : Prop where
  queues : ∀ p, QueueOk (portOf s p).notices
  routes : ∀ k, (look s.ports.routing k).priority ≤ 3

/-- The station is RUNNING or COLLECTING exactly while a count runs, and a tray is COUNTING exactly while it is the tray of the
running count (R69, R70, R79). -/
structure StationHolds (s : State) : Prop where
  station : s.count.running.isSome ↔ s.count.station = .running ∨ s.count.station = .collecting
  trays : ∀ t, (trayOf s t).state = .counting ↔ ∃ r, s.count.running = some r ∧ r.tray = t

/-- Entries and held entries never exceed 512 (R183), one entry is held exactly while a count runs (R83, R183), and the numbers
of the list run on without a break up to the next number (R182). -/
structure JournalHolds (s : State) : Prop where
  room : occupancy s ≤ 512
  held : s.store.journal.held = if s.count.running.isSome then 1 else 0
  range : 1 ≤ s.store.journal.nextSeq ∧ s.store.journal.nextSeq ≤ Config.maxSeq
  chain : (s.store.journal.entries.map (·.seq)).IsChain fun a b => b = seqAfter a
  last : ∀ e, s.store.journal.entries.getLast? = some e → s.store.journal.nextSeq = seqAfter e.seq

/-- The limits of R42 and R60 on one till: at most three top-ups, at most four pouches that are not COUNTED, at most 255 pouches,
numbered in order from 1. -/
structure TillOk (r : TillRec) : Prop where
  topups : r.topups ≤ 3
  opened : openPouches r ≤ 4
  length : r.pouches.length ≤ 255
  numbers : r.pouches.map (·.number) = (List.range r.pouches.length).map (· + 1)

/-- Every till is within its limits. -/
def TillsHold (s : State) : Prop := ∀ i, TillOk (tillOf s i)

/-- The day number, the clock and the pointer lie in their ranges (R24, R35), and the live part of the plan is in order of time
(R33). -/
structure DayHolds (s : State) : Prop where
  number : s.day.number ≤ 65535
  clock : s.day.clock ≤ 86399
  pointer : s.day.pointer ≤ 64
  ordered : planOrdered s.day.plan = true

/-- What a till is worth while it holds a float (R43): F, in the states in which a drawer is out; nothing in the others. -/
def tillWorth (r : TillRec) : Int :=
  match r.state with
  | .trading | .returned | .suspended => r.f
  | .idle | .counting | .held => 0

/-- A till holds cash worth F while its drawer is out and worth nothing otherwise (R43), and its coins in whole rolls (R47). -/
structure TillCashHolds (s : State) : Prop where
  worth : ∀ i, valueOf s (holding s (.till i)) = tillWorth (tillOf s i)
  rolls : ∀ (i : TillIx) (d : DenomIx), (look s.store.denoms d).form = some .coin →
    (((look s.store.denoms d).pack.getD 1 : Nat) : Int) ∣ look (holding s (.till i)) d

/-- No compartment's cap load is above its cap (R122). -/
def CapsHold (s : State) : Prop := ∀ c, capLoad s c ≤ (compOf s c).cap

/-- No two entries of the operator table hold the same number (R17). -/
def OperatorsHold (s : State) : Prop :=
  ∀ i j e f, look s.store.operators i = some e → look s.store.operators j = some f → e.number = f.number → i = j

/-- The record of an inbound bag that a tray holds the count of. -/
def countedBag (r : BagRec) : Prop := r.dir = some .inbound ∧ (r.state = .counting ∨ r.state = .counted)

/-- What the manual says of bags taken together: a FREE or HANDED bag and an inbound bag hold nothing (R144, R145); a bag stands
in a window's staged list exactly when it is STAGED for that window, and once (R151); the inbound list of a session holds
ANNOUNCED inbound bags (R162, R170); a tray whose source is an inbound bag stands for a bag COUNTING or COUNTED, and no other tray
does for the same bag (R81, R110). -/
structure BagsHold (s : State) : Prop where
  empty : ∀ b, (bagOf s b).state = .free ∨ (bagOf s b).state = .handed ∨ (bagOf s b).dir ≠ some .outbound →
    holding s (.bag b) = Counts.zero
  listed : ∀ w b, b ∈ (windowOf s w).staged ↔ (bagOf s b).state = .staged ∧ (bagOf s b).window = some w
  once : ∀ w, (windowOf s w).staged.Nodup
  staged : ∀ b, (bagOf s b).state = .staged → (bagOf s b).window.isSome ∧ (bagOf s b).dir = some .outbound
  inbound : ∀ x, s.courier.session = some x → ∀ b ∈ x.inbound,
    (bagOf s b).dir = some .inbound ∧ (bagOf s b).state = .announced
  counts : ∀ t b, (trayOf s t).source = some (.inbound b) → countedBag (bagOf s b)
  distinct : ∀ t u b, (trayOf s t).source = some (.inbound b) → (trayOf s u).source = some (.inbound b) → t = u

/-- A FREE or HANDED bag holds nothing (R145). -/
def EmptyBags (s : State) : Prop :=
  ∀ b, (bagOf s b).state = .free ∨ (bagOf s b).state = .handed → holding s (.bag b) = Counts.zero

end Sys2Proof.Machine
end

