-- ==== Sys2Proof/Certificates/Slice0/Obligations.lean ====
section
/-! DEFINITION. The statements for the provers. In a statement that a command completes, `exec` answers a next state written out:
`accepted h code s` is the state in which the owner takes up the request (its frame is in Sys2Proof/Laws/Requests.lean), the record
update on it is the whole effect, and `settled` or `replied` adds the answer and the end of the event; `begun` and `ended` do
the same for an event that is no request. Everything the update does not name is unchanged. -/

open Sys2Proof Sys2Proof.Machine

/-! ## The queue, the start, the ports -/

/-- A step runs the command at the front of the queue on the state with the queue's rest; on an empty queue the block idles (the
model's choice, log 1). -/
def Obligations.StepRunsTheFrontCommand : Prop :=
  (∀ (s : State) (c : Instr) (rest : List Instr), step { s with pending := c :: rest } = exec c { s with pending := rest })
    ∧ ∀ s : State, s.pending = [] → step s = .next s

/-- Every command answers a next state, and none touches the queue: there is no command on which the part stops. -/
def Obligations.EveryCommandCompletes : Prop :=
  ∀ (c : Instr) (s : State), ∃ t, exec c s = .next t ∧ t.pending = s.pending

/-- What a cold start leaves (R212 and the rules it gathers): the values the manual gives, with every door found CLOSED and
every receive line marking. The model's choices among them: the doors and lines as found (log 12), the byte that codes COLD in the
notice (log 6), an empty range by ends of which the low one is above the high one (log 7), the limits in force (log 38), and the
fields of the model's own with the empty command queue (log 32). -/
def Obligations.ResetIsAColdStart : Prop :=
  let s := State.reset
  let route (office till courier : Bool) (priority : Nat) : Route := { ports := { office, till, courier }, priority }
  (∀ c, holding s c = Counts.zero) ∧ s.store.base = Counts.zero ∧ s.store.inflow = Counts.zero
    ∧ s.store.outflow = Counts.zero ∧ s.store.totals = DayTotals.zero
    ∧ (∀ i, look s.store.denoms i = { status := .unused, face := none, form := none, pack := none, unitMass := none })
    ∧ (∀ i, look s.store.operators i = none) ∧ (∀ c, stepBits s c = { flag := false, mark := false })
    ∧ s.store.journal = { entries := [], nextSeq := 1, held := 0, high := false, full := false }
    ∧ s.day.state = .closed ∧ s.day.number = 0 ∧ s.day.clock = 0 ∧ s.day.clockLimit = false ∧ s.day.limitOwed = false
    ∧ s.day.planState = .stopped ∧ s.day.pointer = 0 ∧ (∀ i, look s.day.plan i = { time := 0, action := .stop })
    ∧ (∀ i, tillOf s i =
        { state := .idle, session := 0, profile := none, mask := 0, f := 0, topups := 0, signedOff := false
          running := none, final := none, pouches := [], p := 0, limit := 0, cls := 0, armed := true
          hold := { undeclared := false, pendingPickups := false, outside := false, gross := false, uncertain := false }
          last := none })
    ∧ (∀ p, look s.float.profiles p = { defined := false, target := 0, template := Counts.zero, mask := 0 })
    ∧ s.float.waiters = [] ∧ s.float.waitLimit = 300 ∧ s.float.waitInForce = 300 ∧ s.float.retryDue = 0
    ∧ s.count.station = .idle ∧ s.count.faults = 0 ∧ s.count.recovered = 0 ∧ s.count.waiters = [] ∧ s.count.lastCount = none
    ∧ s.count.running = none ∧ s.count.exchange = none ∧ s.count.selectWaiting = false
    ∧ s.count.waitLimit = 900 ∧ s.count.waitInForce = 900 ∧ s.count.stepLimit = 90
    ∧ (∀ t, trayOf s t =
        { state := .empty, source := none, prior := Counts.zero, rejects := 0
          flags := { manual := false, uncertain := 0, saturated := false }, count := none, rejectLimit := 0 })
    ∧ (∀ k, look s.recon.classes k = { a := 0, p := 0 }) ∧ (∀ i, drawerOf s i = none)
    ∧ (∀ t, look s.recon.diffs t = none ∧ look s.recon.pending t = false ∧ look s.recon.fillOps t = []
        ∧ look s.recon.attemptDue t = false ∧ look s.recon.reported t = false)
    ∧ s.recon.autoPost = false ∧ s.recon.destLimit = 600 ∧ s.recon.destInForce = 600
    ∧ (∀ c, compOf s c =
        { role := .general, cap := 0, link := none, latch := .engaged, latchTimer := none, hold := false, door := .closed
          heldTimer := none, heldRaised := false, alarm := .none, outForCount := none })
    ∧ s.safe.range.high < s.safe.range.low ∧ s.safe.frozen = false ∧ s.safe.waiters = [] ∧ s.safe.waitLimit = 300
    ∧ s.safe.waitInForce = 300 ∧ s.safe.heldLimit = 120 ∧ s.safe.heldInForce = 120
    ∧ (∀ b, bagOf s b =
        { dir := none, state := .free, tag := none, location := none, declared := none, window := none })
    ∧ (∀ w, windowOf s w = { state := .planned, badge := none, comp := none, staged := [], unstagePending := false })
    ∧ s.courier.session = none ∧ s.courier.idleLimit = 300 ∧ s.courier.idleInForce = 300
    ∧ (∀ p, portOf s p =
        { link := .quiet, slots := Vector.replicate 8 { state := .free, code := 0 }, responses := []
          notices := [{ kind := .powerReturn, subject := .part, priority := 3, day := 0, time := 0, content := [.u8 1] }]
          dropped := false, line := none })
    ∧ (∀ k : NoticeKind, look s.ports.routing (kindIx k) = match k with
        | .pickupDue => route true true false 1
        | .tillHeld => route true true false 2
        | .journalFull => route true true false 3
        | .countDone | .postDiverted | .auditStep | .varianceNoted | .planEntryRefused | .clockLimit => route true false false 1
        | .reserveLow | .countFault | .postHeld | .doorHeld | .windowMissed | .badgeRefused | .journalHigh =>
          route true false false 2
        | .counterDown | .memorySuspect => route true false false 3
        | .tillSettled => route false true false 0
        | .windowOpen | .windowClosed | .handoverDone => route true false true 1
        | .handoverAborted => route true false true 2
        | .doorForced => route true false true 3
        | .dayState => route true true true 1
        | .powerReturn => route true true true 3)
    ∧ s.retention.suspect = false ∧ s.retention.drift = 0 ∧ s.retention.supply = .good
    ∧ s.stamp = 0 ∧ s.event = { signals := [], reported := false } ∧ s.pending = []

/-- A request is turned away before it reaches an owner in three cases: nothing arrives while main supply is lost or the port is
in BREAK; a tag whose slot is not FREE is answered with a REJECT and touches no slot (R191); a request the port has no right
to is answered NOT_PERMITTED (R192). In each case nothing but the ports changes, save the session's idle timer for the
Courier Port's frame (R165). And what a reception does to the ports: a frame makes its port ACTIVE and restarts the idle timer of
a session on the Courier Port (R165, R189); a taken request makes its slot TAKEN with its code, a REJECT joins the responses
unless one for its tag waits there (R191), and an answer makes the slot ANSWERED and its frames join the responses (R193, R205).
That a request on a port in BREAK or without main supply is lost is read from R188 and R209 (log 5). -/
def Obligations.RequestsTurnedAway : Prop :=
  (∀ (c : Instr) (h : Req) (code : Nat) (s : State), requestOf c = some (h, code) →
    (canReceive s h.port = false → exec c s = .next s)
    ∧ (canReceive s h.port = true → (slotOf s h.port h.tag).state ≠ .free →
        exec c s = .next (ended (rejectTag h.port h.tag (heard h.port (begun s)))))
    ∧ (ready s h = true → granted code h.port = false →
        exec c s = .next (settled h .notPermitted [] (accepted h code s))))
  ∧ ∀ (s : State) (p : Port),
    let only (t : State) (r : PortRec) :=
      portOf t p = r ∧ (∀ q, q ≠ p → portOf t q = portOf s q) ∧ t.ports.routing = s.ports.routing
    let timed : CourierUnit :=
      if p = .courier then { s.courier with session := s.courier.session.map fun x => { x with idle := 0 } } else s.courier
    (canReceive s p = true ↔ s.retention.supply = .good ∧ (portOf s p).link ≠ .brk)
    ∧ (let t := heard p s
      only t { portOf s p with link := .active } ∧ t = { s with ports := t.ports, courier := timed })
    ∧ ∀ tag : Tag,
      let r := portOf s p
      (∀ (h : Req) (code : Nat), h.port = p → h.tag = tag →
        let t := accepted h code s
        only t { r with link := .active, slots := put r.slots tag { state := .taken, code } }
        ∧ t = { s with ports := t.ports, courier := timed, event := { signals := [], reported := false } })
      ∧ (let t := rejectTag p tag s
        only t { r with responses := if .reject tag ∈ r.responses then r.responses else r.responses ++ [.reject tag] }
        ∧ t = { s with ports := t.ports })
      ∧ ∀ (c : Code) (detail : Nat) (results : List Field),
        let t := answer p tag c detail results s
        only t { r with
          slots := put r.slots tag { state := .answered, code := (look r.slots tag).code }
          responses := r.responses ++ framesOf { tag := tag.1, code := (look r.slots tag).code, outcome := c, detail, results } }
        ∧ t = { s with ports := t.ports }

/-- The rights table (R192), by request code. -/
def Obligations.RightsTable : Prop :=
  let officeOnly : List Nat :=
    [0x01, 0x02, 0x03, 0x04, 0x05, 0x06, 0x07, 0x08, 0x09, 0x0A, 0x0B, 0x0C, 0x0D, 0x10, 0x11, 0x12, 0x13, 0x14, 0x15, 0x16,
     0x20, 0x28, 0x29, 0x2A, 0x2B, 0x30, 0x31, 0x32, 0x33, 0x34, 0x35, 0x36, 0x40, 0x41, 0x42, 0x43, 0x44, 0x45, 0x46,
     0x50, 0x51, 0x52, 0x53, 0x54, 0x55, 0x56, 0x57, 0x58, 0x70, 0x71, 0x83, 0x84, 0x85, 0x86, 0x89, 0x8A, 0x8B, 0x8C, 0x8F]
  let tillOnly : List Nat := [0x21, 0x23, 0x24, 0x25, 0x26, 0x27]
  let courierOnly : List Nat := [0x60, 0x61, 0x62, 0x63, 0x64, 0x65]
  let officeAndTill : List Nat := [0x22, 0x82, 0x87, 0x88]
  let officeAndCourier : List Nat := [0x8D, 0x8E]
  let all : List Nat := [0x80, 0x81]
  (∀ k ∈ officeOnly, granted k .office = true ∧ granted k .till = false ∧ granted k .courier = false)
    ∧ (∀ k ∈ tillOnly, granted k .office = false ∧ granted k .till = true ∧ granted k .courier = false)
    ∧ (∀ k ∈ courierOnly, granted k .office = false ∧ granted k .till = false ∧ granted k .courier = true)
    ∧ (∀ k ∈ officeAndTill, granted k .office = true ∧ granted k .till = true ∧ granted k .courier = false)
    ∧ (∀ k ∈ officeAndCourier, granted k .office = true ∧ granted k .till = false ∧ granted k .courier = true)
    ∧ (∀ k ∈ all, ∀ p, granted k p = true)
    ∧ ∀ (c : Instr) (h : Req) (k : Nat), requestOf c = some (h, k) →
        k ∈ officeOnly ++ tillOnly ++ courierOnly ++ officeAndTill ++ officeAndCourier ++ all

/-! ## Computations -/

/-- The CRC (R203): the register's start, the step of one byte, the two values the manual gives, the comparison a receiver
makes, which accepts a block exactly where its type, its length and its CRC agree, and its use for the manifest and on the
Counter Link. -/
def Obligations.CrcRule : Prop :=
  crc [] = 0xFFFF#16
    ∧ (∀ (bs : List Byte) (b : Byte), crc (bs ++ [b]) = crcShift^[8] (crc bs ^^^ (b.setWidth 16 <<< 8)))
    ∧ (∀ r : BitVec 16, crcShift r = if r.msb = true then (r <<< 1) ^^^ 0x1021#16 else r <<< 1)
    ∧ crc [0x31#8, 0x32#8, 0x33#8, 0x34#8, 0x35#8, 0x36#8, 0x37#8, 0x38#8, 0x39#8] = 0x29B1#16
    ∧ (∀ (type : Nat) (bs payload : List Byte),
        let covered := byteOf type :: byteOf payload.length :: payload
        payloadOf? type bs = some payload ↔ payload.length ≤ 255 ∧ bs = covered ++ bytes2 (crc covered).toNat)
    ∧ (∀ (s : State) (w : WindowIx), manifestChecksum s w
        = crc ((windowOf s w).staged.flatMap fun b => bytes4 ((bagOf s b).tag.getD 0) ++ bytes4 (bagValue s b).toNat))
    ∧ ∀ c : LinkCommand, ∃ covered, commandBytes c = covered ++ bytes2 (crc covered).toNat

/-- The conversion of a weight (R86): the count rounded half up, saturation above 65,535 with uncertainty not evaluated, and
uncertainty by the signed remainder; the tray's flags gather the indices. -/
def Obligations.CoinConversion : Prop :=
  (∀ w m : Nat, w ≤ 16777215 → 1 ≤ m → m ≤ 2000 →
    let n := (w + m / 2) / m
    (n * m ≤ w + m / 2 ∧ w + m / 2 < (n + 1) * m)
      ∧ (65535 < n → convertCoin w m = { count := 65535, saturated := true, uncertain := false })
      ∧ (n ≤ 65535 → (convertCoin w m).count = n ∧ (convertCoin w m).saturated = false
          ∧ ((convertCoin w m).uncertain = true ↔ (m : Int) < 4 * |(w : Int) - n * m|))
      ∧ convertCoin 0 m = { count := 0, saturated := false, uncertain := false })
    ∧ ∀ (mask : BitVec 16) (bs : List Byte) (s : State) (i : DenomIx),
        (mask.getLsbD i.1 = false → coinInUse s i = true →
          convertIndex mask bs s i = convertCoin (coinWeight bs i) ((look s.store.denoms i).unitMass.getD 1))
        ∧ (countedFlags mask bs s).uncertain.getLsbD i.1 = (convertIndex mask bs s i).uncertain
        ∧ ((countedFlags mask bs s).saturated = true ↔ ∃ j, (convertIndex mask bs s j).saturated = true)

/-- The class of a drawer (R102): the table, its edges, and that the class is recorded in the drawer result and becomes the
class of the session when it settles. -/
def Obligations.DrawerClasses : Prop :=
  (∀ w l : Int, 0 ≤ l →
    (w = 0 → classify w l = .balanced)
      ∧ (0 < |w| → |w| ≤ l → 0 < w → classify w l = .surplus)
      ∧ (0 < |w| → |w| ≤ l → w < 0 → classify w l = .short)
      ∧ (l < |w| → |w| ≤ 4 * l → classify w l = .outside)
      ∧ (4 * l < |w| → classify w l = .gross)
      ∧ (beyond (classify w l) = true ↔ l < |w|))
    ∧ (∀ w : Int, w ≠ 0 → classify w 0 = .gross)
    ∧ (∀ (i : TillIx) (s : State) (d : DrawerResult) (final : Nat), drawerOf s i = some d → (tillOf s i).final = some final →
        let r := tillOf s i
        let k := computeDrawer d.counted r.f final r.p (look s.recon.classes r.cls)
        k.cls = classify k.variance k.allowance ∧ drawerOf (runComputation i s) i = some { d with classed := some k })
    ∧ ∀ (i : TillIx) (k : Classification) (s : State), ((tillOf (settleTill i k s) i).last.map (·.cls)) = some k.cls

/-- The computation (R101, R103, R104): E, W and L from the count, the float, the final takings and the pouches; a drawer within
its allowance and without UNCERTAIN or SATURATED settles the session, enters the totals and its class's count, and raises
TILL_SETTLED; any other holds the till with the reasons of R103, raises TILL_HELD with the figures and leaves the totals. A
session that settles calls for an auto-post of each tray that holds its drawer, while the setting is ON (R118, as the attempt of
log 15). The report to the Day Unit follows in both. -/
def Obligations.DrawerComputation : Prop :=
  ∀ (i : TillIx) (s : State) (d : DrawerResult) (final : Nat), drawerOf s i = some d → (tillOf s i).final = some final →
    let r := tillOf s i
    let tol := look s.recon.classes r.cls
    let e : Int := r.f + final - r.p
    let w : Int := d.counted - e
    let l : Int := tol.a + (tol.p * final / 10000 : Nat)
    let doubtful := d.uncertain || d.saturated
    let t := runComputation i s
    (|w| ≤ l → doubtful = false →
      tillOf t i = { r with
        state := .idle, hold := HoldReasons.empty
        last := some { cls := classify w l, variance := w, allowance := l, time := s.day.clock } }
      ∧ t.store.totals = { s.store.totals with
          overTotal := s.store.totals.overTotal + max w 0, shortTotal := s.store.totals.shortTotal + max (-w) 0
          settled :=
            let n := s.store.totals.settled
            match classify w l with
            | .balanced => { n with balanced := n.balanced + 1 }
            | .surplus => { n with surplus := n.surplus + 1 }
            | .short => { n with short := n.short + 1 }
            | .outside => { n with outside := n.outside + 1 }
            | .gross => { n with gross := n.gross + 1 } }
      ∧ t.ports
          = (raise .tillSettled (.till i) [.u8 (position classNames (classify w l)), .signed w, .value l] s).ports
      ∧ ∀ y, look t.recon.attemptDue y = (look s.recon.attemptDue y
          || (s.recon.autoPost && decide ((trayOf s y).state = .counted ∧ (trayOf s y).source = some (.drawer i r.session)))))
    ∧ ((l < |w| ∨ doubtful = true) →
      tillOf t i = { r with
        state := .held
        hold := { undeclared := false, pendingPickups := false
                  outside := decide (l < |w| ∧ |w| ≤ 4 * l), gross := decide (l < |w| ∧ 4 * l < |w|)
                  uncertain := doubtful } }
      ∧ t.store.totals = s.store.totals ∧ t.recon.attemptDue = s.recon.attemptDue
      ∧ t.ports
          = (raise .tillHeld (.till i)
              [.u8 (bitSet [false, false, decide (l < |w| ∧ |w| ≤ 4 * l), decide (l < |w| ∧ 4 * l < |w|), doubtful]), .signed e,
               .signed w, .value l, .u8 (position classNames (classify w l))] s).ports)
    ∧ (∀ j, j ≠ i → tillOf t j = tillOf s j) ∧ (∀ c, holding t c = holding s c) ∧ t.event.reported = true

/-- Forward distance counts advances (R182): from any number, `k` advances of the sequence lie at distance `k`, across the wrap. -/
def Obligations.ForwardDistanceCountsAdvances : Prop :=
  ∀ a k : Nat, 1 ≤ a → a ≤ 4294967295 → k < 4294967295 →
    forward a (seqAfter^[k] a) = k ∧ 1 ≤ seqAfter^[k] a ∧ seqAfter^[k] a ≤ 4294967295

/-- Composition (R45 to R47): the validation of a profile; the first stage from the template; the second stage in descending order
of face over the ACTIVE indices of the mask, with what it takes at each against the shortfall that the indices before it have
left; and so the shortfall at the end, 0 exactly where the vector is worth the target. It takes no more than the stock at any
index, places ACTIVE entries alone, and takes coins by whole rolls. -/
def Obligations.CompositionIsExact : Prop :=
  (∀ (denoms : Vector DenomEntry 16) (stock : Counts) (mask : BitVec 16) (template : Option Counts) (target : Int),
    (∀ i : DenomIx, 0 ≤ look stock i) → (∀ q, template = some q → ∀ i : DenomIx, 0 ≤ look q i) →
    let made := compose denoms stock mask template target
    valueWith denoms made.1 + made.2 = target
      ∧ ∀ i : DenomIx, 0 ≤ look made.1 i ∧ look made.1 i ≤ look stock i
          ∧ (look made.1 i ≠ 0 → (look denoms i).status = .active)
          ∧ (∀ pack, (look denoms i).form = some .coin → (look denoms i).pack = some pack → (pack : Int) ∣ look made.1 i))
  ∧ (∀ (denoms : Vector DenomEntry 16) (stock : Counts) (mask : BitVec 16) (template : Option Counts) (target : Int),
    let made := compose denoms stock mask template target
    let pack (i : DenomIx) : Int := ((look denoms i).pack.getD 1 : Nat)
    let coin (i : DenomIx) := (look denoms i).form = some .coin
    let first : Counts := match template with
      | some q => Vector.ofFn fun i =>
        let n := min (look q i) (look stock i)
        if (look denoms i).status ≠ .active then 0 else if coin i then n - n % pack i else n
      | none => Counts.zero
    let order := issuable denoms mask
    order.Nodup ∧ (∀ i, i ∈ order ↔ (look denoms i).status = .active ∧ mask.getLsbD i.1 = true)
      ∧ order.Pairwise (fun i j => faceAt denoms j ≤ faceAt denoms i)
      ∧ (∀ i, i ∉ order → look made.1 i = look first i)
      ∧ ∀ (before : List DenomIx) (i : DenomIx) (later : List DenomIx), order = before ++ i :: later →
        let short := target - valueWith denoms first
          - (before.map fun j => (look made.1 j - look first j) * faceAt denoms j).sum
        let left := look stock i - look first i
        look made.1 i = look first i +
          (if short < faceAt denoms i then 0
           else if coin i then pack i * min (left / pack i) (short / (faceAt denoms i * pack i))
           else min left (short / faceAt denoms i)))
  ∧ ∀ (denoms : Vector DenomEntry 16) (p : Profile), profileOk denoms p = true ↔
      p.defined = true ∧ (∀ i, look p.template i ≠ 0 → (look denoms i).status ≠ .unused)
      ∧ valueWith denoms p.template = p.target
      ∧ ∀ i, (look denoms i).form = some .coin → look p.template i % ((look denoms i).pack.getD 1 : Nat) = 0

/-- The authorisation levels (R18, R19), on a table in which no two entries hold the same number. -/
def Obligations.AuthorisationLevels : Prop :=
  ∀ (s : State) (h : Req), OperatorsHold s →
    let senior (r : OpRole) : Bool := r = .supervisor || r = .manager
    let dual := h.op1 ≠ h.op2 ∧ (h.op1 ≠ 0 ∧ hasOperator s h.op1 senior) ∧ (h.op2 ≠ 0 ∧ hasOperator s h.op2 senior)
    authorise .zero h s = none
    ∧ ((h.op1 ≠ 0 ∧ hasOperator s h.op1 fun _ => true) → authorise .one h s = none)
    ∧ (¬ (h.op1 ≠ 0 ∧ hasOperator s h.op1 fun _ => true) → authorise .one h s = some .operatorRefused)
    ∧ ((h.op1 ≠ 0 ∧ hasOperator s h.op1 senior) → authorise .senior h s = none)
    ∧ (¬ (h.op1 ≠ 0 ∧ hasOperator s h.op1 senior) → authorise .senior h s = some .operatorRefused)
    ∧ (dual → authorise .dual h s = none) ∧ (¬ dual → authorise .dual h s = some .dualRequired)
    ∧ ((dual ∧ (hasOperator s h.op1 (· = .manager) ∨ hasOperator s h.op2 (· = .manager))) →
        authorise .dualManager h s = none)
    ∧ (¬ (dual ∧ (hasOperator s h.op1 (· = .manager) ∨ hasOperator s h.op2 (· = .manager))) →
        authorise .dualManager h s = some .dualRequired)

/-! ## Movements -/

/-- The movement checks (R9, R10, R123): a movement passes exactly when each of the eight checks finds nothing; else the first
of them, in their order, gives its code, where check 6 takes a refusal for either compartment before a parking reason for
either, the from-compartment first, and check 7 parks AUDIT; what the Safe Unit answers to check 6; the values, the cap loads
and the free entries compared (R3, R122, R183); and the movements of one event checked in order, each on the holdings that the
earlier ones would leave (R12). That check 7 reports the from-container where both carry a mark is the model's choice (log 37). -/
def Obligations.MovementPasses : Prop :=
  (∀ (need : Nat) (m : Movement) (s : State), checkMovement need m s = .pass ↔
    (s.retention.suspect = true → m.kind = .adjust)
    ∧ s.day.state ≠ .closed
    ∧ need ≤ freeEntries s
    ∧ (∀ c, m.src = some c → ∀ i : DenomIx, 0 ≤ look (heldAfter m s c) i)
    ∧ (∀ c, m.dst = some c → formOf m.kind = .signed → ∀ i : DenomIx, 0 ≤ look (heldAfter m s c) i)
    ∧ (∀ c, m.dst = some c → ∀ i : DenomIx, look (heldAfter m s c) i ≤ 65535)
    ∧ (∀ c ∈ m.named, access s m.postOf c = .accessible)
    ∧ (∀ c ∈ m.ends, (stepBits s c).mark = false)
    ∧ ∀ c : CompIx, capLoad (moveHoldings m s) c ≤ (compOf s c).cap ∨ capLoad (moveHoldings m s) c ≤ capLoad s c)
  ∧ (∀ (need : Nat) (m : Movement) (s : State),
    let answers (x : Check) := checkMovement need m s = x
    let damaged := s.retention.suspect = true ∧ m.kind ≠ .adjust
    let below := (∃ c, m.src = some c ∧ ∃ i : DenomIx, look (heldAfter m s c) i < 0)
      ∨ ∃ c, m.dst = some c ∧ formOf m.kind = .signed ∧ ∃ i : DenomIx, look (heldAfter m s c) i < 0
    let above := ∃ c, m.dst = some c ∧ ∃ i : DenomIx, 65535 < look (heldAfter m s c) i
    let refuses (c : CompIx) := ∃ k, access s m.postOf c = .refused k
    (damaged → answers (.refused .memorySuspect))
    ∧ (¬ damaged → s.day.state = .closed → answers (.refused .dayNotOpen))
    ∧ (¬ damaged → s.day.state ≠ .closed → freeEntries s < need → answers (.refused .journalFull))
    ∧ (¬ damaged → s.day.state ≠ .closed → need ≤ freeEntries s → below → answers (.refused .badOperand))
    ∧ (¬ damaged → s.day.state ≠ .closed → need ≤ freeEntries s → ¬ below → above → answers (.refused .countRange))
    ∧ (¬ damaged → s.day.state ≠ .closed → need ≤ freeEntries s → ¬ below → ¬ above →
      (∀ (before : List CompIx) (c : CompIx) (later : List CompIx) (k : Code), m.named = before ++ c :: later →
        access s m.postOf c = .refused k → (∀ d ∈ before, ¬ refuses d) → answers (.refused k))
      ∧ ((∀ d ∈ m.named, ¬ refuses d) →
        (∀ (before : List CompIx) (c : CompIx) (later : List CompIx) (r : AccessReason), m.named = before ++ c :: later →
          access s m.postOf c = .parked r → (∀ d ∈ before, access s m.postOf d = .accessible) →
          answers (.parked r (.comp c)))
        ∧ ((∀ d ∈ m.named, access s m.postOf d = .accessible) →
          (∀ (before : List Container) (c : Container) (later : List Container), m.ends = before ++ c :: later →
            (stepBits s c).mark = true → (∀ d ∈ before, (stepBits s d).mark = false) → answers (.parked .audit c))
          ∧ ((∀ d ∈ m.ends, (stepBits s d).mark = false) →
            (∃ c : CompIx, (compOf s c).cap < capLoad (moveHoldings m s) c ∧ capLoad s c < capLoad (moveHoldings m s) c) →
            answers (.refused .overCap))))))
  ∧ (∀ (m : Movement) (t : TrayIx), m.postOf = some t ↔ m.kind = .post ∧ m.src = some (.tray t))
  ∧ (∀ (s : State) (c : CompIx) (v : Counts),
    freeEntries s = 512 - (s.store.journal.entries.length + s.store.journal.held)
    ∧ valueOf s v = ((List.finRange 16).map fun i => look v i * (((look s.store.denoms i).face.getD 0 : Nat) : Int)).sum
    ∧ capLoad s c = valueOf s (holding s (.comp c))
        + (((List.finRange 32).filter fun b => (bagOf s b).location == some c).map fun b => valueOf s (holding s (.bag b))).sum)
  ∧ (∀ (m : Movement) (s : State),
    let t := moveHoldings m s
    (∀ c, holding t c = heldAfter m s c)
    ∧ t = { s with store := { s.store with
        tillHold := t.store.tillHold, compHold := t.store.compHold, trayHold := t.store.trayHold, bagHold := t.store.bagHold } })
  ∧ (∀ (need : Nat) (m : Movement) (ms : List Movement) (s : State),
    checkEvent need [] s = .pass
    ∧ (checkMovement need m s = .pass → checkEvent need (m :: ms) s = checkEvent need ms (moveHoldings m s))
    ∧ (checkMovement need m s ≠ .pass → checkEvent need (m :: ms) s = checkMovement need m s))
  ∧ ∀ (s : State) (postOf : Option TrayIx) (c : CompIx),
    let r := compOf s c
    let inside := s.safe.range.low ≤ c.1 ∧ c.1 ≤ s.safe.range.high
    let is (x : Access) := access s postOf c = x
    (¬ inside → s.safe.frozen = false → is (.refused .locked))
    ∧ (¬ inside → s.safe.frozen = true → is (.refused .frozen))
    ∧ (inside → r.alarm = .forced → is (.refused .alarmed))
    ∧ (inside → r.alarm ≠ .forced → s.courier.session ≠ none → is (.parked .session))
    ∧ (inside → r.alarm ≠ .forced → s.courier.session = none → ∀ t, r.outForCount = some t →
        (postOf ≠ some t → is (.parked .countOut)) ∧ (postOf = some t → is .accessible))
    ∧ (inside → r.alarm ≠ .forced → s.courier.session = none → r.outForCount = none → is .accessible)

/-- What an applied movement does (R11, R13, R22, R52, R137): the holdings of its containers, one journal entry under the next
sequence number, the Day Position by its kind, a step-pending mark and an AUDIT_STEP notice where the flag is on, the latches of
the compartments it names, and one re-try more owed to the float waiters where it raises the reserve's holding; nothing else
changes. The entry's fields, each one (R11, R180, R181): AUDIT where a mark is set (R22). And what one event of the Custody
Store does (R11, R12, R184): its movements applied in order, an entry held where the event asks for one, and the journal's marks
compared once with the occupancy the event found. AUDIT_STEP raised for the from-container first, and before the JOURNAL_HIGH
and JOURNAL_FULL of its event, is the model's choice (log 37), and so are re-tries held as a number owed (log 16). -/
def Obligations.MovementApplied : Prop :=
  (∀ (ms : List Movement) (s : State),
    let applied := ms.foldl (fun acc m => applyMove m acc) s
    let journal := applied.store.journal
    storeEvent ms false s = journalMarks (occupancy s) applied
    ∧ storeEvent ms true s = journalMarks (occupancy s)
        { applied with store := { applied.store with journal := { journal with held := journal.held + 1 } } })
  ∧ (∀ k : MoveKind, formOf k = match k with
    | .countResult => .replacement
    | .adjust => .signed
    | .issue | .topup | .countOut | .post | .transfer | .bagFill | .handoverOut | .receiveIn => .transfer)
  ∧ ∀ (m : Movement) (s : State),
    let t := applyMove m s
    let subject : Container → Subject := fun
      | .till i => .till i
      | .comp i => .comp i
      | .tray i => .tray i
      | .bag i => .bag i
    (∀ c, holding t c = heldAfter m s c)
    ∧ (∀ c, m.src ≠ some c → m.dst ≠ some c → heldAfter m s c = holding s c)
    ∧ (∀ a b, a ≠ b → formOf m.kind = .transfer → m.src = some a → m.dst = some b → ∀ i : DenomIx,
        look (heldAfter m s a) i = look (holding s a) i - look m.vec i
          ∧ look (heldAfter m s b) i = look (holding s b) i + look m.vec i)
    ∧ (∀ a, formOf m.kind = .transfer → m.src = some a → m.dst = none → ∀ i : DenomIx,
        look (heldAfter m s a) i = look (holding s a) i - look m.vec i)
    ∧ (∀ b, formOf m.kind ≠ .replacement → m.src = none → m.dst = some b → ∀ i : DenomIx,
        look (heldAfter m s b) i = look (holding s b) i + look m.vec i)
    ∧ (∀ b, formOf m.kind = .replacement → m.dst = some b → heldAfter m s b = m.vec)
    ∧ entryOf m s =
        { seq := s.store.journal.nextSeq, day := s.day.number, time := s.day.clock, kind := m.kind, src := m.src, dst := m.dst
          value := valueOf s m.vec
          items := ((List.finRange 16).filter fun i => look m.vec i ≠ 0).map fun i => (i, look m.vec i)
          port := m.port, ops := m.ops, flags := m.flags
          audit := decide (∃ c, c ∈ m.ends ∧ (stepBits s c).flag = true) }
    ∧ t.store.journal = { s.store.journal with
        entries := s.store.journal.entries ++ [entryOf m s], nextSeq := seqAfter s.store.journal.nextSeq
        held := if m.held then s.store.journal.held - 1 else s.store.journal.held }
    ∧ t.store.base = s.store.base
    ∧ (m.kind = .adjust → t.store.inflow = s.store.inflow.add m.vec ∧ t.store.outflow = s.store.outflow)
    ∧ (m.kind = .handoverOut → t.store.outflow = s.store.outflow.add m.vec ∧ t.store.inflow = s.store.inflow)
    ∧ (m.kind = .countResult → ∀ c, m.dst = some c →
        t.store.inflow = s.store.inflow.add (m.vec.sub (holding s c)) ∧ t.store.outflow = s.store.outflow)
    ∧ (m.kind ≠ .adjust → m.kind ≠ .handoverOut → m.kind ≠ .countResult →
        t.store.inflow = s.store.inflow ∧ t.store.outflow = s.store.outflow)
    ∧ (∀ c, stepBits t c = if c ∈ m.ends ∧ (stepBits s c).flag = true then { flag := true, mark := true } else stepBits s c)
    ∧ (∀ c, compOf t c =
        if c ∈ m.named ∧ (compOf s c).hold = false then
          { compOf s c with
            latch := .released
            latchTimer := if (compOf s c).door = .closed then some 0 else (compOf s c).latchTimer }
        else compOf s c)
    ∧ t.safe = { s.safe with comps := t.safe.comps }
    ∧ t.float = { s.float with retryDue := s.float.retryDue
        + (if ∃ c, reserve s = some c ∧ ∃ i : DenomIx, look (holding s (.comp c)) i < look (heldAfter m s (.comp c)) i then 1
           else 0) }
    ∧ t.ports = ((m.ends.filter fun c => (stepBits s c).flag).foldl
        (fun acc c => raise .auditStep (subject c) [.u32 s.store.journal.nextSeq] acc) s).ports
    ∧ t.stamp = s.stamp ∧ t.event = s.event ∧ t.pending = s.pending
    ∧ t.store.totals = s.store.totals ∧ t.store.denoms = s.store.denoms ∧ t.store.operators = s.store.operators
    ∧ t.day = s.day ∧ t.float.tills = s.float.tills ∧ t.float.waiters = s.float.waiters ∧ t.count = s.count
    ∧ t.recon = s.recon ∧ t.courier = s.courier ∧ t.retention = s.retention

/-! ## The close of a day -/

/-- The completion check (R28, R29): while the day is CLOSING and every condition holds the close completes, with the day CLOSED,
the plan STOPPED, every window CLOSED with an empty list, every STAGED bag back to CLOSED, the range empty, the freeze cleared and
DAY_STATE raised; otherwise nothing changes. And the end of every event: the passes it has called for are made in the order of the
calls, a pass may call for more (R84, R130), then the completion check where an owner has reported (R28), then the idle lines
start their next frames (R195). That the passes come before the check is the model's choice (log 9), and so are the ends of the
empty range, 1 and 0 (log 7). -/
def Obligations.CloseCompletes : Prop :=
  (∀ s : State,
    (s.event.signals = [] → finish s = startFrames
      { (if s.event.reported = true then completionCheck s else s) with event := { signals := [], reported := false } })
    ∧ (∀ (g : Signal) (later : List Signal), s.event.signals = g :: later →
      finish s = finish (runSignal g { s with event := { s.event with signals := later } }))
    ∧ runSignal .countPass s = countPass s)
  ∧ ∀ s : State,
    let conditions :=
      (∀ i, (tillOf s i).state = .idle ∨ (tillOf s i).state = .suspended)
      ∧ (∀ i, ∀ p ∈ (tillOf s i).pouches, p.state ≠ .received ∧ p.state ≠ .counting)
      ∧ (∀ b, (bagOf s b).dir = some .inbound → (bagOf s b).state ≠ .received ∧ (bagOf s b).state ≠ .counting)
      ∧ (∀ t, (trayOf s t).state = .empty) ∧ s.courier.session = none
    let t := completionCheck s
    (s.day.state ≠ .closing ∨ ¬ conditions → t = s)
    ∧ (s.day.state = .closing → conditions →
        t.day = { s.day with state := .closed, planState := .stopped }
        ∧ (∀ w, windowOf t w = { windowOf s w with state := .closed, staged := [], unstagePending := false })
        ∧ (∀ b, bagOf t b = if (bagOf s b).state = .staged then { bagOf s b with state := .closed, window := none } else bagOf s b)
        ∧ t.safe = { s.safe with range := SafeRange.empty, frozen := false }
        ∧ t.store = s.store ∧ t.float = s.float ∧ t.count = s.count ∧ t.recon = s.recon ∧ t.retention = s.retention
        ∧ t.courier.session = none ∧ t.courier.idleLimit = s.courier.idleLimit
        ∧ t.courier.idleInForce = s.courier.idleInForce ∧ t.event = s.event ∧ t.stamp = s.stamp
        ∧ t.ports = (raise .dayState .day [.u8 0, .u16 s.day.number] s).ports)

/-! ## Configuration -/

/-- SET DENOMINATION taken (R2): the entry is replaced whole and nothing else changes. -/
def Obligations.SetDenominationReplaces : Prop :=
  ∀ (s : State) (h : Req) (i : DenomIx) (st : DenomStatus) (face : Nat) (form : Coded Form) (pack mass : Nat)
    (e : DenomEntry), officeReady s h = true → s.day.state = .closed →
    ((st = .unused ∧ e = { status := .unused, face := none, form := none, pack := none, unitMass := none })
      ∨ (st ≠ .unused ∧ 1 ≤ face ∧ face ≤ 50000 ∧ 1 ≤ pack ∧ pack ≤ 1000
        ∧ ((form = .ok .note
              ∧ e = { status := st, face := some face, form := some .note, pack := some pack, unitMass := none })
          ∨ (form = .ok .coin ∧ 1 ≤ mass ∧ mass ≤ 2000
              ∧ e = { status := st, face := some face, form := some .coin, pack := some pack, unitMass := some mass })))) →
    (∀ j, j ≠ i → (look s.store.denoms j).status ≠ .unused → e.face = none ∨ (look s.store.denoms j).face ≠ e.face) →
    ((∀ c, look (holding s c) i = 0)
      ∨ (st ≠ .unused ∧ (look s.store.denoms i).face = e.face ∧ (look s.store.denoms i).form = e.form
          ∧ (look s.store.denoms i).pack = e.pack ∧ (look s.store.denoms i).unitMass = e.unitMass)) →
    exec (.setDenomination h i.1 (.ok st) face form pack mass) s
      = .next (settled h .ok []
          { accepted h 0x01 s with store := { s.store with denoms := put s.store.denoms i e } })

/-- SET OPERATOR taken (R17): a number in the table has its entry replaced or emptied, a new number takes an empty entry (the
one of lowest index, the model's choice, log 8), and REMOVE of a number not in the table changes nothing. -/
def Obligations.SetOperatorWrites : Prop :=
  ∀ (s : State) (h : Req) (number : Nat) (st : Standing), officeReady s h = true → 1 ≤ number → number ≤ 9999 →
    (∀ (i : Fin 32) (e : OperatorEntry) (role : OpRole), OperatorsHold s → look s.store.operators i = some e →
        e.number = number →
      exec (.setOperator h number (.ok (.role role)) (.ok st)) s
        = .next (settled h .ok [] { accepted h 0x02 s with
            store := { s.store with
              operators := put s.store.operators i (some { number, role, standing := st }) } })
      ∧ exec (.setOperator h number (.ok .remove) (.ok st)) s
        = .next (settled h .ok [] { accepted h 0x02 s with
            store := { s.store with operators := put s.store.operators i none } }))
    ∧ ((∀ i e, look s.store.operators i = some e → e.number ≠ number) →
      (∀ (i : Fin 32) (role : OpRole), look s.store.operators i = none →
          (∀ j : Fin 32, j < i → look s.store.operators j ≠ none) →
        exec (.setOperator h number (.ok (.role role)) (.ok st)) s
          = .next (settled h .ok [] { accepted h 0x02 s with
              store := { s.store with
                operators := put s.store.operators i (some { number, role, standing := st }) } }))
      ∧ exec (.setOperator h number (.ok .remove) (.ok st)) s = .next (settled h .ok [] (accepted h 0x02 s))
      ∧ (∀ role : OpRole, (∀ i, look s.store.operators i ≠ none) →
        exec (.setOperator h number (.ok (.role role)) (.ok st)) s
          = .next (settled h .operatorLimit [] (accepted h 0x02 s))))

/-- SET FLOAT PROFILE taken (R44): EMPTY, or DEFINED with a template worth the target, placed at ACTIVE indices of the mask, its
coins in whole rolls. -/
def Obligations.SetFloatProfileStores : Prop :=
  ∀ (s : State) (h : Req) (p : ProfileIx), officeReady s h = true →
    exec (.setFloatProfile h p.1 (.ok none)) s
        = .next (settled h .ok [] { accepted h 0x03 s with
            float := { s.float with profiles := put s.float.profiles p Profile.empty } })
    ∧ ∀ (target : Nat) (v : Counts) (mask : BitVec 16), 1 ≤ target → target ≤ 999999999 →
        (∀ i : DenomIx, 0 ≤ look v i ∧ look v i ≤ 65535) → valueOf s v = target →
        (∀ i : DenomIx, look v i ≠ 0 → (look s.store.denoms i).status = .active ∧ mask.getLsbD i.1 = true) →
        (∀ (i : DenomIx) (pack : Nat), (look s.store.denoms i).form = some .coin →
          (look s.store.denoms i).pack.getD 1 = pack → look v i % (pack : Int) = 0) →
        exec (.setFloatProfile h p.1 (.ok (some { target, template := .ok v, mask }))) s
          = .next (settled h .ok [] { accepted h 0x03 s with
              float := { s.float with
                profiles := put s.float.profiles p { defined := true, target, template := v, mask } } })

/-- SET TILL, SET TOLERANCE CLASS and SET LIMIT taken (R67, R112, R53 and the rules of each limit): each replaces its own
setting; a changed pickup limit is followed by an evaluation (R57), and AUTO_POST OFF clears the pending marks and, by the
model's choice, every attempt owed. The dropping of owed attempts is the model's choice (log 15). -/
def Obligations.SettingsReplaced : Prop :=
  ∀ (s : State) (h : Req), officeReady s h = true →
    (∀ (i : TillIx) (limit : Nat) (k : ClassIx), limit ≤ 999999999 →
      let t := modTill i (fun r => { r with limit, cls := k }) (accepted h 0x04 s)
      exec (.setTill h i.1 limit k.1) s
        = .next (settled h .ok [] (if (tillOf s i).limit = limit then t else evaluate i t)))
    ∧ (∀ (k : ClassIx) (a p : Nat), a ≤ 100000 → p ≤ 500 →
      exec (.setToleranceClass h k.1 a p) s
        = .next (settled h .ok [] { accepted h 0x05 s with
            recon := { s.recon with classes := put s.recon.classes k { a, p } } }))
    ∧ ∀ v : Nat,
      let done (x : State) := settled h .ok [] x
      let a := accepted h 0x06 s
      (1 ≤ v → v ≤ 3600 →
        exec (.setLimit h (.ok .floatWait) v) s = .next (done { a with float := { s.float with waitLimit := v } })
        ∧ exec (.setLimit h (.ok .accessWait) v) s = .next (done { a with safe := { s.safe with waitLimit := v } })
        ∧ exec (.setLimit h (.ok .counterWait) v) s = .next (done { a with count := { s.count with waitLimit := v } })
        ∧ exec (.setLimit h (.ok .destinationWait) v) s = .next (done { a with recon := { s.recon with destLimit := v } }))
      ∧ (5 ≤ v → v ≤ 600 →
        exec (.setLimit h (.ok .counterStep) v) s = .next (done { a with count := { s.count with stepLimit := v } }))
      ∧ (10 ≤ v → v ≤ 600 →
        exec (.setLimit h (.ok .doorHeld) v) s = .next (done { a with safe := { s.safe with heldLimit := v } }))
      ∧ (30 ≤ v → v ≤ 1800 →
        exec (.setLimit h (.ok .handoverIdle) v) s
          = .next (done { a with courier := { s.courier with idleLimit := v } }))
      ∧ exec (.setLimit h (.ok .autoPost) 1) s = .next (done { a with recon := { s.recon with autoPost := true } })
      ∧ exec (.setLimit h (.ok .autoPost) 0) s
          = .next (done { a with recon := { s.recon with
              autoPost := false, pending := Vector.replicate 2 false, reported := Vector.replicate 2 false
              attemptDue := Vector.replicate 2 false } })

/-- SET COMPARTMENT and SET CAP taken (R121, R122): the role and the link, or the cap, and nothing else. -/
def Obligations.CompartmentConfigured : Prop :=
  ∀ (s : State) (h : Req) (c : CompIx), officeReady s h = true →
    (∀ (r : CompRole) (link : Option CompIx), s.day.state = .closed → link ≠ some c →
        ((r = .floatReserve ∨ r = .changeFund) → ∀ d, d ≠ c → (compOf s d).role ≠ r) →
        ((compOf s c).role = .outbound → r = .outbound
          ∨ ((∀ b, (bagOf s b).state = .free ∨ (bagOf s b).location ≠ some c) ∧ ∀ w, (windowOf s w).comp ≠ some c)) →
      exec (.setCompartment h c.1 (.ok r) (.ok (link.map (·.1)))) s
        = .next (settled h .ok [] (modComp c (fun x => { x with role := r, link }) (accepted h 0x07 s))))
    ∧ (∀ cap : Nat, cap ≤ 999999999 → capLoad s c ≤ cap →
      exec (.setCap h c.1 cap) s = .next (settled h .ok [] (modComp c (fun x => { x with cap }) (accepted h 0x08 s))))
    ∧ (∀ cap : Nat, cap ≤ 999999999 → (cap : Int) < capLoad s c →
      exec (.setCap h c.1 cap) s = .next (settled h .overCap [] (accepted h 0x08 s)))

/-- SET WINDOW, OPEN WINDOW and CLOSE WINDOW taken (R154, R155, R156): the badge and compartment; the opening, with WINDOW_OPEN
unless it stood open; the closing, with WINDOW_CLOSED, the list unstaged at once or, under a session for the window, marked for
its end; and the unstaging: every bag of the list back to CLOSED with no window and its tag kept, the list empty, the mark taken
off. The number of bags in WINDOW_OPEN and WINDOW_CLOSED is one byte by the model's choice (log 35). -/
def Obligations.WindowRequests : Prop :=
  (∀ (s : State) (h : Req) (w : WindowIx), officeReady s h = true →
    let r := windowOf s w
    (∀ (badge : Option Nat) (comp : Option CompIx), (∀ n, badge = some n → 1 ≤ n ∧ n ≤ 99999999) →
        (r.state = .planned ∨ r.state = .closed) → sessionAt s w = false →
        (∀ c, comp = some c → (compOf s c).role = .outbound) → (comp = r.comp ∨ r.staged = []) →
      exec (.setWindow h w.1 (.ok badge) (.ok (comp.map (·.1)))) s
        = .next (settled h .ok [] (modWindow w (fun x => { x with badge, comp }) (accepted h 0x09 s))))
    ∧ (s.day.state ≠ .closed → r.badge ≠ none → r.comp ≠ none →
      (r.state = .opened →
        exec (.openWindow h w.1) s = .next (settled h .ok [.u8 1] (accepted h 0x57 s)))
      ∧ (r.state ≠ .opened →
        exec (.openWindow h w.1) s
          = .next (settled h .ok [.u8 1]
              (modWindow w (fun x => { x with state := .opened, unstagePending := false })
                (raise .windowOpen (.window w) [.u32 s.day.clock, .u8 r.staged.length] (accepted h 0x57 s))))))
    ∧ ((r.state = .planned ∨ r.state = .opened) →
      let closed := modWindow w (fun x => { x with state := .closed })
        (raise .windowClosed (.window w) [.u32 s.day.clock, .u8 r.staged.length] (accepted h 0x58 s))
      (sessionAt s w = false → exec (.closeWindow h w.1) s = .next (settled h .ok [.u8 2] (unstage w closed)))
      ∧ (sessionAt s w = true →
        exec (.closeWindow h w.1) s
          = .next (settled h .ok [.u8 2] (modWindow w (fun x => { x with unstagePending := true }) closed))))
    ∧ (r.state = .closed → exec (.closeWindow h w.1) s = .next (settled h .ok [.u8 2] (accepted h 0x58 s)))
    ∧ (r.state = .missed → exec (.closeWindow h w.1) s = .next (settled h .ok [.u8 3] (accepted h 0x58 s))))
  ∧ ∀ (s : State) (w : WindowIx),
    let t := unstage w s
    (∀ b, bagOf t b =
        if b ∈ (windowOf s w).staged then { bagOf s b with state := .closed, window := none } else bagOf s b)
    ∧ (∀ v, windowOf t v =
        if v = w then { windowOf s w with staged := [], unstagePending := false } else windowOf s v)
    ∧ t = { s with courier := { s.courier with bags := t.courier.bags, windows := t.courier.windows } }

/-- SET AUDIT STEP, RELEASE STEP and SET ROUTING taken (R21, R23, R197): the flag alone; the mark alone, then the answer, the
one pass over the waiters of the container and the report to a pending post; the routing entry, with the Office Port kept for
the kinds that it always receives. The pass takes the float and the access waiters parked AUDIT for the container together, in
the order in which they entered their lists. A report that compartments are accessible owes an attempt to each COUNTED tray
whose pending auto-post is for one of them, and, where the report goes to it, a re-try to the float waiters. The order of answer
and pass, the owed re-try and the owed attempt are the model's (logs 9, 15, 16), and so is the priority in one byte (log 35). -/
def Obligations.StepsAndRouting : Prop :=
  (∀ (s : State) (h : Req), officeReady s h = true →
    (∀ (c : Container) (on : Bool), (∃ i, c = .till i) ∨ (∃ i, c = .comp i) →
      exec (.setAuditStep h (.ok c) (.ok on)) s
          = .next (settled h .ok [] (setStepBits c { flag := on, mark := (stepBits s c).mark } (accepted h 0x0A s)))
      ∧ ((stepBits s c).mark = false →
        exec (.releaseStep h (.ok c)) s = .next (settled h .ok [] (accepted h 0x0B s)))
      ∧ ((stepBits s c).mark = true →
        exec (.releaseStep h (.ok c)) s
          = .next (finish (parkingEnded (isComp c) false (stepPass c (answer h.port h.tag .ok 0 []
              (setStepBits c { flag := (stepBits s c).flag, mark := false } (accepted h 0x0B s))))))))
    ∧ ∀ (k : NoticeKind) (ps : PortSet) (priority : Nat), priority ≤ 3 →
        let office := ps.office || k == .doorForced || k == .powerReturn || k == .memorySuspect
        let r : Route := { ports := { ps with office }, priority }
        exec (.setRouting h (.ok k) (.ok ps) priority) s
          = .next (settled h .ok [.u8 (bitSet [office, ps.till, ps.courier]), .u8 priority]
              { accepted h 0x0C s with
                ports := { (accepted h 0x0C s).ports with routing := put s.ports.routing (kindIx k) r } }))
  ∧ (∀ (s : State) (c : Container), ∃ order : List (FloatWaiter ⊕ AccessWaiter),
    order.Perm ((s.float.waiters.filter fun w => w.park == .access .audit c).map .inl
        ++ (s.safe.waiters.filter fun w => w.reason == .audit && w.container == c).map .inr)
    ∧ order.Pairwise (fun v w => Sum.elim (·.stamp) (·.stamp) v ≤ Sum.elim (·.stamp) (·.stamp) w)
    ∧ stepPass c s = order.foldl (fun acc v => Sum.elim (fun w => retryFloat acc w) (fun w => retryAccess acc w) v) s)
  ∧ ∀ (among : CompIx → Bool) (toFloat : Bool) (s : State),
    let t := parkingEnded among toFloat s
    (∀ y, look t.recon.reported y = true ↔ look s.recon.reported y = true
      ∨ (look s.recon.pending y = true ∧ (trayOf s y).state = .counted ∧ ∃ c, destinationOf s y = some c ∧ among c = true))
    ∧ t = { s with
        recon := { s.recon with reported := t.recon.reported }
        float := { s.float with retryDue := s.float.retryDue
          + (if toFloat = true ∧ ∃ c, reserve s = some c ∧ among c = true then 1 else 0) } }

/-- RESTORE MEMORY (R211): dual control with a MANAGER first, then BAD_STATE where the flag is clear, else the flag is cleared and
nothing besides. -/
def Obligations.RestoreMemoryClearsTheFlag : Prop :=
  ∀ (s : State) (h : Req), officeReady s h = true →
    (authorise .dualManager h s ≠ none →
      exec (.restoreMemory h) s = .next (settled h .dualRequired [] (accepted h 0x0D s)))
    ∧ (authorise .dualManager h s = none → s.retention.suspect = false →
      exec (.restoreMemory h) s = .next (settled h .badState [] (accepted h 0x0D s)))
    ∧ (authorise .dualManager h s = none → s.retention.suspect = true →
      exec (.restoreMemory h) s
        = .next (settled h .ok [] { accepted h 0x0D s with retention := { s.retention with suspect := false } }))

/-! ## The business day and the plan -/

/-- OPEN DAY taken (R25, R26, R158): the day number and state, the base from the present sums, the flows and totals cleared, FREE
and HANDED bags FREE and empty, STAGED bags CLOSED, every window's list empty and every window PLANNED, the plan RUNNING from its
first entry; then catch-up (R38, written out with the plan's requests), DAY_STATE with OPEN and the day number, and the answer
with the day number. Beside that equation stands what catch-up leaves as it was, and the day with no entry due. -/
def Obligations.OpenDayOpens : Prop :=
  ∀ (s : State) (h : Req), officeReady s h = true → s.day.state = .closed →
    (∃ i, (look s.store.denoms i).status = .active) → (∃ c, (compOf s c).role = .floatReserve) →
    (∃ c, (compOf s c).role = .takings) → (∃ c, (compOf s c).role = .changeFund) →
    let a := accepted h 0x10 s
    let n := (s.day.number + 1) % 65536
    let gone (b : BagIx) := (bagOf s b).state = .handed ∨ (bagOf s b).state = .free
    let opened : State := { a with
      day := { s.day with state := .opened, number := n, clockLimit := false, planState := .running, pointer := 0 }
      store := { s.store with
        base := Vector.ofFn fun i => officeSum s i, inflow := Counts.zero, outflow := Counts.zero, totals := DayTotals.zero
        bagHold := Vector.ofFn fun b => if gone b then Counts.zero else look s.store.bagHold b }
      courier := { s.courier with
        bags := Vector.ofFn fun b =>
          if gone b then BagRec.free
          else if (bagOf s b).state = .staged then { bagOf s b with state := .closed, window := none } else bagOf s b
        windows := Vector.ofFn fun w => { windowOf s w with state := .planned, staged := [], unstagePending := false } } }
    exec (.openDay h) s = .next (settled h .ok [.u16 n] (raise .dayState .day [.u8 1, .u16 n] (catchUp opened)))
    ∧ ∃ t, exec (.openDay h) s = .next t
      ∧ t.day.state = .opened ∧ t.day.number = n ∧ t.day.clock = s.day.clock
      ∧ t.day.clockLimit = false ∧ t.day.plan = s.day.plan ∧ t.store = opened.store ∧ (∀ b, bagOf t b = bagOf opened b)
      ∧ (∀ w, (windowOf t w).staged = [] ∧ (windowOf t w).badge = (windowOf s w).badge
          ∧ (windowOf t w).comp = (windowOf s w).comp)
      ∧ t.courier.session = s.courier.session ∧ t.float = s.float ∧ t.count = s.count ∧ t.recon = s.recon
      ∧ t.safe.comps = s.safe.comps ∧ t.safe.waiters = s.safe.waiters ∧ t.retention = s.retention
      ∧ (s.day.clock < (look s.day.plan 0).time →
          t.day.planState = .running ∧ t.day.pointer = 0 ∧ t.safe = s.safe ∧ ∀ w, (windowOf t w).state = .planned)

/-- CLOSE DAY and REOPEN taken (R27, R30): CLOSING with DAY_STATE, every float waiter answered DAY_CLOSING in list order, then
the answer, then the completion check; and the day OPEN again. Waiters dismissed with a code leave the list and are each answered
with it, in list order. -/
def Obligations.CloseDayAndReopen : Prop :=
  (∀ (s : State) (h : Req), officeReady s h = true →
    (s.day.state = .opened →
      exec (.closeDay h) s
        = .next (finish (completionCheck (answer h.port h.tag .ok 0 []
            (dismissFloats (fun _ => true) .dayClosing
              (raise .dayState .day [.u8 2, .u16 s.day.number]
                { accepted h 0x11 s with day := { s.day with state := .closing } }))))))
    ∧ (s.day.state ≠ .opened → exec (.closeDay h) s = .next (settled h .badState [] (accepted h 0x11 s)))
    ∧ (s.day.state = .closing →
      exec (.reopen h) s
        = .next (settled h .ok [] (raise .dayState .day [.u8 1, .u16 s.day.number]
            { accepted h 0x12 s with day := { s.day with state := .opened } })))
    ∧ (s.day.state ≠ .closing → exec (.reopen h) s = .next (settled h .badState [] (accepted h 0x12 s))))
  ∧ ∀ (sel : FloatWaiter → Bool) (k : Code) (s : State),
    let t := dismissFloats sel k s
    t = { s with float := { s.float with waiters := s.float.waiters.filter fun w => !sel w }, ports := t.ports }
    ∧ AnswersEach ((s.float.waiters.filter sel).map fun w => (w.port, w.tag)) k s t

/-- SET CLOCK (R32): while the day is CLOSED any time of the day, else at most 300 seconds either way, never past 86,399; a step
forward is followed by catch-up. -/
def Obligations.SetClockSteps : Prop :=
  ∀ (s : State) (h : Req) (time : Nat), officeReady s h = true →
    let t := if s.day.state = .closed then min time 86399
      else if time < s.day.clock - 300 then min (s.day.clock - 300) 86399
      else if s.day.clock + 300 < time then min (s.day.clock + 300) 86399
      else min time 86399
    let moved := { accepted h 0x13 s with day := { s.day with clock := t } }
    exec (.setClock h time) s = .next (settled h .ok [.u32 t] (if s.day.clock < t then catchUp moved else moved))

/-- LOAD PLAN ENTRY, HOLD PLAN and RESUME PLAN taken (R34, R35, R39): the entry written where it is not behind the pointer of a
running or held plan and the live part stays in order of time, else PLAN_BUSY or PLAN_ORDER; the plan HELD; the plan RUNNING with
catch-up. Catch-up executes the due entries in index order, save that an opening whose closing stands later in the set is missed:
the pointer passes it, the window is MISSED with WINDOW_MISSED, and its list is unstaged at once or at the end of the session for
it (R38, R157). The number of bags in WINDOW_MISSED is one byte by the model's choice (log 35). -/
def Obligations.PlanRequests : Prop :=
  (∀ (s : State) (h : Req), officeReady s h = true →
    (∀ (i : PlanIx) (time : Nat) (arg : PlanArg) (a : PlanAction), planArg (.ok arg) = some a → time ≤ 86399 →
        (i.1 < s.day.pointer → s.day.planState ≠ .running ∧ s.day.planState ≠ .held) →
        let plan := put s.day.plan i { time, action := a }
        (planOrdered plan = true →
          exec (.loadPlanEntry h i.1 time (.ok arg)) s
            = .next (settled h .ok [] { accepted h 0x14 s with day := { s.day with plan } }))
        ∧ (planOrdered plan = false →
          exec (.loadPlanEntry h i.1 time (.ok arg)) s = .next (settled h .planOrder [] (accepted h 0x14 s))))
    ∧ (∀ (i : PlanIx) (time : Nat) (arg : PlanArg) (a : PlanAction), planArg (.ok arg) = some a → time ≤ 86399 →
        i.1 < s.day.pointer → s.day.planState = .running ∨ s.day.planState = .held →
        exec (.loadPlanEntry h i.1 time (.ok arg)) s = .next (settled h .planBusy [] (accepted h 0x14 s)))
    ∧ (s.day.planState = .running →
      exec (.holdPlan h) s = .next (settled h .ok [] { accepted h 0x15 s with day := { s.day with planState := .held } }))
    ∧ (s.day.planState = .held →
      exec (.resumePlan h) s
        = .next (settled h .ok [] (catchUp { accepted h 0x16 s with day := { s.day with planState := .running } }))))
  ∧ (∀ s : State,
    (s.day.state = .closed ∨ s.day.planState ≠ .running → catchUp s = s)
    ∧ (s.day.state ≠ .closed → s.day.planState = .running →
      catchUp s = (dueSet s).foldl
        (fun acc i => match (look s.day.plan i).action with
          | .windowOpen w =>
            if ∃ j ∈ dueSet s, i < j ∧ (look s.day.plan j).action = .windowClose w then missWindow w (passEntry i acc)
            else executeEntry i acc
          | .windowClose _ | .openRange _ _ | .lockAll | .freeze | .pickupRound | .stop => executeEntry i acc) s))
  ∧ (∀ (s : State) (i : PlanIx),
    passEntry i s = { s with day := { s.day with
      pointer := i.1 + 1
      planState := if (look s.day.plan i).action = .stop ∨ i.1 = 63 then .ended else s.day.planState } })
  ∧ ∀ (s : State) (w : WindowIx),
    let missed := modWindow w (fun r => { r with state := .missed })
      (raise .windowMissed (.window w) [.u32 s.day.clock, .u8 (windowOf s w).staged.length] s)
    (sessionAt s w = false → missWindow w s = unstage w missed)
    ∧ (sessionAt s w = true → missWindow w s = modWindow w (fun r => { r with unstagePending := true }) missed)

/-! ## Tills -/

/-- A float issued, from either port (R48): the composed vector moves from the reserve to the till, the session begins, the
totals gain the float, the estimate is evaluated, and the till's other parked floats are answered. Where the reserve falls short
the request parks WAIT_STOCK with RESERVE_LOW (R51). The number in RESERVE_LOW is read from R51 (log 28). That an evaluation's
PICKUP_DUE follows the Store's notices of the event is the model's choice (log 37). A request that parks joins the end of the
list and its slot is PARKED (R51, R193); RESERVE_LOW carries the shortfall and the number in WAIT_STOCK; the rivals are the
parked floats for the till, answered BAD_STATE in list order (R48). That the number in RESERVE_LOW is sent in one byte is the model's
choice (log 35). -/
def Obligations.FloatIssued : Prop :=
  (∀ (s : State) (i : TillIx) (p : ProfileIx) (v : Nat) (short : Int),
    dismissRivals (.topup i v) s = s
    ∧ FloatsAnswered (fun w => match w.ask with | .float j _ => decide (j = i) | .topup _ _ => false) .badState s
        (dismissRivals (.float i p) s)
    ∧ (reserve s = none → raiseReserveLow short s = s)
    ∧ ∀ c, reserve s = some c → raiseReserveLow short s = raise .reserveLow (.comp c)
        [.value short, .u8 (s.float.waiters.filter fun w => decide (w.park = .stock)).length] s)
  ∧ (∀ (s : State) (p : Port) (tag : Tag) (ops : List Nat) (ask : FloatAsk) (park : FloatPark),
    let t := parkFloat p tag ops ask park s
    t = { s with
      float := { s.float with
        waiters := s.float.waiters ++ [{ port := p, tag, ask, ops, park, elapsed := 0, stamp := s.stamp }] }
      stamp := s.stamp + 1, ports := t.ports }
    ∧ SlotParked p tag s t)
  ∧ ∀ (s : State) (h : Req) (i : TillIx) (p : ProfileIx) (c : CompIx) (office : Bool),
    (if office then officeReady s h = true ∧ authorise .one h s = none else tillReady s h = true) →
    s.retention.suspect = false → s.day.state = .opened → (tillOf s i).state = .idle →
    profileOk s.store.denoms (look s.float.profiles p) = true → reserve s = some c →
    let a := accepted h (if office then 0x20 else 0x21) s
    let cmd : Instr := if office then .issueFloat h i.1 p.1 else .requestFloat h i.1 p.1
    let ops := if office then [h.op1] else []
    let prof := look s.float.profiles p
    let made := compose s.store.denoms (holding s (.comp c)) prof.mask (some prof.template) prof.target
    let m : Movement :=
      { kind := .issue, src := some (.comp c), dst := some (.till i), vec := made.1, port := h.port, ops
        flags := MoveFlags.clear, held := false }
    let session := ((tillOf s i).session + 1) % 65536
    (made.2 = 0 → checkMovement 1 m s = .pass →
      let moved := report (storeEvent [m] false a)
      let entered := { modTill i (fun r => { r with
            state := .trading, session, profile := some p, mask := prof.mask, f := prof.target, topups := 0
            signedOff := false, running := none, final := none, pouches := [], p := 0, hold := HoldReasons.empty
            armed := true }) moved with
          store := { moved.store with totals := { s.store.totals with
            floatCount := s.store.totals.floatCount + 1, floatValue := s.store.totals.floatValue + prof.target } } }
      exec cmd s
        = .next (finish (dismissRivals (.float i p) (answer h.port h.tag .ok 0
            [.u16 session, .items made.1, .value prof.target, .u32 s.store.journal.nextSeq] (evaluate i entered)))))
    ∧ (made.2 ≠ 0 →
      exec cmd s
        = .next (ended (raiseReserveLow made.2 (parkFloat h.port h.tag ops (.float i p) .stock a))))

/-- A top-up made, from either port (R50): the second stage alone composes it, F and the count of top-ups gain it, the totals too.
That an evaluation's PICKUP_DUE follows the Store's notices of the event is the model's choice (log 37). -/
def Obligations.TopupMade : Prop :=
  ∀ (s : State) (h : Req) (i : TillIx) (v : Nat) (c : CompIx),
    ((officeReady s h = true ∧ authorise .one h s = none) ∨ tillReady s h = true) → 1 ≤ v → v ≤ 999999999 →
    s.retention.suspect = false → s.day.state = .opened → (tillOf s i).state = .trading → (tillOf s i).signedOff = false →
    (tillOf s i).topups < 3 → reserve s = some c →
    let a := accepted h 0x22 s
    let made := compose s.store.denoms (holding s (.comp c)) (tillOf s i).mask none v
    let m : Movement :=
      { kind := .topup, src := some (.comp c), dst := some (.till i), vec := made.1, port := h.port
        ops := if h.port = .office then [h.op1] else [], flags := MoveFlags.clear, held := false }
    made.2 = 0 → checkMovement 1 m s = .pass →
      let moved := storeEvent [m] false a
      let entered := { modTill i (fun r => { r with f := r.f + v, topups := r.topups + 1 }) moved with
          store := { moved.store with totals := { s.store.totals with
            topupCount := s.store.totals.topupCount + 1, topupValue := s.store.totals.topupValue + v } } }
      exec (.requestTopup h i.1 v) s
        = .next (settled h .ok [.items made.1, .value v, .u32 s.store.journal.nextSeq] (evaluate i entered))

/-- TAKINGS UPDATE, FINAL TAKINGS, REQUEST PICKUP and RECEIVE POUCH taken (R55, R56, R61, R62); the estimate and the arming rule
that an evaluation applies (R57, R58); the pickup round (R59); and a late FINAL TAKINGS of a till HELD with UNDECLARED (R105),
whose TILL_HELD with the remaining reason alone is read from R105 (log 30). PICKUP_DUE's cause is 0 for an evaluation and 1 for a
round by the model's choice (log 6). -/
def Obligations.TakingsAndPouches : Prop :=
  (∀ (s : State) (h : Req) (i : TillIx) (v : Nat), tillReady s h = true → v ≤ 999999999 →
    ((tillOf s i).state = .trading ∨ (tillOf s i).state = .suspended →
      exec (.takingsUpdate h i.1 v) s
        = .next (settled h .ok [.value (estimate { tillOf s i with running := some v })]
            (evaluate i (modTill i (fun r => { r with running := some v }) (accepted h 0x23 s)))))
    ∧ (let entered := modTill i (fun r => { r with running := some v, final := some v }) (accepted h 0x24 s)
      ((tillOf s i).state = .trading →
        exec (.finalTakings h i.1 v) s = .next (settled h .ok [] (evaluate i entered)))
      ∧ ((tillOf s i).state = .held → (tillOf s i).hold.undeclared = true →
        exec (.finalTakings h i.1 v) s = .next (replied h .ok [] (lateFinal i entered)))
      ∧ (((tillOf s i).state = .held ∧ (tillOf s i).hold.undeclared = false) ∨ (tillOf s i).state = .returned
          ∨ (tillOf s i).state = .counting ∨ (tillOf s i).state = .suspended →
        exec (.finalTakings h i.1 v) s = .next (settled h .ok [] entered)))
    ∧ (1 ≤ v → (tillOf s i).state = .trading → (tillOf s i).signedOff = false → openPouches (tillOf s i) < 4 →
        (tillOf s i).pouches.length < 255 →
      let p : Pouch :=
        { number := (tillOf s i).pouches.length + 1, declared := v, state := .outstanding, counted := none, diff := none }
      exec (.requestPickup h i.1 v) s
        = .next (settled h .ok
            [.u8 p.number, .value (estimate { tillOf s i with pouches := (tillOf s i).pouches ++ [p] })]
            (evaluate i (modTill i (fun r => { r with pouches := r.pouches ++ [p] }) (accepted h 0x25 s))))))
  ∧ ∀ (s : State) (h : Req) (i : TillIx) (n : Nat) (p : Pouch), officeReady s h = true → pouch? (tillOf s i) n = some p →
      p.state = .outstanding →
      exec (.receivePouch h i.1 n) s
        = .next (replied h .ok [] (report (modTill i
            (fun r => { r with
              pouches := r.pouches.map fun q => if q.number = n then { q with state := .received } else q })
            (accepted h 0x2B s))))
  ∧ (∀ (s : State) (i : TillIx),
      let r := tillOf s i
      let e := max 0 (r.f + (r.running.getD 0 : Nat) - r.p
        - ((r.pouches.filter fun p => p.state ≠ .counted).map fun p => (p.declared : Int)).sum)
      let ruled := r.state = .trading ∧ r.signedOff = false ∧ r.limit ≠ 0
      (¬ ruled → evaluate i s = s)
      ∧ (ruled → (r.limit : Int) ≤ e →
        (r.armed = true → evaluate i s = modTill i (fun r => { r with armed := false })
          (raise .pickupDue (.till i) [.value e, .value r.limit, .u8 0] s))
        ∧ (r.armed = false → evaluate i s = s))
      ∧ (ruled → e < (r.limit * 8 / 10 : Nat) → evaluate i s = modTill i (fun r => { r with armed := true }) s)
      ∧ (ruled → ((r.limit * 8 / 10 : Nat) : Int) ≤ e → e < r.limit → evaluate i s = s))
  ∧ (∀ s : State,
      let due (i : TillIx) : Bool := (tillOf s i).state == .trading && !(tillOf s i).signedOff
        && decide ((tillOf s i).limit ≠ 0) && decide (((tillOf s i).limit / 2 : Nat) ≤ estimate (tillOf s i))
      pickupRound s = ((List.finRange 64).filter due).foldl (fun acc i =>
        raise .pickupDue (.till i) [.value (estimate (tillOf s i)), .value (tillOf s i).limit, .u8 1] acc) s)
  ∧ ∀ (s : State) (i : TillIx),
      let t := modTill i (fun r => { r with hold := { r.hold with undeclared := false } }) s
      ((tillOf s i).hold.pendingPickups = true →
        lateFinal i s = raise .tillHeld (.till i)
          [.u8 (bitSet [false, true, (tillOf s i).hold.outside, (tillOf s i).hold.gross, (tillOf s i).hold.uncertain])] t)
      ∧ ((tillOf s i).hold.pendingPickups = false → lateFinal i s = runComputation i t)

/-- SIGN OFF, WITHDRAW TILL, RETURN DRAWER, SUSPEND TILL and RESTORE TILL taken (R54, R63 to R66): the till's state or its
sign-off, the till's parked top-ups answered BAD_STATE, the till's parked requests of the Till Port answered WITHDRAWN, and the
evaluation after a restoration. A till's top-ups are those parked for it from either port, answered in list order as the list's
others keep their places. SIGN OFF's own answer after the top-ups' is the model's choice (log 9), and so is WITHDRAW TILL's
number of requests in one byte (log 35). -/
def Obligations.TillStateRequests : Prop :=
  (∀ (s : State) (h : Req) (i : TillIx), tillReady s h = true →
    (((tillOf s i).state = .trading ∨ (tillOf s i).state = .suspended) → (tillOf s i).signedOff = false →
      exec (.signOff h i.1) s
        = .next (settled h .ok [] (dismissTopups i (modTill i (fun r => { r with signedOff := true }) (accepted h 0x26 s)))))
    ∧ (((tillOf s i).state = .trading ∨ (tillOf s i).state = .suspended) → (tillOf s i).signedOff = true →
      exec (.signOff h i.1) s = .next (settled h .ok [] (accepted h 0x26 s)))
    ∧ exec (.withdrawTill h i.1) s
        = .next (settled h .ok [.u8 (s.float.waiters.filter fun w => w.port == .till && w.ask.tillIx == i).length]
            (dismissFloats (fun w => w.port == .till && w.ask.tillIx == i) .withdrawn (accepted h 0x27 s))))
  ∧ (∀ (s : State) (h : Req) (i : TillIx), officeReady s h = true →
    (s.day.state ≠ .closed → ((tillOf s i).state = .trading ∨ (tillOf s i).state = .suspended) →
      exec (.returnDrawer h i.1) s
        = .next (replied h .ok [] (dismissTopups i (report
            (modTill i (fun r => { r with state := .returned }) (accepted h 0x28 s))))))
    ∧ ((tillOf s i).state = .trading →
      exec (.suspendTill h i.1) s
        = .next (replied h .ok [] (dismissTopups i (report
            (modTill i (fun r => { r with state := .suspended }) (accepted h 0x29 s))))))
    ∧ (s.day.state ≠ .closed → (tillOf s i).state = .suspended →
      exec (.restoreTill h i.1) s
        = .next (replied h .ok [] (evaluate i (report
            (modTill i (fun r => { r with state := .trading }) (accepted h 0x2A s)))))))
  ∧ ∀ (s : State) (i : TillIx) (sel : FloatWaiter → Bool) (k : Code),
    FloatsAnswered sel k s (dismissFloats sel k s)
    ∧ FloatsAnswered (fun w => match w.ask with | .float _ _ => false | .topup j _ => decide (j = i)) .badState s
        (dismissTopups i s)

/-! ## Counting, posting and drawers -/

/-- START COUNT and RECOUNT that start (R80 to R83, R93): the source's whole holding in the tray, one entry held, the tray
COUNTING with a new count number, the source marked, the station RUNNING with SELECT sent, or waiting behind an ABANDON, and the
slot RUNNING. A recount moves nothing and keeps the tray's source and prior holding. One that cannot start is refused, or parks
for the station or a tray in the count-waiter list (R84) or for access in the access-waiter list (R129). And the pass over the
count waiters (R84), in list order: a waiter whose needs are not met keeps its place, a refused one is answered, one that parks
for access goes over to that list, and the pass ends when a count starts. A request that parks joins the end of its list and its
slot is PARKED (R193). And what a start goes by: the next count number (R78), the tray it takes (R80), and for each kind of
source what it names, the state it needs and what it moves (R80, R81). The checks of a start that moves nothing are read from
R82 (log 20). -/
def Obligations.CountBegins : Prop :=
  (∀ (s : State) (h : Req) (t : TrayIx) (reject : Nat), officeReady s h = true → authorise .one h s = none → reject ≤ 255 →
    s.count.station = .idle →
    let begins (u : State) (outSeq : Option Nat) :=
      u.count.station = .running
      ∧ u.count.running = some
          { port := h.port, tag := h.tag, ops := [h.op1], tray := t, outSeq, mask := 0, reread := false, step := none }
      ∧ u.count.lastCount = some (nextCount s) ∧ (∀ o, o ≠ t → trayOf u o = trayOf s o)
      ∧ (s.count.exchange = none → u.count.exchange = some .select)
      ∧ (s.count.exchange ≠ none → u.count.exchange = s.count.exchange ∧ u.count.selectWaiting = true)
      ∧ (slotOf u h.port h.tag).state = .running
      ∧ u.store.journal.held = s.store.journal.held + 1 ∧ u.day = s.day ∧ u.retention = s.retention
      ∧ look u.recon.fillOps t = [h.op1] ∧ u.recon.drawers = s.recon.drawers ∧ u.store.totals = s.store.totals
    (∀ (arg : SourceArg) (src : Source) (tray : Option TrayIx), sourceNamed s arg = true → sourceOf s arg = some src →
        sourceReady s src = true → chooseTray s tray = some t →
        checkMovement (if allZero (sourceVector s src) = true then 1 else 2) (startMove s src t h) s = .pass →
      let zero := allZero (sourceVector s src)
      ∃ u, exec (.startCount h (.ok arg) (.ok (tray.map (·.1))) reject) s = .next u
        ∧ begins u (if zero = true then none else some s.store.journal.nextSeq)
        ∧ trayOf u t = { trayOf s t with
            state := .counting, source := some src, prior := sourceVector s src, rejects := 0
            flags := TrayFlags.clear, count := some (nextCount s), rejectLimit := reject }
        ∧ (∀ c, holding u c = if sourceContainer src = some c then Counts.zero
            else if c = .tray t then (holding s c).add (sourceVector s src) else holding s c)
        ∧ u.store.journal.entries = s.store.journal.entries ++ (if zero = true then [] else [entryOf (startMove s src t h) s])
        ∧ (∀ i n, src = .drawer i n → (tillOf u i).state = .counting)
        ∧ (∀ i n k p, src = .pouch i n k → pouch? (tillOf s i) k = some p →
            pouch? (tillOf u i) k = some { p with state := .counting })
        ∧ (∀ b, src = .inbound b → (bagOf u b).state = .counting)
        ∧ (∀ c, src = .compartment c → (compOf u c).outForCount = some t))
    ∧ (((trayOf s t).state = .invalid
          ∨ ((trayOf s t).state = .counted ∧ ∀ src, (trayOf s t).source = some src → sourceOpen s src = true)) →
        s.retention.suspect = false → s.day.state ≠ .closed → 1 ≤ freeEntries s →
      ∃ u, exec (.recount h t.1 reject) s = .next u ∧ begins u none
        ∧ trayOf u t = { trayOf s t with
            state := .counting, rejects := 0, flags := TrayFlags.clear, count := some (nextCount s), rejectLimit := reject }
        ∧ (∀ c, holding u c = holding s c) ∧ u.store.journal.entries = s.store.journal.entries
        ∧ u.float.tills = s.float.tills ∧ u.courier = s.courier ∧ u.safe = s.safe ∧ look u.recon.pending t = false))
  ∧ (∀ (s : State) (h : Req) (reject : Nat), officeReady s h = true → authorise .one h s = none → reject ≤ 255 →
    (∀ (arg : SourceArg) (tray : Option TrayIx), sourceNamed s arg = false →
      exec (.startCount h (.ok arg) (.ok (tray.map (·.1))) reject) s
        = .next (settled h .badOperand [] (accepted h 0x30 s))) ∧
    let busy := s.count.station = .running ∨ s.count.station = .collecting
    (∀ (arg : SourceArg) (src : Source) (tray : Option TrayIx), sourceNamed s arg = true → sourceOf s arg = some src →
      let a := accepted h 0x30 s
      let gives (t : State) := exec (.startCount h (.ok arg) (.ok (tray.map (·.1))) reject) s = .next t
      (s.count.station = .down → gives (settled h .counterDown [] a))
      ∧ (s.count.station ≠ .down → sourceReady s src = false → gives (settled h .badState [] a))
      ∧ (sourceReady s src = true → busy →
        gives (ended (parkCount h.port h.tag [h.op1] (.start arg tray) reject .counter a)))
      ∧ (sourceReady s src = true → s.count.station = .idle → chooseTray s tray = none →
        gives (ended (parkCount h.port h.tag [h.op1] (.start arg tray) reject .tray a)))
      ∧ (sourceReady s src = true → s.count.station = .idle → ∀ t, chooseTray s tray = some t →
        let check := checkMovement (if allZero (sourceVector s src) = true then 1 else 2) (startMove s src t h) s
        (∀ r c, check = .parked r c →
          gives (ended (parkAccess h.port h.tag [h.op1] (.startCount arg tray reject) r c a)))
        ∧ ∀ k, check = .refused k → gives (settled h k [] a)))
    ∧ ∀ t : TrayIx,
      let a := accepted h 0x31 s
      let gives (u : State) := exec (.recount h t.1 reject) s = .next u
      let fit := (trayOf s t).state = .invalid
        ∨ ((trayOf s t).state = .counted ∧ ∀ src, (trayOf s t).source = some src → sourceOpen s src = true)
      (s.count.station = .down → gives (settled h .counterDown [] a))
      ∧ (s.count.station ≠ .down → ¬ fit → gives (settled h .badState [] a))
      ∧ (fit → busy → gives (ended (parkCount h.port h.tag [h.op1] (.recount t) reject .counter a))))
  ∧ (∀ (s : State) (p : Port) (tag : Tag) (ops : List Nat) (ask : CountAsk) (reject : Nat) (park : CountPark),
    let t := parkCount p tag ops ask reject park s
    t = { s with
      count := { s.count with waiters := s.count.waiters ++ [{ port := p, tag, ask, reject, ops, park, elapsed := 0 }] }
      ports := t.ports }
    ∧ SlotParked p tag s t)
  ∧ (∀ s : State,
    (nextCount s).day = s.day.number
    ∧ (∀ c, s.count.lastCount = some c → c.day = s.day.number →
      (nextCount s).number = if c.number = 65535 then 1 else c.number + 1)
    ∧ ((∀ c, s.count.lastCount = some c → c.day ≠ s.day.number) → (nextCount s).number = 1)
    ∧ (∀ t : TrayIx, chooseTray s (some t) = if (trayOf s t).state = .empty then some t else none)
    ∧ chooseTray s none = (if (trayOf s 0).state = .empty then some 0 else if (trayOf s 1).state = .empty then some 1 else none)
    ∧ ∀ (arg : SourceArg) (src : Source),
      let is (named needs : Prop) (moved : Counts) :=
        (sourceNamed s arg = true ↔ named) ∧ sourceOf s arg = some src ∧ (sourceReady s src = true ↔ needs)
        ∧ sourceVector s src = moved
      (∀ i : TillIx, arg = .drawer i.1 → src = .drawer i (tillOf s i).session →
        is True ((tillOf s i).state = .returned) (holding s (.till i)))
      ∧ (∀ (i : TillIx) (k : Nat), arg = .pouch i.1 k → src = .pouch i (tillOf s i).session k →
        is (∃ p, pouch? (tillOf s i) k = some p) (∃ p, pouch? (tillOf s i) k = some p ∧ p.state = .received) Counts.zero)
      ∧ (∀ b : BagIx, arg = .inbound b.1 → src = .inbound b →
        is True ((bagOf s b).dir = some .inbound ∧ (bagOf s b).state = .received) (holding s (.bag b)))
      ∧ (∀ c : CompIx, arg = .compartment c.1 → src = .compartment c → is True True (holding s (.comp c)))
      ∧ (arg = .loose → src = .loose → is True True Counts.zero)
      ∧ ((∃ n, 64 ≤ n ∧ (arg = .drawer n ∨ ∃ k, arg = .pouch n k)) ∨ (∃ n, 32 ≤ n ∧ arg = .inbound n)
        ∨ (∃ n, 16 ≤ n ∧ arg = .compartment n) → sourceNamed s arg = false))
  ∧ ∀ (s : State) (w : CountWaiter) (ws : List CountWaiter),
    let mine (v : CountWaiter) : Bool := v.port == w.port && v.tag == w.tag
    let gone (u : State) : State := { u with count := { u.count with waiters := u.count.waiters.filter fun v => !mine v } }
    let again (park : CountPark) := countPassOver ws { s with
      count := { s.count with waiters := s.count.waiters.map fun v => if mine v then { v with park } else v } }
    let is (u : State) := countPassOver (w :: ws) s = u
    countPass s = countPassOver s.count.waiters s ∧ countPassOver [] s = s
    ∧ (s.count.station ≠ .idle → is (again .counter))
    ∧ (s.count.station = .idle →
      (∀ arg tray, w.ask = .start arg tray →
        (chooseTray s tray = none → is (again .tray))
        ∧ (chooseTray s tray ≠ none →
          (∀ u, startTry w.port w.tag w.ops arg tray w.reject s = .running u → is (gone u))
          ∧ (∀ k u, startTry w.port w.tag w.ops arg tray w.reject s = .refused k u →
            is (countPassOver ws (answer w.port w.tag k 0 [] (gone u))))
          ∧ ∀ r c u, startTry w.port w.tag w.ops arg tray w.reject s = .parked r c u →
            is (countPassOver ws
              (parkAccess w.port w.tag w.ops (.startCount arg tray w.reject) r c (gone u)))))
      ∧ ∀ t, w.ask = .recount t →
        (∀ u, recountTry w.port w.tag w.ops t w.reject s = .running u → is (gone u))
        ∧ ∀ k u, recountTry w.port w.tag w.ops t w.reject s = .refused k u →
          is (countPassOver ws (answer w.port w.tag k 0 [] (gone u))))

/-- MANUAL COUNT taken (R94): under dual control the vector given becomes the tray's holding and the tray is COUNTED by hand; an
EMPTY tray takes its source's whole holding first and marks the source (R81), an INVALID tray keeps its source. The entries carry
MANUAL and both operator numbers (R181), under the next numbers, with the fields that `MovementApplied` writes out; the inflow
gains the new count less the replaced one, COUNT_DONE is raised, the answer carries the count number and the entries' numbers,
and the completion goes to the Reconciliation Unit, whose part `CountCompletes` writes out (R98). The station is not used. The
checks where no COUNT_OUT is written are read from R82 and R94 (logs 19, 20). That a source named for an INVALID tray is
disregarded (log 39), that COUNT_DONE follows the Store's notices of the event (log 37), and that the number of a COUNT_OUT not
written is answered as an absent optional field (log 35), is the model's choice. -/
def Obligations.ManualCountEnters : Prop :=
  ∀ (s : State) (h : Req) (t : TrayIx) (v : Counts), officeReady s h = true → authorise .dual h s = none → countsInRange v →
    (∀ i : DenomIx, (look s.store.denoms i).status = .unused → look v i = 0) →
    let ops := [h.op1, h.op2]
    let result := countResultMove t v h.port ops { MoveFlags.clear with manual := true } false
    let counted (u : State) :=
      (trayOf u t).state = .counted ∧ (trayOf u t).flags = { manual := true, uncertain := 0, saturated := false }
      ∧ (trayOf u t).rejects = 0 ∧ (trayOf u t).count = some (nextCount s) ∧ (∀ o, o ≠ t → trayOf u o = trayOf s o)
      ∧ u.count.station = s.count.station ∧ u.count.running = s.count.running ∧ u.count.exchange = s.count.exchange
      ∧ u.day = s.day ∧ u.retention = s.retention ∧ look u.recon.fillOps t = ops
    let first := s.store.journal.nextSeq
    let number := (nextCount s).number
    let byHand : MoveFlags := { manual := true, diverted := false, uncertain := false, saturated := false }
    let entered (x : State) (ms : List Movement) (source : Option Source) (prior replaced : Counts) :=
      trayOf x t = { trayOf s t with
        state := .counted, source, prior, rejects := 0, flags := { manual := true, uncertain := 0, saturated := false }
        count := some (nextCount s) }
      ∧ x.store = (storeEvent ms false (accepted h 0x32 s)).store
      ∧ x.count = { s.count with lastCount := some (nextCount s), trays := put s.count.trays t (trayOf x t) }
      ∧ x.recon = { s.recon with fillOps := put s.recon.fillOps t ops }
      ∧ x.store.inflow = s.store.inflow.add (v.sub replaced) ∧ x.store.outflow = s.store.outflow
      ∧ x.store.base = s.store.base ∧ x.store.totals = s.store.totals ∧ x.store.denoms = s.store.denoms
      ∧ x.store.journal.held = s.store.journal.held ∧ x.day = s.day
      ∧ x.event = { signals := [], reported := true }
      ∧ x.ports = (raise .countDone (.tray t) ([.u16 number]
          ++ (match source with
            | some (.drawer i n) => [.u8 0, .u8 i.1, .u16 n]
            | some (.pouch i n k) => [.u8 1, .u8 i.1, .u16 n, .u8 k]
            | some (.inbound b) => [.u8 2, .u8 b.1]
            | some (.compartment c) => [.u8 3, .u8 c.1]
            | some .loose => [.u8 4]
            | none => [])
          ++ [.value (valueOf s v), .u8 1]) (storeEvent ms false (accepted h 0x32 s))).ports
    let result' : Movement :=
      { kind := .countResult, src := none, dst := some (.tray t), vec := v, port := h.port, ops, flags := byHand, held := false }
    (∀ (arg : SourceArg) (src : Source), (trayOf s t).state = .empty → sourceNamed s arg = true → sourceOf s arg = some src →
        sourceReady s src = true →
        let zero := allZero (sourceVector s src)
        let out := if zero = true then emptyStart (some src) h.port ops else countOutMove src t h.port ops true s
        checkEvent (if zero = true then 1 else 2) [out, result] s = .pass →
      ∃ u, exec (.manualCount h t.1 (.ok v) (.ok (some arg))) s = .next u ∧ counted u
        ∧ (trayOf u t).source = some src ∧ (trayOf u t).prior = sourceVector s src
        ∧ (∀ c, holding u c = if c = .tray t then v else if sourceContainer src = some c then Counts.zero else holding s c)
        ∧ let taken : Movement :=
            { kind := .countOut, src := sourceContainer src, dst := some (.tray t), vec := sourceVector s src, port := h.port, ops
              flags := byHand, held := false }
          u.store.journal.entries = s.store.journal.entries
            ++ (if zero = true then [entryOf result' s]
              else [entryOf taken s, { entryOf result' s with seq := seqAfter first }])
          ∧ ∃ x, u = replied h .ok
              (.u16 number :: if zero = true then [.u8 0, .u32 first] else [.u8 1, .u32 first, .u32 (seqAfter first)])
              (handOver t x)
            ∧ entered x ((if zero = true then [] else [taken]) ++ [result']) (some src) (sourceVector s src)
                ((holding s (.tray t)).add (sourceVector s src))
            ∧ x.store.journal.nextSeq = (if zero = true then seqAfter first else seqAfter (seqAfter first))
            ∧ (∀ i, tillOf x i = match src with
                | .drawer j _ => if i = j then { tillOf s i with state := .counting } else tillOf s i
                | .pouch j _ k =>
                  if i = j then { tillOf s i with pouches := (tillOf s i).pouches.map fun p =>
                    if p.number = k then { p with state := .counting } else p }
                  else tillOf s i
                | .inbound _ | .compartment _ | .loose => tillOf s i)
            ∧ (∀ b, bagOf x b = if src = .inbound b then { bagOf s b with state := .counting } else bagOf s b)
            ∧ ∀ c, (compOf x c).outForCount = if src = .compartment c then some t else (compOf s c).outForCount)
    ∧ ∀ arg : Option SourceArg, (trayOf s t).state = .invalid → checkMovement 1 result s = .pass →
      ∃ u, exec (.manualCount h t.1 (.ok v) (.ok arg)) s = .next u ∧ counted u
        ∧ (trayOf u t).source = (trayOf s t).source ∧ (trayOf u t).prior = (trayOf s t).prior
        ∧ (∀ c, holding u c = if c = .tray t then v else holding s c)
        ∧ u.store.journal.entries = s.store.journal.entries ++ [entryOf result' s]
        ∧ ∃ x, u = replied h .ok [.u16 number, .u8 0, .u32 first] (handOver t x)
          ∧ entered x [result'] (trayOf s t).source (trayOf s t).prior (holding s (.tray t))
          ∧ x.store.journal.nextSeq = seqAfter first
          ∧ x.float.tills = s.float.tills ∧ x.courier = s.courier ∧ x.safe = s.safe

/-- RESTORE COUNTER, RESET OPERATIONS and ACCEPT VARIANCE taken (R77, R91, R107): the station IDLE with its faults cleared and a
pass over the waiters; the running count abandoned as R90 gives and its request answered WITHDRAWN, then every count waiter
answered WITHDRAWN in list order; the session settled under the authorisation its hold reasons ask for (R18, R20), and what a
settlement does, by computation or by ACCEPT VARIANCE, in every class (R104): the till, the totals, TILL_SETTLED and, while
auto-post is ON, an attempt owed for each tray that holds the drawer's count (R118, log 15). `abandoned` writes the abandonment
out. That the passes follow the answers in the event is the model's choice (log 9), and so are RESET OPERATIONS' numbers of
counts and of waiters in one byte each (log 35). -/
def Obligations.StationAndVarianceRequests : Prop :=
  (∀ (s : State) (h : Req), officeReady s h = true →
    (authorise .senior h s = none → s.count.station = .down →
      exec (.restoreCounter h) s
        = .next (replied h .ok [] (signal .countPass
            { accepted h 0x33 s with count := { s.count with station := .idle, faults := 0 } })))
    ∧ (authorise .senior h s = none → s.count.station ≠ .down →
      exec (.restoreCounter h) s = .next (settled h .badState [] (accepted h 0x33 s)))
    ∧ (∀ e, authorise .senior h s = some e →
      exec (.restoreCounter h) s = .next (settled h e [] (accepted h 0x33 s)))
    ∧ exec (.resetOperations h) s
        = .next (replied h .ok [.u8 (if s.count.running = none then 0 else 1), .u8 s.count.waiters.length]
            (dismissCounts (fun _ => true) .withdrawn
              (match s.count.running with
               | some r => answer r.port r.tag .withdrawn 0 [] (abandoned r (accepted h 0x34 s))
               | none => accepted h 0x34 s)))
    ∧ ∀ (i : TillIx) (d : DrawerResult) (k : Classification), (tillOf s i).state = .held →
        (tillOf s i).hold.undeclared = false → (tillOf s i).hold.pendingPickups = false → drawerOf s i = some d →
        d.classed = some k →
        let gross := (tillOf s i).hold.gross
        (authorise (if gross = true then .dualManager else .senior) h s = none →
          exec (.acceptVariance h i.1) s
            = .next (replied h .ok
                [.u8 (position classNames k.cls), .signed k.expected, .signed k.variance, .value k.allowance]
                (settleTill i k (setDrawer i
                  (some { d with acceptOps := if gross = true then [h.op1, h.op2] else [h.op1] }) (accepted h 0x36 s)))))
        ∧ (∀ e, authorise (if gross = true then .dualManager else .senior) h s = some e →
          exec (.acceptVariance h i.1) s = .next (settled h e [] (accepted h 0x36 s))))
  ∧ (∀ (s : State) (i : TillIx) (k : Classification),
    let t := settleTill i k s
    let n := s.store.totals.settled
    (∀ j, tillOf t j = if j = i then { tillOf s i with
        state := .idle
        hold := { undeclared := false, pendingPickups := false, outside := false, gross := false, uncertain := false }
        last := some { cls := k.cls, variance := k.variance, allowance := k.allowance, time := s.day.clock } } else tillOf s j)
    ∧ (∀ y, look t.recon.attemptDue y = (look s.recon.attemptDue y || (s.recon.autoPost
        && decide ((trayOf s y).state = .counted ∧ (trayOf s y).source = some (.drawer i (tillOf s i).session)))))
    ∧ t = { s with
        store := { s.store with totals := { s.store.totals with
          overTotal := s.store.totals.overTotal + max k.variance 0
          shortTotal := s.store.totals.shortTotal + max (-k.variance) 0
          settled := match k.cls with
            | .balanced => { n with balanced := n.balanced + 1 }
            | .surplus => { n with surplus := n.surplus + 1 }
            | .short => { n with short := n.short + 1 }
            | .outside => { n with outside := n.outside + 1 }
            | .gross => { n with gross := n.gross + 1 } } }
        float := { s.float with tills := t.float.tills }
        recon := { s.recon with attemptDue := t.recon.attemptDue }
        ports := (raise .tillSettled (.till i)
          [.u8 (position classNames k.cls), .signed k.variance, .value k.allowance] s).ports
        event := { s.event with reported := true } })
  ∧ ∀ (sel : CountWaiter → Bool) (k : Code) (s : State),
    let t := dismissCounts sel k s
    t = { s with count := { s.count with waiters := s.count.waiters.filter fun w => !sel w }, ports := t.ports }
    ∧ AnswersEach ((s.count.waiters.filter sel).map fun w => (w.port, w.tag)) k s t

/-- POST TRAY and an auto-post attempt that is owed (R114 to R119, R133, R134): a COUNTED tray's whole holding goes to its first
destination, or, where that refuses OVER_CAP or COUNT_RANGE, to the first compartment of the overflow walk that takes it, with
POST_DIVERTED; where none takes it, or for another refusal, the post is refused, with POST_HELD where the walk found none and for
every refused attempt; where the first destination is not accessible for the time, a post parks and an attempt leaves the tray
pending. The first destination goes by the kind of the source, and the walk follows the overflow links over compartments not yet
visited. And what the tray's emptying does. Attempts as
owed events are the model's reading of R118 and R119 (logs 15, 17), an attempt that nothing owes changes nothing by its choice
(log 4), and so the own answer comes before the answers of the passes (log 9). The diverted mark of the answer is a byte, 0 or 1,
by its choice (log 35), and POST_DIVERTED follows the Store's notices of the event by its choice (log 37). -/
def Obligations.TrayPosted : Prop :=
  (∀ (s : State) (h : Req) (t : TrayIx) (c : CompIx), officeReady s h = true → authorise .one h s = none →
    (trayOf s t).state = .counted → destinationOf s t = some c →
    let a := clearPending t (accepted h 0x35 s)
    let value := valueOf s (holding s (.tray t))
    (checkMovement 1 (postMove t c false h.port [h.op1] s) s = .pass →
      exec (.postTray h t.1) s
        = .next (replied h .ok [.u8 c.1, .u8 0, .value value, .u32 s.store.journal.nextSeq]
            (posted t (storeEvent [postMove t c false h.port [h.op1] s] false a))))
    ∧ (∀ (k : Code) (d : CompIx), checkMovement 1 (postMove t c false h.port [h.op1] s) s = .refused k →
        (k = .overCap ∨ k = .countRange) → walkOverflow t h.port [h.op1] s 16 [c] c = some d →
      exec (.postTray h t.1) s
        = .next (replied h .ok [.u8 d.1, .u8 1, .value value, .u32 s.store.journal.nextSeq]
            (raise .postDiverted (.tray t) [.u8 c.1, .u8 d.1, .value value, .u32 s.store.journal.nextSeq]
              (posted t (storeEvent [postMove t d true h.port [h.op1] s] false a)))))
    ∧ (∀ (r : AccessReason) (k : Container), checkMovement 1 (postMove t c false h.port [h.op1] s) s = .parked r k →
      exec (.postTray h t.1) s
        = .next (ended (parkAccess h.port h.tag [h.op1] (.postTray t (trayOf s t).count) r (.comp c) a)))
    ∧ ∀ k : Code, checkMovement 1 (postMove t c false h.port [h.op1] s) s = .refused k →
      (k ≠ .overCap → k ≠ .countRange → exec (.postTray h t.1) s = .next (settled h k [] a))
      ∧ ((k = .overCap ∨ k = .countRange) → walkOverflow t h.port [h.op1] s 16 [c] c = none →
        exec (.postTray h t.1) s
          = .next (settled h k [] (raise .postHeld (.tray t) [.u8 (outcomeCode k), .u8 c.1] a))))
  ∧ (∀ (s : State) (h : Req) (t : TrayIx), officeReady s h = true → authorise .one h s = none →
    ((trayOf s t).state = .invalid → exec (.postTray h t.1) s = .next (settled h .trayInvalid [] (accepted h 0x35 s)))
    ∧ ((trayOf s t).state = .empty ∨ (trayOf s t).state = .counting →
      exec (.postTray h t.1) s = .next (settled h .badState [] (accepted h 0x35 s))))
  ∧ (∀ (s : State) (t : TrayIx) (n : Option CountNumber) (p : Port) (ops : List Nat), (trayOf s t).state = .counted →
      (trayOf s t).count ≠ n → postTry t (some n) p ops s = .refused .badState s)
  ∧ (∀ (s : State) (t : TrayIx), s.retention.supply = .good →
    look s.recon.attemptDue t = true
      ∨ (look s.recon.reported t = true ∧ look s.recon.pending t = true ∧ (trayOf s t).state = .counted) →
    let a := clearPending t (clearAutoPost t (begun s))
    let ops := look s.recon.fillOps t
    let value := valueOf s (holding s (.tray t))
    let gives (u : State) := exec (.autoPostAttempt t) s = .next u
    (∀ c, (trayOf s t).state = .counted → destinationOf s t = some c →
      let check := checkMovement 1 (postMove t c false .office ops s) s
      (check = .pass → gives (finish (posted t (storeEvent [postMove t c false .office ops s] false a))))
      ∧ (∀ r k, check = .parked r k →
        gives (ended { a with recon := { a.recon with pending := put a.recon.pending t true } }))
      ∧ ∀ k, check = .refused k →
        (k ≠ .overCap → k ≠ .countRange → gives (ended (raise .postHeld (.tray t) [.u8 (outcomeCode k)] a)))
        ∧ (k = .overCap ∨ k = .countRange →
          (walkOverflow t .office ops s 16 [c] c = none →
            gives (ended (raise .postHeld (.tray t) [.u8 (outcomeCode k), .u8 c.1] a)))
          ∧ ∀ d, walkOverflow t .office ops s 16 [c] c = some d →
            gives (finish (raise .postDiverted (.tray t) [.u8 c.1, .u8 d.1, .value value, .u32 s.store.journal.nextSeq]
              (posted t (storeEvent [postMove t d true .office ops s] false a))))))
    ∧ ((trayOf s t).state = .invalid →
      gives (ended (raise .postHeld (.tray t) [.u8 (outcomeCode .trayInvalid)] (clearAutoPost t (begun s)))))
    ∧ ((trayOf s t).state = .empty ∨ (trayOf s t).state = .counting →
      gives (ended (raise .postHeld (.tray t) [.u8 (outcomeCode .badState)] (clearAutoPost t (begun s))))))
  ∧ (∀ (s : State) (t : TrayIx),
    let u := clearAutoPost t s
    u = { s with recon := { s.recon with
      pending := put s.recon.pending t false, reported := put s.recon.reported t false
      attemptDue := put s.recon.attemptDue t false } }
    ∧ clearPending t s = { s with recon := { s.recon with
      pending := put s.recon.pending t false, reported := put s.recon.reported t false } })
  ∧ (∀ (s : State) (t : TrayIx) (p : Port) (ops : List Nat) (c : CompIx),
    let takes (d : CompIx) := access s (some t) d = .accessible ∧ (stepBits s (.comp d)).mark = false
      ∧ checkMovement 1 (postMove t d true p ops s) s = .pass
    let walked (path : List CompIx) := path.Nodup ∧ path.IsChain fun a b => (compOf s a).link = some b
    (∀ d, walkOverflow t p ops s 16 [c] c = some d ↔
      ∃ path, walked (c :: path ++ [d]) ∧ (∀ x ∈ path, ¬ takes x) ∧ takes d)
    ∧ (walkOverflow t p ops s 16 [c] c = none ↔ ∀ path d, walked (c :: path ++ [d]) → ¬ takes d))
  ∧ (∀ (s : State) (t : TrayIx), s.retention.supply = .good → look s.recon.attemptDue t = false →
    (look s.recon.reported t = true → look s.recon.pending t = true → (trayOf s t).state ≠ .counted) →
    exec (.autoPostAttempt t) s = .next (ended (begun s)))
  ∧ (∀ (s : State) (t : TrayIx) (c : CompIx) (diverted : Bool) (p : Port) (ops : List Nat),
    let only (role : CompRole) (o : Option CompIx) :=
      (o = none ↔ ∀ d, (compOf s d).role ≠ role)
      ∧ ∀ d, o = some d → (compOf s d).role = role ∧ ∀ e : CompIx, e < d → (compOf s e).role ≠ role
    postMove t c diverted p ops s =
      { kind := .post, src := some (.tray t), dst := some (.comp c), vec := holding s (.tray t), port := p, ops
        flags := { manual := false, diverted, uncertain := false, saturated := false }, held := false }
    ∧ match (trayOf s t).source with
      | some (.drawer _ _) | some (.pouch _ _ _) | some .loose => only .takings (destinationOf s t)
      | some (.inbound _) => only .changeFund (destinationOf s t)
      | some (.compartment d) => destinationOf s t = some d
      | none => destinationOf s t = none)
  ∧ ∀ (s : State) (t : TrayIx),
    let u := posted t s
    trayOf u t = { trayOf s t with
      state := .empty, source := none, prior := Counts.zero, rejects := 0, flags := TrayFlags.clear, count := none }
    ∧ look u.recon.diffs t = none ∧ look u.recon.pending t = false ∧ u.event.reported = true
    ∧ (∀ b, (trayOf s t).source = some (.inbound b) → bagOf u b = BagRec.free)
    ∧ (∀ c, (trayOf s t).source = some (.compartment c) → (compOf u c).outForCount = none)
    ∧ u.store = s.store ∧ u.float.tills = s.float.tills ∧ u.day = s.day

/-! ## The safe -/

/-- OPEN RANGE, LOCK ALL, FREEZE and THAW (R125 to R128): the range and the flag, and FROZEN while the flag is set. The ends of a
range that OPEN RANGE makes empty are kept as given, and THAW reports them, by the model's choice (log 7). -/
def Obligations.RangeAndFreeze : Prop :=
  ∀ (s : State) (h : Req), officeReady s h = true →
    (∀ low high : Nat, low ≤ 15 → high ≤ 255 →
      (s.safe.frozen = false →
        exec (.openRange h low high) s
          = .next (settled h .ok [.u8 low, .u8 (min high 15)] { accepted h 0x40 s with
              safe := { s.safe with range := { low, high := min high 15 } } }))
      ∧ (s.safe.frozen = true → exec (.openRange h low high) s = .next (settled h .frozen [] (accepted h 0x40 s))))
    ∧ (∀ low high : Nat, 15 < low ∨ 255 < high →
      exec (.openRange h low high) s = .next (settled h .badOperand [] (accepted h 0x40 s)))
    ∧ (s.safe.frozen = false →
      ∃ r : SafeRange, (∀ c : CompIx, inRange { s with safe := { s.safe with range := r } } c = false)
        ∧ exec (.lockAll h) s = .next (settled h .ok [] { accepted h 0x41 s with safe := { s.safe with range := r } }))
    ∧ (s.safe.frozen = true → exec (.lockAll h) s = .next (settled h .frozen [] (accepted h 0x41 s)))
    ∧ exec (.freeze h) s = .next (settled h .ok [] { accepted h 0x42 s with safe := { s.safe with frozen := true } })
    ∧ (authorise .dual h s = none → s.safe.frozen = true →
      exec (.thaw h) s
        = .next (settled h .ok [.u8 s.safe.range.low, .u8 s.safe.range.high]
            { accepted h 0x43 s with safe := { s.safe with frozen := false } }))
    ∧ (authorise .dual h s = none → s.safe.frozen = false →
      exec (.thaw h) s = .next (settled h .badState [] (accepted h 0x43 s)))
    ∧ (∀ e, authorise .dual h s = some e → exec (.thaw h) s = .next (settled h e [] (accepted h 0x43 s)))

/-- TRANSFER, ADJUST and FILL BAG (R135, R136, R148): a movement that passes is applied and answered with its sequence number,
one that parks joins the end of the access-waiter list, its slot PARKED (R129, R193), one that is refused changes nothing. And
the passes over that list (R130): the waiters concerned are re-tried in list order, each where it still waits; one that is
refused or done is answered and leaves the list, one that parks again keeps its place with its reason and container brought up
to date, and a START COUNT may start or go over to the count waiters. -/
def Obligations.CashMoved : Prop :=
  (∀ (s : State) (h : Req) (v : Counts), officeReady s h = true → (∃ i : DenomIx, look v i ≠ 0) →
    (∀ i : DenomIx, (look s.store.denoms i).status = .unused → look v i = 0) →
    let outcome (cmd : Instr) (code : Nat) (ops : List Nat) (req : AccessReq) (m : Movement) (more : State → List Field) :=
      let a := accepted h code s
      (checkMovement 1 m s = .pass →
        exec cmd s = .next (settled h .ok (more (storeEvent [m] false a) ++ [.u32 s.store.journal.nextSeq])
          (storeEvent [m] false a)))
      ∧ (∀ r k, checkMovement 1 m s = .parked r k → exec cmd s = .next (ended (parkAccess h.port h.tag ops req r k a)))
      ∧ (∀ k, checkMovement 1 m s = .refused k → exec cmd s = .next (settled h k [] a))
    (∀ a b : CompIx, authorise .one h s = none → countsInRange v → a ≠ b →
      outcome (.transfer h a.1 b.1 (.ok v)) 0x44 [h.op1] (.transfer a b v)
        { kind := .transfer, src := some (.comp a), dst := some (.comp b), vec := v, port := h.port, ops := [h.op1]
          flags := MoveFlags.clear, held := false } (fun _ => []))
    ∧ (∀ c : CompIx, authorise .dual h s = none → (∀ i : DenomIx, -65535 ≤ look v i ∧ look v i ≤ 65535) →
      outcome (.adjust h c.1 (.ok v)) 0x45 [h.op1, h.op2] (.adjust c v)
        { kind := .adjust, src := none, dst := some (.comp c), vec := v, port := h.port, ops := [h.op1, h.op2]
          flags := MoveFlags.clear, held := false } (fun _ => []))
    ∧ ∀ (b : BagIx) (c : CompIx), authorise .one h s = none → countsInRange v → (bagOf s b).dir = some .outbound →
        (bagOf s b).state = .opened →
      outcome (.fillBag h b.1 c.1 (.ok v)) 0x51 [h.op1] (.fillBag b c v)
        { kind := .bagFill, src := some (.comp c), dst := some (.bag b), vec := v, port := h.port, ops := [h.op1]
          flags := MoveFlags.clear, held := false } (fun t => [.value (valueOf t (holding t (.bag b)))]))
  ∧ (∀ (s : State) (p : Port) (tag : Tag) (ops : List Nat) (req : AccessReq) (reason : AccessReason) (c : Container),
    let t := parkAccess p tag ops req reason c s
    t = { s with
      safe := { s.safe with
        waiters := s.safe.waiters ++ [{ port := p, tag, req, ops, reason, container := c, elapsed := 0, stamp := s.stamp }] }
      stamp := s.stamp + 1, ports := t.ports }
    ∧ SlotParked p tag s t)
  ∧ (∀ (s : State) (f : AccessWaiter → Bool) (c : CompIx),
    accessPass f s = (s.safe.waiters.filter f).foldl retryAccess s
    ∧ runSignal .sessionPass s = accessPass (fun w => w.reason == .session) s
    ∧ runSignal (.countOutPass c) s = accessPass (fun w => w.reason == .countOut && w.container == .comp c) s)
  ∧ ∀ (s : State) (w : AccessWaiter),
    let mine (v : AccessWaiter) : Bool := v.port == w.port && v.tag == w.tag
    let gone (u : State) : State := { u with safe := { u.safe with waiters := u.safe.waiters.filter fun v => !mine v } }
    let is (u : State) := retryAccess s w = u
    ((∀ v ∈ s.safe.waiters, mine v = false) → is s)
    ∧ ((∃ v ∈ s.safe.waiters, mine v = true) →
      (∀ k u, accessTry w.port w.tag w.ops w.req s = .refused k u → is (answer w.port w.tag k 0 [] (gone u)))
      ∧ (∀ r c u, accessTry w.port w.tag w.ops w.req s = .parked r c u →
        let again (v : AccessWaiter) : AccessWaiter := if mine v then { v with reason := r, container := c } else v
        is { u with safe := { u.safe with waiters := u.safe.waiters.map again } })
      ∧ (∀ u rs, accessTry w.port w.tag w.ops w.req s = .done u rs → is (answer w.port w.tag .ok 0 rs (gone u)))
      ∧ (∀ u, accessTry w.port w.tag w.ops w.req s = .running u → is (gone u))
      ∧ ∀ park arg tray n, w.req = .startCount arg tray n → accessTry w.port w.tag w.ops w.req s = .queued park →
        is (parkCount w.port w.tag w.ops (.start arg tray) n park (gone s)))

/-- CLEAR ALARM (R141): dual control first, then the compartment, then BAD_STATE unless the alarm is FORCED and the door CLOSED;
else the alarm becomes NONE and nothing else changes, so that the compartment is accessible again where nothing else stands in its
way. -/
def Obligations.ClearAlarmRule : Prop :=
  ∀ (s : State) (h : Req), officeReady s h = true →
    (∀ comp : Nat, authorise .dual h s ≠ none →
      exec (.clearAlarm h comp) s = .next (settled h .dualRequired [] (accepted h 0x46 s)))
    ∧ (∀ comp : Nat, authorise .dual h s = none → 15 < comp →
      exec (.clearAlarm h comp) s = .next (settled h .badOperand [] (accepted h 0x46 s)))
    ∧ ∀ c : CompIx, authorise .dual h s = none →
      ((compOf s c).alarm ≠ .forced ∨ (compOf s c).door = .opened →
        exec (.clearAlarm h c.1) s = .next (settled h .badState [] (accepted h 0x46 s)))
      ∧ ((compOf s c).alarm = .forced → (compOf s c).door = .closed →
        let t := modComp c (fun r => { r with alarm := .none }) (accepted h 0x46 s)
        exec (.clearAlarm h c.1) s = .next (settled h .ok [] t)
        ∧ (inRange s c = true → s.courier.session = none → (compOf s c).outForCount = none →
            access t none c = .accessible))

/-- Doors, latches and their timers (R137 to R140): an opening under a hold, behind a released latch and behind an engaged one; a
closing; the end of the latch window; the door-held limit, compared at its value in force. That an expiry may be taken late, at
its limit or after, is the model's choice (log 31), and that DOOR_HELD was raised for a run is held in a field of the model's own
(log 32). -/
def Obligations.DoorsAndLatches : Prop :=
  ∀ (s : State) (c : CompIx), s.retention.supply = .good →
    let r := compOf s c
    (r.door = .closed → r.hold = true →
      exec (.doorOpens c) s = .next (ended (modComp c (fun x => { x with door := .opened }) (begun s))))
    ∧ (r.door = .closed → r.hold = false → r.latch = .released →
      exec (.doorOpens c) s
        = .next (ended (modComp c (fun x => { x with
            door := .opened, heldTimer := some 0, heldRaised := false, latchTimer := none }) (begun s))))
    ∧ (r.door = .closed → r.hold = false → r.latch = .engaged →
      exec (.doorOpens c) s
        = .next (ended (raise .doorForced (.comp c)
            [.u8 (match r.alarm with | .none => 0 | .forced => 1 | .held => 2), .u32 s.day.clock]
            (modComp c (fun x => { x with
              door := .opened, heldTimer := some 0, heldRaised := false, alarm := .forced }) (begun s)))))
    ∧ (r.door = .opened →
      exec (.doorCloses c) s
        = .next (ended (modComp c (fun x => { x with
            door := .closed, heldTimer := none, heldRaised := false
            latch := if x.hold then x.latch else .engaged
            alarm := if x.alarm = .held then .none else x.alarm }) (begun s))))
    ∧ (∀ n, r.latchTimer = some n → 30 ≤ n → r.door = .closed → r.hold = false →
      exec (.latchWindowExpiry c) s
        = .next (ended (modComp c (fun x => { x with latch := .engaged, latchTimer := none }) (begun s))))
    ∧ (∀ n, r.heldTimer = some n → s.safe.heldInForce ≤ n → r.heldRaised = false →
      exec (.doorHeldExpiry c) s
        = .next (ended (raise .doorHeld (.comp c) [.u32 n] (modComp c (fun x => { x with
            heldRaised := true, alarm := if x.alarm = .none then .held else x.alarm }) (begun s)))))

/-! ## Bags and the handover -/

/-- NEW BAG, CLOSE BAG, REOPEN BAG, FREE BAG, STAGE BAG and DROP BAG taken (R147, R149 to R152). STAGE BAG's position is one byte
by the model's choice (log 35). -/
def Obligations.BagRequests : Prop :=
  ∀ (s : State) (h : Req) (b : BagIx), officeReady s h = true →
    (∀ c : CompIx, (compOf s c).role = .outbound → (bagOf s b).state = .free →
        (∀ d : BagIx, d < b → (bagOf s d).state ≠ .free) →
      exec (.newBag h c.1) s
        = .next (settled h .ok [.u8 b.1] (modBag b (fun _ =>
            { dir := some .outbound, state := .opened, tag := none, location := some c, declared := none, window := none })
            (accepted h 0x50 s))))
    ∧ ((bagOf s b).dir = some .outbound → (bagOf s b).state = .opened →
      (∀ tag : Nat, tag ≤ 99999999 → (∀ d, (bagOf s d).state = .free ∨ (bagOf s d).tag ≠ some tag) →
        exec (.closeBag h b.1 tag) s
          = .next (settled h .ok [] (modBag b (fun r => { r with state := .closed, tag := some tag }) (accepted h 0x52 s))))
      ∧ ((∀ i : DenomIx, look (holding s (.bag b)) i = 0) →
        exec (.freeBag h b.1) s = .next (settled h .ok [] (modBag b (fun _ => BagRec.free) (accepted h 0x54 s)))))
    ∧ ((bagOf s b).dir = some .outbound → (bagOf s b).state = .closed →
      exec (.reopenBag h b.1) s
          = .next (settled h .ok [] (modBag b (fun r => { r with state := .opened, tag := none }) (accepted h 0x53 s)))
      ∧ ∀ (w : WindowIx) (c : CompIx), (windowOf s w).state = .planned ∨ (windowOf s w).state = .opened →
          (windowOf s w).comp = some c → (bagOf s b).location = some c → (windowOf s w).staged.length < 16 →
        exec (.stageBag h b.1 w.1) s
          = .next (settled h .ok [.u8 ((windowOf s w).staged.length + 1)]
              (modWindow w (fun r => { r with staged := r.staged ++ [b] })
                (modBag b (fun r => { r with state := .staged, window := some w }) (accepted h 0x55 s)))))
    ∧ ∀ w : WindowIx, (bagOf s b).state = .staged → (bagOf s b).window = some w →
      exec (.dropBag h b.1) s
        = .next (settled h .ok [] (modSession (fun x => { x with scanned := x.scanned.filter (· ≠ b) })
            (modWindow w (fun r => { r with staged := r.staged.filter (· ≠ b) })
              (modBag b (fun r => { r with state := .closed, window := none }) (accepted h 0x56 s)))))

/-- ARRIVE, READ MANIFEST, SCAN BAG and DEPART (R163, R166, R168, R169, R173, R174): the session begun with the latch held, or
BADGE_REFUSED; the manifest fixed with its checksum; a scan entered, or an error counted, the third of which ends the session; and
what an ending without confirmation does (R130, R158, R169, R173, R174): HANDOVER_ABORTED with the cause and the numbers of bags,
the inbound bags FREE, the session gone, the latch no longer held, a window whose unstaging waited unstaged, the pass for SESSION
called for, the re-tries and attempts the report makes owed, and the report to the Day Unit. The model's choices: numbers of bags,
positions and remainders in one byte and a badge in four (log 35), the list's leading number and the codes of the causes (log 6),
the number of staged bags in HANDOVER_ABORTED taken first (log 22), and passes, re-tries and attempts as owed (logs 9, 15, 16). -/
def Obligations.SessionRequests : Prop :=
  (∀ (s : State) (h : Req), courierReady s h = true →
    (∀ (w : WindowIx) (badge : Nat), 1 ≤ badge → badge ≤ 99999999 → (windowOf s w).state = .opened →
        s.courier.session = none →
      (∀ c : CompIx, (windowOf s w).badge = some badge → (windowOf s w).comp = some c →
        exec (.arrive h w.1 badge) s
          = .next (settled h .ok [.u8 w.1, .u8 c.1, .u8 (windowOf s w).staged.length]
              (modComp c (fun r => { r with
                hold := true, latch := .released, latchTimer := none, heldTimer := none, heldRaised := false
                alarm := if r.alarm = .held then .none else r.alarm })
              { accepted h 0x60 s with courier := { s.courier with
                session := some { window := w, badge, comp := c, manifestSent := false, checksum := none, scanned := []
                                  errors := 0, inbound := [], idle := 0 } } })))
      ∧ ((windowOf s w).badge ≠ some badge →
        exec (.arrive h w.1 badge) s
          = .next (settled h .badgeMismatch []
              (raise .badgeRefused (.window w) [.u32 badge, .u32 s.day.clock] (accepted h 0x60 s)))))
    ∧ ∀ x : Session, s.courier.session = some x →
      let list := (windowOf s x.window).staged
      let with' (code : Nat) (y : Session) : State :=
        { accepted h code s with courier := { s.courier with session := some y } }
      exec (.readManifest h) s
          = .next (settled h .ok
              ([.u8 x.window.1, .u8 list.length]
                ++ list.flatMap (fun b => [.u32 ((bagOf s b).tag.getD 0), .value (valueOf s (holding s (.bag b)))])
                ++ [.u16 (manifestChecksum s x.window).toNat])
              (with' 0x61 { x with idle := 0, manifestSent := true, checksum := some (manifestChecksum s x.window) }))
      ∧ (∀ (tag k : Nat) (b : BagIx), tag ≤ 99999999 → list[k]? = some b → (bagOf s b).tag = some tag →
          (∀ j d, j < k → list[j]? = some d → (bagOf s d).tag ≠ some tag) →
        exec (.scanBag h tag) s
          = .next (settled h .ok
              [.u8 (k + 1), .u8 (list.filter fun d => decide (d ∉ x.scanned) && decide (d ≠ b)).length]
              (with' 0x62 { x with idle := 0, scanned := if b ∈ x.scanned then x.scanned else x.scanned ++ [b] })))
      ∧ (∀ tag : Nat, tag ≤ 99999999 → (∀ d ∈ list, (bagOf s d).tag ≠ some tag) →
        (x.errors + 1 < 3 →
          exec (.scanBag h tag) s
            = .next (settled h .unknownTag [] (with' 0x62 { x with idle := 0, errors := x.errors + 1 })))
        ∧ (3 ≤ x.errors + 1 →
          exec (.scanBag h tag) s
            = .next (replied h .unknownTag [] (abortSession .scanErrors { x with idle := 0, errors := x.errors + 1 }
                (with' 0x62 { x with idle := 0, errors := x.errors + 1 })))))
      ∧ exec (.depart h) s
          = .next (replied h .ok [] (abortSession .depart { x with idle := 0 } (accepted h 0x65 s))))
  ∧ ∀ (s : State) (x : Session) (cause : AbortCause),
      let t := abortSession cause x s
      let listed := (windowOf s x.window).staged
      let unstages := (windowOf s x.window).unstagePending = true
      let code := match cause with
        | .depart => 0
        | .idle => 1
        | .scanErrors => 2
        | .linkReset => 3
        | .powerReturn => 4
      (∀ b,
        let kept := if b ∈ x.inbound then BagRec.free else bagOf s b
        bagOf t b = if unstages ∧ b ∈ listed then { kept with state := .closed, window := none } else kept)
      ∧ (∀ w, windowOf t w =
          if w = x.window ∧ unstages then { windowOf s w with staged := [], unstagePending := false } else windowOf s w)
      ∧ (∀ c, c ≠ x.comp → compOf t c = compOf s c)
      ∧ ((compOf s x.comp).door = .closed → compOf t x.comp = { compOf s x.comp with hold := false, latch := .engaged })
      ∧ ((compOf s x.comp).door = .opened →
          compOf t x.comp = { compOf s x.comp with hold := false, heldTimer := some 0, heldRaised := false })
      ∧ (∀ y, look t.recon.reported y = true ↔ look s.recon.reported y = true
          ∨ (look s.recon.pending y = true ∧ (trayOf s y).state = .counted ∧ destinationOf s y ≠ none))
      ∧ t = { s with
          courier := { s.courier with session := none, bags := t.courier.bags, windows := t.courier.windows }
          safe := { s.safe with comps := t.safe.comps }
          recon := { s.recon with reported := t.recon.reported }
          float := { s.float with retryDue := s.float.retryDue + (if reserve s = none then 0 else 1) }
          ports := (raise .handoverAborted (.window x.window) [.u8 code, .u8 listed.length, .u8 x.inbound.length] s).ports
          event := { signals := s.event.signals ++ [.sessionPass], reported := true } }

/-- DECLARE INBOUND and CONFIRM HANDOVER (R170 to R172): an ANNOUNCED bag of the session; and, where the checksum agrees, every
bag is scanned and every movement passes, the staged bags HANDED, the inbound bags RECEIVED, the session ended (R174) and
HANDOVER_DONE raised with its figures. Its movements are a HANDOVER_OUT of each staged bag's whole holding and then a RECEIVE_IN
of the zero vector for each inbound bag, in the order of the lists, each with its entry; the outflow gains the bags' counts. A
confirmation of no movements under MEMORY_SUSPECT is read from R171 (log 21). That HANDOVER_DONE comes after the notices of the
movements (log 37), and numbers of bags in one byte (log 35), are the model's choice. -/
def Obligations.HandoverConfirmed : Prop :=
  (∀ (s : State) (h : Req) (x : Session), courierReady s h = true → s.courier.session = some x →
    (∀ (tag : Nat) (v : Counts) (b : BagIx), tag ≤ 99999999 → countsInRange v →
        (∀ i : DenomIx, (look s.store.denoms i).status = .unused → look v i = 0) → (∃ i : DenomIx, look v i ≠ 0) →
        x.inbound.length < 8 → (∀ d, (bagOf s d).state = .free ∨ (bagOf s d).tag ≠ some tag) →
        (bagOf s b).state = .free → (∀ d : BagIx, d < b → (bagOf s d).state ≠ .free) →
      exec (.declareInbound h tag (.ok v)) s
        = .next (settled h .ok [.u8 b.1, .value (valueOf s v)]
            { accepted h 0x63 s with courier := { s.courier with
              bags := put s.courier.bags b
                { dir := some .inbound, state := .announced, tag := some tag, location := some x.comp
                  declared := some { vec := v, value := valueOf s v }, window := some x.window }
              session := some { x with idle := 0, inbound := x.inbound ++ [b] } } }))
    ∧ (∀ k : BitVec 16, x.manifestSent = true → x.checksum = some k → manifestChecksum s x.window = k →
        (∀ b ∈ (windowOf s x.window).staged, b ∈ x.scanned) →
        (s.retention.suspect = false ∨ handoverMoves x s ≠ []) →
        (handoverMoves x s = [] ∨ checkEvent (handoverMoves x s).length (handoverMoves x s) s = .pass) →
      let y := { x with idle := 0 }
      exec (.confirmHandover h k) s
        = .next (replied h .ok (handoverFigures y (accepted h 0x64 s)) (confirmed y (accepted h 0x64 s)))))
  ∧ ∀ (s : State) (x : Session),
      let t := confirmed x s
      t.courier.session = none ∧ (windowOf t x.window).staged = []
        ∧ (∀ b ∈ x.inbound, (bagOf t b).state = .received)
        ∧ (∀ b ∈ (windowOf s x.window).staged, b ∉ x.inbound →
            (bagOf t b).state = .handed ∧ (bagOf t b).location = none ∧ (bagOf t b).tag = (bagOf s b).tag)
        ∧ t.store.compHold = s.store.compHold ∧ t.store.tillHold = s.store.tillHold ∧ t.store.trayHold = s.store.trayHold
        ∧ t.store.journal.entries.length
            = s.store.journal.entries.length + (windowOf s x.window).staged.length + x.inbound.length
        ∧ (let list := (windowOf s x.window).staged
          let none' : MoveFlags := { manual := false, diverted := false, uncertain := false, saturated := false }
          let out (b : BagIx) : Movement :=
            { kind := .handoverOut, src := some (.bag b), dst := none, vec := holding s (.bag b), port := .courier, ops := []
              flags := none', held := false }
          let in' (b : BagIx) : Movement :=
            { kind := .receiveIn, src := none, dst := some (.bag b), vec := Counts.zero, port := .courier, ops := []
              flags := none', held := false }
          let entry (m : Movement × Nat) : JournalEntry :=
            { seq := seqAfter^[m.2] s.store.journal.nextSeq, day := s.day.number, time := s.day.clock, kind := m.1.kind
              src := m.1.src, dst := m.1.dst, value := valueOf s m.1.vec
              items := ((List.finRange 16).filter fun i => look m.1.vec i ≠ 0).map fun i => (i, look m.1.vec i)
              port := .courier, ops := [], flags := none', audit := false }
          handoverMoves x s = list.map out ++ x.inbound.map in'
          ∧ t.store.journal.entries = s.store.journal.entries ++ (handoverMoves x s).zipIdx.map entry
          ∧ (∀ i : DenomIx, look t.store.outflow i
              = look s.store.outflow i + (list.map fun b => look (holding s (.bag b)) i).sum)
          ∧ t.store.inflow = s.store.inflow ∧ t.store.base = s.store.base ∧ t.store.totals = s.store.totals
          ∧ (∀ b, b ∉ list → holding t (.bag b) = holding s (.bag b))
          ∧ (list.Nodup → ∀ b ∈ list, holding t (.bag b) = Counts.zero))
        ∧ (let list := (windowOf s x.window).staged
          let n := list.length + x.inbound.length
          let first := s.store.journal.nextSeq
          handoverFigures x s =
            [.u8 list.length, .value (list.map fun b => valueOf s (holding s (.bag b))).sum, .u8 x.inbound.length,
              .value (x.inbound.map fun b => ((bagOf s b).declared.map (·.value)).getD 0).sum,
              .u32 (if n = 0 then 0 else first), .u32 (if n = 0 then 0 else seqAfter^[n - 1] first)])
        ∧ t.ports = (raise .handoverDone (.window x.window) (handoverFigures x s)
            (storeEvent (handoverMoves x s) false s)).ports
        ∧ (∀ c, c ≠ x.comp → compOf t c = compOf s c)
        ∧ ((compOf s x.comp).door = .closed → compOf t x.comp = { compOf s x.comp with hold := false, latch := .engaged })
        ∧ ((compOf s x.comp).door = .opened →
            compOf t x.comp = { compOf s x.comp with hold := false, heldTimer := some 0, heldRaised := false })
        ∧ t.event = { signals := s.event.signals ++ [.sessionPass], reported := true }

/-! ## The journal and the reads -/

/-- READ JOURNAL and ARCHIVE taken (R182, R186, R187): the read starts at the number named where it lies in the list, at the
oldest entry for a number below it and nowhere for one beyond it; it carries as many whole entries as the maximum and the 218
bytes left of a payload allow; an entry's fields and their bytes (R204, R205); and the read changes nothing. ARCHIVE frees the
entries up to a number in the list, all of them for a number beyond it, none for one below it, and compares the marks. The held
count in one byte, and ARCHIVE's new oldest number as four bytes of 0 where the list is empty and its number of entries freed in
two bytes, are the model's choice (log 35). -/
def Obligations.JournalRequests : Prop :=
  let vector (e : JournalEntry) : Counts := e.items.foldl (fun v p => put v p.1 p.2) Counts.zero
  let items (v : Counts) : List (DenomIx × Int) := ((List.finRange 16).filter fun i => look v i ≠ 0).map fun i => (i, look v i)
  let size (e : JournalEntry) : Nat := 26 + 3 * (items (vector e)).length
  (∀ (s : State) (h : Req), officeReady s h = true →
    let es := s.store.journal.entries
    (∀ (start maximum k : Nat) (all : List JournalEntry), 1 ≤ start → start ≤ 4294967295 → 1 ≤ maximum → maximum ≤ 255 →
      ((es = [] ∧ all = [])
        ∨ ∃ oldest newest, es.head? = some oldest ∧ es.getLast? = some newest
          ∧ ((forward oldest.seq start < es.length ∧ all = es.drop (forward oldest.seq start))
            ∨ (es.length ≤ forward oldest.seq start ∧ forward newest.seq start ≤ 2147483647 ∧ all = [])
            ∨ (es.length ≤ forward oldest.seq start ∧ 2147483647 < forward newest.seq start ∧ all = es))) →
      let part := all.take k
      k ≤ maximum → k ≤ all.length → ((all.take k).map size).sum ≤ 218 →
      (k < maximum → k < all.length → 218 < ((all.take (k + 1)).map size).sum) →
      exec (.readJournal h start maximum) s
        = .next (settled h .ok
            ([.u16 (occupancy s), .u8 s.store.journal.held, .u32 ((es.head?.map (·.seq)).getD 0),
              .u32 ((es.getLast?.map (·.seq)).getD 0), .u32 s.store.journal.nextSeq, .u8 part.length,
              .u8 (if part.length < all.length then 1 else 0)] ++ part.flatMap entryFields)
            (accepted h 0x70 s)))
    ∧ ∀ (seq n : Nat), 1 ≤ seq → seq ≤ 4294967295 →
        ((es = [] ∧ n = 0)
          ∨ ∃ oldest newest, es.head? = some oldest ∧ es.getLast? = some newest
            ∧ ((forward oldest.seq seq < es.length ∧ n = forward oldest.seq seq + 1)
              ∨ (es.length ≤ forward oldest.seq seq ∧ forward newest.seq seq ≤ 2147483647 ∧ n = es.length)
              ∨ (es.length ≤ forward oldest.seq seq ∧ 2147483647 < forward newest.seq seq ∧ n = 0))) →
        let t := journalMarks (occupancy s)
          { accepted h 0x71 s with
            store := { s.store with journal := { s.store.journal with entries := es.drop n } } }
        exec (.archive h seq) s
          = .next (settled h .ok
              [.u16 n, .u32 (((es.drop n).head?.map (·.seq)).getD 0), .u16 (occupancy t)] t))
  ∧ (∀ v : Counts, (items v).foldl (fun v p => put v p.1 p.2) Counts.zero = v)
  ∧ ∀ e : JournalEntry,
    let kind : Nat := match e.kind with
      | .issue => 1
      | .topup => 2
      | .countOut => 3
      | .countResult => 4
      | .post => 5
      | .transfer => 6
      | .adjust => 7
      | .bagFill => 8
      | .handoverOut => 9
      | .receiveIn => 10
    let port : Nat := match e.port with
      | .office => 1
      | .till => 2
      | .courier => 3
    let place (c : Option Container) : List Byte := match c with
      | none => [0#8, 0#8]
      | some (.till i) => [1#8, byteOf i.1]
      | some (.comp i) => [2#8, byteOf i.1]
      | some (.tray i) => [3#8, byteOf i.1]
      | some (.bag i) => [4#8, byteOf i.1]
    let flags := bitSet [e.flags.manual, e.flags.diverted, e.flags.uncertain, e.flags.saturated, e.audit]
    let amount := min e.value.natAbs 999999999
    entryFields e =
      [.u32 e.seq, .u16 e.day, .u32 e.time, .u8 kind, .container e.src, .container e.dst,
        if e.kind = .adjust then .signed e.value else .value e.value,
        .u8 port, .u16 (e.ops[0]?.getD 0), .u16 (e.ops[1]?.getD 0), .u8 flags, .items (vector e)]
    ∧ ((entryFields e).flatMap fieldBytes).length = size e
    ∧ (0 ≤ e.value ∨ e.kind = .adjust → (entryFields e).flatMap fieldBytes
        = bytes4 e.seq ++ bytes2 e.day ++ bytes4 e.time ++ [byteOf kind] ++ place e.src ++ place e.dst
          ++ bytes4 (amount + (if 999999999 < e.value.natAbs then 2147483648 else 0) + (if e.value < 0 then 1073741824 else 0))
          ++ [byteOf port] ++ bytes2 (e.ops[0]?.getD 0) ++ bytes2 (e.ops[1]?.getD 0) ++ [byteOf flags]
          ++ byteOf (items (vector e)).length
            :: (items (vector e)).flatMap fun p => byteOf (p.1.1 + if p.2 < 0 then 128 else 0) :: bytes2 p.2.natAbs)

/-- The reads (R16, R41, R68, R95, R112, R113, R143, R160, R178, R197, R201): each is answered OK with the fields its rule lists,
and changes nothing; a till, tray, bag or window out of range is BAD_OPERAND. READ STATUS gives the slots and the queue of the
asking port, its own slot TAKEN; READ WINDOW and READ SESSION give the badge and the record indices to the Office Port alone; READ
HOLDING of a container other than a till is NOT_PERMITTED on the Till Port. An enumerated field is the position of its name in the
list of its record's table (R204), and the lists are written out last. The model's choices: one byte before a list for its length,
codes of names that no record's table lists, totals as value fields and a waiter's request as its request code (log 6); yes or no
and small numbers in a byte, and the places that the rules leave open (log 35); BAD_OPERAND of READ PROFILE outside P0 to P7 (log
39). -/
def Obligations.ReadsChangeNothing : Prop :=
  let u8 : Nat → Field := .u8
  let u16 : Nat → Field := .u16
  let u32 : Nat → Field := .u32
  let val : Int → Field := .value
  let sgn : Int → Field := .signed
  let its : Counts → Field := .items
  let box : Option Container → Field := .container
  let flag (b : Bool) : Field := u8 (if b = true then 1 else 0)
  let maybe (o : Option (List Field)) : List Field := match o with
    | some fs => u8 1 :: fs
    | none => [u8 0]
  let list (l : List (List Field)) : List Field := u8 l.length :: l.flatten
  let words (o : Option Nat) : List Field := maybe (o.map fun n => [u32 n])
  let worths (o : Option Nat) : List Field := maybe (o.map fun (n : Nat) => [val n])
  let hold (x : HoldReasons) : Field := u8 (bitSet [x.undeclared, x.pendingPickups, x.outside, x.gross, x.uncertain])
  let last (o : Option LastResult) : List Field :=
    maybe (o.map fun x => [u8 (position classNames x.cls), sgn x.variance, val x.allowance, u32 x.time])
  let count (o : Option CountNumber) : List Field := maybe (o.map fun c => [u16 c.number, u16 c.day])
  let source : Source → List Field := fun
    | .drawer i n => [u8 0, u8 i.1, u16 n]
    | .pouch i n k => [u8 1, u8 i.1, u16 n, u8 k]
    | .inbound b => [u8 2, u8 b.1]
    | .compartment c => [u8 3, u8 c.1]
    | .loose => [u8 4]
  let reason : AccessReason → Nat := fun
    | .session => 0
    | .countOut => 1
    | .audit => 2
  let bag (r : BagRec) : List Field :=
    maybe (r.dir.map fun d => [u8 (position directionNames d)]) ++ [u8 (position bagStateNames r.state)] ++ words r.tag
      ++ maybe (r.location.map fun c => [u8 c.1]) ++ maybe (r.declared.map fun d => [its d.vec, val d.value])
      ++ maybe (r.window.map fun w => [u8 w.1])
  (∀ (s : State) (h : Req), ready s h = true →
    let gives (cmd : Instr) (code : Nat) (rs : List Field) := exec cmd s = .next (settled h .ok rs (accepted h code s))
    let outside (cmd : Instr) (code : Nat) := exec cmd s = .next (settled h .badOperand [] (accepted h code s))
    let worth (v : Counts) : List Field := [its v, val (valueOf s v)]
    let p := h.port
    let toOffice (fs : List Field) : List Field := if p = .office then fs else []
    gives (.readStatus h) 0x80
      ([u8 (position dayStateNames s.day.state), u16 s.day.number, u32 s.day.clock, flag s.retention.suspect,
          flag s.day.clockLimit, flag s.safe.frozen, u8 (position planStateNames s.day.planState), u8 s.day.pointer,
          u8 (position stationNames s.count.station), u16 s.count.faults, u16 s.count.recovered,
          u8 (position trayStateNames (trayOf s 0).state), u8 (position trayStateNames (trayOf s 1).state)]
        ++ maybe (s.courier.session.map fun x => [u8 x.window.1]) ++ [u16 (occupancy s), u8 s.store.journal.held]
        ++ (List.finRange 8).flatMap (fun (tag : Tag) =>
            let state := if tag = h.tag then SlotState.taken else (slotOf s p tag).state
            u8 (position slotStateNames state) :: (match state with
              | .parked =>
                (match s.float.waiters.find? fun w => w.port == p && w.tag == tag,
                    s.count.waiters.find? fun w => w.port == p && w.tag == tag,
                    s.safe.waiters.find? fun w => w.port == p && w.tag == tag with
                | some w, _, _ =>
                  (match w.park with
                    | .stock => [u8 0, box ((reserve s).map .comp)]
                    | .access r c => [u8 1, u8 (reason r), box (some c)]) ++ [u32 w.elapsed]
                | none, some w, _ =>
                  (match w.park, w.ask with
                    | .counter, _ => [u8 2, box none]
                    | .tray, .start _ y => [u8 3, box (y.map .tray)]
                    | .tray, .recount y => [u8 3, box (some (.tray y))]) ++ [u32 w.elapsed]
                | none, none, some w =>
                  (if w.req.isPost = true then [u8 4, box (some w.container)]
                    else [u8 1, u8 (reason w.reason), box (some w.container)]) ++ [u32 w.elapsed]
                | none, none, none => [])
              | .running => (match s.count.running with
                | some r => [u8 r.tray.1]
                | none => [])
              | .free | .taken | .answered => []))
        ++ [u8 (portOf s p).notices.length, flag (portOf s p).dropped])
    ∧ (p = .office →
      gives (.readPosition h) 0x83
        ([u8 (position dayStateNames s.day.state), u16 s.day.number]
          ++ (List.finRange 16).flatMap (fun i => [sgn (look s.store.base i), sgn (look s.store.inflow i),
              sgn (look s.store.outflow i), sgn (officeSum s i)])
          ++ [sgn (valueOf s s.store.base), sgn (valueOf s s.store.inflow), sgn (valueOf s s.store.outflow),
              sgn (valueOf s (Vector.ofFn fun i => officeSum s i))]
          ++ (let x := s.store.totals
            [val x.overTotal, val x.shortTotal, sgn x.custody, val x.floatCount, val x.floatValue,
              val x.topupCount, val x.topupValue, val x.settled.balanced, val x.settled.surplus,
              val x.settled.short, val x.settled.outside, val x.settled.gross]))
      ∧ gives (.readDenominations h) 0x84
        (s.store.denoms.toList.flatMap fun d =>
          maybe (d.face.map fun n => [u16 n]) ++ maybe (d.form.map fun f => [u8 (position formNames f)])
            ++ maybe (d.pack.map fun n => [u16 n]) ++ maybe (d.unitMass.map fun n => [u16 n])
            ++ [u8 (position denomStatusNames d.status)])
      ∧ gives (.readPlan h) 0x85
        ([u8 (position dayStateNames s.day.state), u16 s.day.number, u32 s.day.clock, flag s.day.clockLimit,
            u8 (position planStateNames s.day.planState), u8 s.day.pointer]
          ++ s.day.plan.toList.flatMap (fun e => u32 e.time :: (match e.action with
            | .windowOpen w => [u8 0, u8 w.1]
            | .windowClose w => [u8 1, u8 w.1]
            | .openRange low high => [u8 2, u8 low.1, u8 high]
            | .lockAll => [u8 3]
            | .freeze => [u8 4]
            | .pickupRound => [u8 5]
            | .stop => [u8 6]))
          ++ [u8 (s.day.plan.toList.findIdx fun e => e.action == .stop)])
      ∧ (∀ y : TrayIx,
        let r := trayOf s y
        gives (.readTray h y.1) 0x89
          ([u8 (position trayStateNames r.state)] ++ maybe (r.source.map source) ++ [its r.prior, u16 r.rejects,
              u8 (bitSet [r.flags.manual, decide (r.flags.uncertain ≠ 0), r.flags.saturated]), u16 r.flags.uncertain.toNat]
            ++ count r.count ++ [u8 r.rejectLimit] ++ worth (holding s (.tray y))
            ++ [u8 (position stationNames s.count.station), u16 s.count.faults, u16 s.count.recovered,
                u32 s.count.stepLimit, u32 s.count.waitLimit]
            ++ list (s.count.waiters.map fun w =>
                [u8 w.tag.1]
                  ++ (match w.ask with
                    | .start arg _ => u8 0x30 :: ((sourceOf s arg).map source).getD []
                    | .recount u => [u8 0x31, u8 u.1])
                  ++ [u8 (match w.park with | .counter => 2 | .tray => 3), u32 w.elapsed])))
      ∧ gives (.readSafe h) 0x8B
        ((List.finRange 16).flatMap (fun (c : CompIx) =>
            let r := compOf s c
            [u8 (position compRoleNames r.role), val r.cap] ++ maybe (r.link.map fun d => [u8 d.1])
              ++ [u8 (position latchNames r.latch)] ++ words r.latchTimer ++ [flag r.hold, u8 (position doorNames r.door)]
              ++ words r.heldTimer ++ [u8 (position alarmNames r.alarm)] ++ maybe (r.outForCount.map fun y => [u8 y.1])
              ++ [val (valueOf s (holding s (.comp c))), val (capLoad s c)]
              ++ list (((List.finRange 32).filter fun b => (bagOf s b).location == some c).map fun b =>
                  u8 b.1 :: bag (bagOf s b) ++ worth (holding s (.bag b))))
          ++ [u8 s.safe.range.low, u8 s.safe.range.high, flag s.safe.frozen, u32 s.safe.waitLimit, u32 s.safe.heldLimit,
              u32 s.recon.destLimit]
          ++ list (s.safe.waiters.map fun w =>
              [u8 w.tag.1,
                u8 (match w.req with
                  | .startCount _ _ _ => 0x30
                  | .manualCount _ _ _ => 0x32
                  | .postTray _ _ => 0x35
                  | .transfer _ _ _ => 0x44
                  | .adjust _ _ => 0x45
                  | .fillBag _ _ _ => 0x51),
                u8 (if w.req.isPost = true then 4 else 1), u8 (reason w.reason), box (some w.container),
                u32 w.elapsed]))
      ∧ (∀ b : BagIx, gives (.readBag h b.1) 0x8C (bag (bagOf s b) ++ worth (holding s (.bag b))))
      ∧ gives (.readRouting h) 0x8F
        (s.ports.routing.toList.flatMap fun r =>
          [u8 (bitSet [r.ports.office, r.ports.till, r.ports.courier]), u8 r.priority])
      ∧ (∀ n, 2 ≤ n → outside (.readTray h n) 0x89) ∧ (∀ n, 32 ≤ n → outside (.readBag h n) 0x8C)
      ∧ ∀ n, 8 ≤ n → outside (.readProfile h n) 0x86)
    ∧ (p ≠ .courier →
      (∀ i : TillIx,
        let r := tillOf s i
        gives (.readTill h i.1) 0x87
          ([u8 (position tillStateNames r.state), u16 r.session] ++ maybe (r.profile.map fun q => [u8 q.1])
            ++ [u16 r.mask.toNat, val r.f, u8 r.topups, flag r.signedOff] ++ worths r.running ++ worths r.final
            ++ [val r.p, val r.limit, u8 r.cls.1, flag r.armed, hold r.hold] ++ last r.last
            ++ worth (holding s (.till i))
            ++ [val (max 0 (r.f + (r.running.getD 0 : Nat) - r.p
                - ((r.pouches.filter fun q => q.state ≠ .counted).map fun q => (q.declared : Int)).sum))]
            ++ list (r.pouches.map fun q =>
                [u8 q.number, val q.declared, u8 (position pouchStateNames q.state)]
                  ++ maybe (q.counted.map fun c => [val c, sgn (q.diff.getD 0)])))
        ∧ gives (.readResult h i.1) 0x88
          ([u8 (position tillStateNames r.state), hold r.hold] ++ last r.last
            ++ maybe ((drawerOf s i).map fun d =>
                [u16 d.session, val d.counted, u8 (bitSet [d.uncertain, d.saturated, d.manual])] ++ count d.count
                  ++ [u8 d.tray.1]
                  ++ maybe (d.classed.map fun k =>
                      [sgn k.expected, sgn k.variance, val k.allowance, u8 (position classNames k.cls)])
                  ++ list (d.acceptOps.map fun n => [u16 n]) ++ [flag (d.session == r.session)])
            ++ [val r.f] ++ worths r.final ++ [val r.p]))
      ∧ ∀ n, 64 ≤ n → outside (.readTill h n) 0x87 ∧ outside (.readResult h n) 0x88)
    ∧ (p ≠ .till →
      (∀ w : WindowIx,
        let r := windowOf s w
        gives (.readWindow h w.1) 0x8D
          ([u8 (position windowStateNames r.state)] ++ maybe (r.comp.map fun c => [u8 c.1])
            ++ [flag r.unstagePending, flag (sessionAt s w)]
            ++ list (r.staged.map fun b =>
                toOffice [u8 b.1] ++ [u32 ((bagOf s b).tag.getD 0), val (valueOf s (holding s (.bag b)))])
            ++ toOffice (words r.badge)))
      ∧ (∀ n, 4 ≤ n → outside (.readWindow h n) 0x8D)
      ∧ (s.courier.session = none → gives (.readSession h) 0x8E [u8 0])
      ∧ ∀ x, s.courier.session = some x →
        gives (.readSession h) 0x8E
          ([u8 1, u8 x.window.1, u8 x.comp.1, flag x.manifestSent] ++ maybe (x.checksum.map fun k => [u16 k.toNat])
            ++ [flag (x.checksum == some (manifestChecksum s x.window))]
            ++ list ((windowOf s x.window).staged.map fun b =>
                toOffice [u8 b.1] ++ [u32 ((bagOf s b).tag.getD 0), val (valueOf s (holding s (.bag b))),
                  flag (x.scanned.contains b)])
            ++ [u8 x.errors]
            ++ list (x.inbound.map fun b =>
                toOffice [u8 b.1] ++ [u32 ((bagOf s b).tag.getD 0), val (((bagOf s b).declared.map (·.value)).getD 0)])
            ++ [u32 (if p = .courier then 0 else x.idle), u32 s.courier.idleLimit] ++ toOffice [u32 x.badge])))
  ∧ (∀ (s : State) (h : Req) (c : Container),
      (officeReady s h = true ∨ (tillReady s h = true ∧ ∃ i, c = .till i)) →
      exec (.readHolding h (.ok c)) s
        = .next (settled h .ok [its (holding s c), val (valueOf s (holding s c))] (accepted h 0x82 s)))
  ∧ (∀ (s : State) (h : Req) (c : Container), tillReady s h = true → (∀ i, c ≠ .till i) →
      exec (.readHolding h (.ok c)) s = .next (settled h .notPermitted [] (accepted h 0x82 s)))
  ∧ (∀ (s : State) (h : Req), officeReady s h = true →
      (∀ p : ProfileIx, (look s.float.profiles p).defined = true →
        let q := look s.float.profiles p
        exec (.readProfile h p.1) s
          = .next (settled h .ok [u8 1, val q.target, its q.template, u16 q.mask.toNat] (accepted h 0x86 s)))
      ∧ (∀ p : ProfileIx, (look s.float.profiles p).defined = false →
        exec (.readProfile h p.1) s = .next (settled h .ok [u8 0] (accepted h 0x86 s)))
      ∧ exec (.readTolerance h) s
          = .next (settled h .ok
              ([val (look s.recon.classes 0).a, u16 (look s.recon.classes 0).p, val (look s.recon.classes 1).a,
                u16 (look s.recon.classes 1).p, val (look s.recon.classes 2).a, u16 (look s.recon.classes 2).p,
                val (look s.recon.classes 3).a, u16 (look s.recon.classes 3).p]
                ++ [flag s.recon.autoPost, u32 s.recon.destLimit]) (accepted h 0x8A s)))
  ∧ dayStateNames = [.closed, .opened, .closing] ∧ planStateNames = [.stopped, .running, .held, .ended]
  ∧ stationNames = [.idle, .running, .collecting, .down] ∧ trayStateNames = [.empty, .counting, .counted, .invalid]
  ∧ slotStateNames = [.free, .taken, .parked, .running, .answered] ∧ formNames = [.note, .coin]
  ∧ denomStatusNames = [.unused, .active, .retired]
  ∧ tillStateNames = [.idle, .trading, .returned, .counting, .held, .suspended]
  ∧ pouchStateNames = [.outstanding, .received, .counting, .counted]
  ∧ classNames = [.balanced, .surplus, .short, .outside, .gross]
  ∧ compRoleNames = [.floatReserve, .takings, .changeFund, .outbound, .general] ∧ latchNames = [.engaged, .released]
  ∧ doorNames = [.closed, .opened] ∧ alarmNames = [.none, .forced, .held] ∧ directionNames = [.outbound, .inbound]
  ∧ bagStateNames = [.free, .opened, .closed, .staged, .handed, .announced, .received, .counting, .counted]
  ∧ windowStateNames = [.planned, .opened, .closed, .missed]

/-! ## Withdrawal, frames and lines -/

/-- WITHDRAW (R54, R90, R132, R194): of the tags named, those PARKED or RUNNING are withdrawn in ascending order and answered
WITHDRAWN, the rest are reported. A parked request leaves its waiter list. A running count is abandoned: ABANDON is sent, the
station is IDLE with its faults as they were, the tray INVALID with its holding and source, the held journal entry released, no
notice raised, and a pass over the count waiters follows. The command's own answer before those of that pass is the model's choice
(log 9). -/
def Obligations.WithdrawEndsRequests : Prop :=
  (∀ (s : State) (h : Req) (tags : BitVec 8), ready s h = true →
    let a := accepted h 0x81 s
    let named := (List.finRange 8).filter fun t => tags.getLsbD t.1
    let out := named.filter fun t => decide ((slotOf a h.port t).state = .parked ∨ (slotOf a h.port t).state = .running)
    let rest := named.filter fun t => decide ((slotOf a h.port t).state ≠ .parked ∧ (slotOf a h.port t).state ≠ .running)
    exec (.withdraw h tags) s
      = .next (replied h .ok [.u8 (tagBits out), .u8 (tagBits rest)]
          (out.foldl (fun x t => withdrawTag h.port t x) a)))
  ∧ (∀ (s : State) (p : Port) (tag : Tag), (slotOf s p tag).state = .parked →
    let t := withdrawTag p tag s
    (slotOf t p tag).state = .answered
      ∧ (portOf t p).responses = (portOf s p).responses
          ++ framesOf { tag := tag.1, code := (slotOf s p tag).code, outcome := .withdrawn, detail := 0, results := [] }
      ∧ (∀ w ∈ t.float.waiters, ¬ (w.port = p ∧ w.tag = tag)) ∧ (∀ w ∈ t.count.waiters, ¬ (w.port = p ∧ w.tag = tag))
      ∧ (∀ w ∈ t.safe.waiters, ¬ (w.port = p ∧ w.tag = tag))
      ∧ t.store = s.store ∧ t.day = s.day ∧ t.recon = s.recon ∧ t.courier = s.courier)
  ∧ ∀ (s : State) (p : Port) (tag : Tag) (r : RunningCount), (slotOf s p tag).state = .running →
    s.count.running = some r → r.port = p → r.tag = tag →
    let t := withdrawTag p tag s
    t = answer p tag .withdrawn 0 [] (abandoned r s)
      ∧ (slotOf t p tag).state = .answered
      ∧ (portOf t p).responses = (portOf s p).responses
          ++ framesOf { tag := tag.1, code := (slotOf s p tag).code, outcome := .withdrawn, detail := 0, results := [] }
      ∧ t.count.exchange = some .abandon ∧ t.count.selectWaiting = false ∧ t.count.station = .idle ∧ t.count.running = none
      ∧ t.count.faults = s.count.faults ∧ t.count.waiters = s.count.waiters
      ∧ trayOf t r.tray = { trayOf s r.tray with state := .invalid } ∧ (∀ o, o ≠ r.tray → trayOf t o = trayOf s o)
      ∧ t.store.journal.held = s.store.journal.held - 1 ∧ t.store.journal.entries = s.store.journal.entries
      ∧ (∀ c, holding t c = holding s c) ∧ (∀ q, (portOf t q).notices = (portOf s q).notices)
      ∧ t.event.signals = s.event.signals ++ [.countPass] ∧ t.event.reported = true
      ∧ t.day = s.day ∧ t.float = s.float ∧ t.recon = s.recon ∧ t.safe = s.safe ∧ t.courier = s.courier

/-- Frames and lines of the ports (R188 to R192, R195, R202, R205): a discarded frame, an unknown code, a malformed tag answered
once while its answer waits, the link reset and the return from it, and the frame just sent, whose last part frees the slot. At
a reset the owners drop the port's requests with no answer: its waiters leave their lists, a count it runs is abandoned, and the
Courier Port's reset ends the session (R54, R92, R132, R177). A reset in BREAK and a tag of 0 to 7 are read from R190 and R202,
and that a port found in BREAK at power return or cold start takes no reset is the model's choice (log 34). -/
def Obligations.PortEvents : Prop :=
  (∀ (s : State) (p : Port), s.retention.supply = .good →
    (∀ cause, exec (.frameDiscarded p cause) s = .next (ended (begun s)))
    ∧ ((portOf s p).link ≠ .brk →
      exec (.linkReset p) s
        = .next (finish (dropRequests p (modPort p (fun r => { r with
            link := .brk, slots := Vector.replicate 8 { state := .free, code := 0 }, responses := [], notices := []
            dropped := false, line := none }) (begun s)))))
    ∧ ((portOf s p).link = .brk → exec (.linkReset p) s = .next s
        ∧ exec (.linkReturnsMarking p) s = .next (ended (modPort p (fun r => { r with link := .quiet }) (begun s))))
    ∧ (∀ (r : Response) (k : Nat) (t : Tag), (portOf s p).line = some (.response r k) → r.tag = t.1 →
      (lastPart r k = true →
        exec (.frameTransmitted p) s
          = .next (ended (modPort p (fun x => { x with
              line := none, slots := put x.slots t { look x.slots t with state := .free } }) (begun s))))
      ∧ (lastPart r k = false →
        exec (.frameTransmitted p) s = .next (ended (modPort p (fun x => { x with line := none }) (begun s)))))
    ∧ (∀ f, (portOf s p).line = some f → (∀ r k, f ≠ .response r k) →
      exec (.frameTransmitted p) s = .next (ended (modPort p (fun x => { x with line := none }) (begun s)))))
  ∧ (∀ (s : State) (h : Req) (code : Nat), ready s h = true →
      exec (.unknownRequestCode h.port h.tag code) s = .next (settled h .badOperand [] (accepted h code s)))
  ∧ (∀ (s : State) (p : Port) (tag code : Nat), canReceive s p = true → 7 < tag →
      (responseWaiting (portOf s p) tag = false →
        exec (.badTagFrame p tag code) s
          = .next (ended (modPort p (fun r =>
              let reply : Response := { tag, code, outcome := .badOperand, detail := 0, results := [] }
              { r with responses := r.responses ++ framesOf reply }) (heard p (begun s)))))
      ∧ (responseWaiting (portOf s p) tag = true →
        exec (.badTagFrame p tag code) s = .next (ended (heard p (begun s)))))
  ∧ ∀ (s : State) (p : Port),
      let b := match s.count.running with
        | some r => if r.port = p then abandoned r s else s
        | none => s
      let t := { b with
        float := { b.float with waiters := b.float.waiters.filter fun w => w.port ≠ p }
        count := { b.count with waiters := b.count.waiters.filter fun w => w.port ≠ p }
        safe := { b.safe with waiters := b.safe.waiters.filter fun w => w.port ≠ p } }
      (p ≠ .courier ∨ s.courier.session = none → dropRequests p s = t)
      ∧ ∀ x, p = .courier → s.courier.session = some x → dropRequests p s = abortSession .linkReset x t

/-! ## The counting station -/

/-- The conversation (R72 to R74, R207): SELECT accepted leads to SET-UP with the note mask and the reject limit and starts the
step limit; SET-UP accepted rests the link; READY asks for STATUS; STATUS done asks for RESULT, a STOP fails the count with
its reason, and any other reply, one that fails its check among them, fails it with LINK_FAULT. READY outside its state is
disregarded (R73); a reply that no exchange awaits is so by inference (log 33). -/
def Obligations.StationConversation : Prop :=
  (∀ (s : State) (r : RunningCount), s.retention.supply = .good → s.count.running = some r →
    let fails (x : FaultReason) := finish (failCount x (begun s))
    (s.count.exchange = some .select →
      exec (.selectReply (frameOf 0xD1 [0x01#8])) s
        = .next (ended { begun s with count := { s.count with
            running := some { r with mask := noteMask s, step := some { elapsed := 0, limit := s.count.stepLimit } }
            exchange := some (.setUp r.tray (noteMask s) (trayOf s r.tray).rejectLimit) } })
      ∧ ∀ block, reply? 0xD1 1 block ≠ some [0x01#8] → exec (.selectReply block) s = .next (fails .linkFault))
    ∧ (∀ t m k, s.count.exchange = some (.setUp t m k) →
      exec (.setUpReply (frameOf 0xD2 [0x01#8])) s
        = .next (ended { begun s with count := { s.count with exchange := none } })
      ∧ ∀ block, reply? 0xD2 1 block ≠ some [0x01#8] → exec (.setUpReply block) s = .next (fails .linkFault))
    ∧ (s.count.station = .running → s.count.exchange = none → r.step ≠ none →
      exec .ready s
        = .next (ended { begun s with count := { s.count with
            station := .collecting, running := some { r with step := none }, exchange := some .status } }))
    ∧ (s.count.exchange = some .status →
      (∀ flags reason : Byte, flags.getLsbD 0 = false → flags.getLsbD 1 = true →
        exec (.statusReply (frameOf 0xD3 [flags, reason])) s
          = .next (ended { begun s with count := { s.count with exchange := some .result } }))
      ∧ (∀ flags : Byte, flags.getLsbD 0 = true →
        exec (.statusReply (frameOf 0xD3 [flags, 1#8])) s = .next (fails .jam)
        ∧ exec (.statusReply (frameOf 0xD3 [flags, 2#8])) s = .next (fails .rejectLimit)
        ∧ exec (.statusReply (frameOf 0xD3 [flags, 3#8])) s = .next (fails .feedFault)
        ∧ exec (.statusReply (frameOf 0xD3 [flags, 4#8])) s = .next (fails .scaleFault)
        ∧ ∀ reason : Byte, reason = 0#8 ∨ 4#8 < reason →
            exec (.statusReply (frameOf 0xD3 [flags, reason])) s = .next (fails .linkFault))
      ∧ (∀ flags reason : Byte, flags.getLsbD 0 = false → flags.getLsbD 1 = false →
        exec (.statusReply (frameOf 0xD3 [flags, reason])) s = .next (fails .linkFault))
      ∧ ∀ block, reply? 0xD3 2 block = none → exec (.statusReply block) s = .next (fails .linkFault))
    ∧ (s.count.station ≠ .running ∨ s.count.exchange ≠ none ∨ r.step = none →
      exec .ready s = .next (ended (begun s))))
  ∧ (∀ s : State, s.retention.supply = .good → s.count.running = none → exec .ready s = .next (ended (begun s)))
  ∧ (∀ (s : State) (block : List Byte), s.retention.supply = .good →
    let passed (c : Instr) := exec c s = .next (ended (begun s))
    (s.count.exchange ≠ some .select → passed (.selectReply block))
    ∧ ((∀ t m k, s.count.exchange ≠ some (.setUp t m k)) → passed (.setUpReply block))
    ∧ (s.count.exchange ≠ some .status → passed (.statusReply block))
    ∧ (s.count.exchange ≠ some .result → passed (.resultReply block))
    ∧ (s.count.exchange ≠ some .abandon → passed (.abandonReply block)))
  ∧ ∀ (type size : Nat) (block bs : List Byte), reply? type size block = some bs ↔
      bs.length = size ∧ payloadOf? type block = some bs

/-- RESULT's reply (R75, R86 to R88): a payload that passes is converted, notes by the mask and coins by weight, and completes the
count; a note count outside the mask or a weight at no coin in use faults; one that fails its check is
asked for once more, and a second failure fails the count; what a completion does, COUNT_DONE and the answer among it; and its
handover to the Reconciliation Unit by the kind of the source: the drawer result and the waiting reasons of a drawer (R98 to
R100), the pouch COUNTED and P (R106, R108, R109), the difference of an inbound bag or of a compartment with the custody total and
VARIANCE_NOTED (R110, R111), and the auto-post called for (R118, as the attempt of log 15). TILL_HELD with the remaining reason
alone is read from R106 (log 30). The entry carries the port and operator numbers of the request that started the count, and
UNCERTAIN and SATURATED where the tray has them, with the fields that `MovementApplied` writes out. That the Store's notices come
before COUNT_DONE is the model's choice, and that COUNT_DONE comes before the Reconciliation Unit's is read from R88 (log 37).
That the COUNT_OUT's number is answered as an optional field, absent where none was written, is the model's choice (log 35). -/
def Obligations.CountCompletes : Prop :=
  (∀ (s : State) (r : RunningCount), s.retention.supply = .good → s.count.running = some r →
    s.count.exchange = some .result →
    (∀ bs : List Byte, bs.length = 99 →
      let b := if r.reread then { begun s with count := { s.count with recovered := min 65535 (s.count.recovered + 1) } }
        else begun s
      (contentFault r.mask bs s = false →
        exec (.resultReply (frameOf 0xD4 bs)) s
          = .next (finish (completeCount (countedVector r.mask bs s) (min 65535 (threeAt bs 32)) (countedFlags r.mask bs s) b)))
      ∧ (contentFault r.mask bs s = true →
        exec (.resultReply (frameOf 0xD4 bs)) s = .next (finish (failCount .linkFault b))))
    ∧ ∀ block : List Byte, reply? 0xD4 99 block = none →
      (r.reread = false →
        exec (.resultReply block) s
          = .next (ended { begun s with count := { s.count with
              running := some { r with reread := true }, exchange := some .result } }))
      ∧ (r.reread = true → exec (.resultReply block) s = .next (finish (failCount .linkFault (begun s)))))
  ∧ (∀ (mask : BitVec 16) (bs : List Byte) (s : State),
    let three (k : Nat) : Nat := numberOf ((bs.drop (3 * k)).take 3)
    let coin (i : DenomIx) : Prop := (look s.store.denoms i).form = some .coin ∧ (look s.store.denoms i).status ≠ .unused
    (∀ k, threeAt bs k = three k)
    ∧ (∀ a b c : Byte, numberOf [a, b, c] = a.toNat * 65536 + b.toNat * 256 + c.toNat)
    ∧ (contentFault mask bs s = true ↔ ∃ i : DenomIx,
        (three i.1 ≠ 0 ∧ mask.getLsbD i.1 = false) ∨ (three (16 + i.1) ≠ 0 ∧ ¬ coin i))
    ∧ ∀ i : DenomIx,
      look (countedVector mask bs s) i = (convertIndex mask bs s i).count
      ∧ (mask.getLsbD i.1 = true → convertIndex mask bs s i
          = { count := min 65535 (three i.1), saturated := decide (65535 < three i.1), uncertain := false })
      ∧ (mask.getLsbD i.1 = false → coin i → convertIndex mask bs s i
          = convertCoin (three (16 + i.1)) ((look s.store.denoms i).unitMass.getD 1))
      ∧ (mask.getLsbD i.1 = false → ¬ coin i →
          convertIndex mask bs s i = { count := 0, saturated := false, uncertain := false }))
  ∧ (∀ (s : State) (r : RunningCount) (v : Counts) (rejects : Nat) (flags : TrayFlags), s.count.running = some r →
    let t := completeCount v rejects flags s
    let number : Field := .u16 (((trayOf s r.tray).count.map (·.number)).getD 0)
    let marks : Field := .u8 (bitSet [flags.manual, decide (flags.uncertain ≠ 0), flags.saturated])
    let source : List Field := match (trayOf s r.tray).source with
      | some (.drawer i n) => [.u8 0, .u8 i.1, .u16 n]
      | some (.pouch i n k) => [.u8 1, .u8 i.1, .u16 n, .u8 k]
      | some (.inbound b) => [.u8 2, .u8 b.1]
      | some (.compartment c) => [.u8 3, .u8 c.1]
      | some .loose => [.u8 4]
      | none => []
    let results : List Field :=
      [.u8 r.tray.1, number, .items v, .value (valueOf s v), .u16 rejects, marks, .u16 flags.uncertain.toNat]
        ++ (match r.outSeq with | some n => [.u8 1, .u32 n] | none => [.u8 0]) ++ [.u32 s.store.journal.nextSeq]
    let result : Movement :=
      { kind := .countResult, src := none, dst := some (.tray r.tray), vec := v, port := r.port, ops := r.ops, held := true
        flags := { manual := false, diverted := false, uncertain := decide (flags.uncertain ≠ 0), saturated := flags.saturated } }
    (∀ c, holding t c = if c = .tray r.tray then v else holding s c)
    ∧ trayOf t r.tray = { trayOf s r.tray with state := .counted, rejects, flags }
    ∧ (∀ o, o ≠ r.tray → trayOf t o = trayOf s o)
    ∧ t.count.station = .idle ∧ t.count.running = none ∧ t.count.faults = 0 ∧ t.count.exchange = none
    ∧ t.store.journal.held = s.store.journal.held - 1
    ∧ t.store.journal.entries = s.store.journal.entries ++ [entryOf result s]
    ∧ t.store.inflow = s.store.inflow.add (v.sub (holding s (.tray r.tray))) ∧ t.store.outflow = s.store.outflow
    ∧ t.store.base = s.store.base
    ∧ (slotOf t r.port r.tag).state = .answered ∧ t.day = s.day
    ∧ ∃ u, t = signal .countPass (handOver r.tray u)
      ∧ (∀ c, holding u c = if c = .tray r.tray then v else holding s c)
      ∧ trayOf u r.tray = { trayOf s r.tray with state := .counted, rejects, flags }
      ∧ u.float.tills = s.float.tills ∧ u.recon = s.recon ∧ u.courier = s.courier ∧ u.safe = s.safe
      ∧ u.store = (storeEvent [result] false s).store
      ∧ u.store.totals = s.store.totals ∧ u.store.denoms = s.store.denoms ∧ u.day = s.day
      ∧ (portOf u r.port).responses = (portOf s r.port).responses ++ framesOf
          { tag := r.tag.1, code := (slotOf s r.port r.tag).code, outcome := .ok, detail := 0, results }
      ∧ u.ports = (answer r.port r.tag .ok 0 results (raise .countDone (.tray r.tray)
          ([number] ++ source ++ [.value (valueOf s v), marks]) (storeEvent [result] false s))).ports)
  ∧ (∀ (s : State) (i : TillIx) (n k : Nat),
    (sourceOpen s (.drawer i n) = true ↔
      (tillOf s i).session = n ∧ ((tillOf s i).state = .counting ∨ (tillOf s i).state = .held))
    ∧ (sourceOpen s (.pouch i n k) = true ↔ (tillOf s i).session = n ∧ (tillOf s i).state ≠ .idle))
  ∧ (∀ (s : State) (t : TrayIx), (trayOf s t).source = none → handOver t s = s)
  ∧ ∀ (s : State) (t : TrayIx) (src : Source), (trayOf s t).source = some src →
    let u := handOver t s
    let counted := valueOf s (holding s (.tray t))
    let owed (x : State) : State :=
      if x.recon.autoPost = true then { x with recon := { x.recon with attemptDue := put x.recon.attemptDue t true } } else x
    (∀ i n, src = .drawer i n →
      let r := tillOf s i
      let d : DrawerResult :=
        { session := r.session, counted, uncertain := decide ((trayOf s t).flags.uncertain ≠ 0)
          saturated := (trayOf s t).flags.saturated, manual := (trayOf s t).flags.manual, count := (trayOf s t).count
          tray := t, classed := none, acceptOps := [] }
      let b : State := { s with recon := { s.recon with drawers := put s.recon.drawers i (some d) } }
      let h : HoldReasons :=
        { undeclared := decide (r.final = none), pendingPickups := r.pouches.any fun p => p.state ≠ .counted
          outside := false, gross := false, uncertain := false }
      (sourceOpen s src = false → u = s)
      ∧ (sourceOpen s src = true → r.state = .counting →
        (h.undeclared = true ∨ h.pendingPickups = true →
          u = report (raise .tillHeld (.till i)
            [.u8 (bitSet [h.undeclared, h.pendingPickups, false, false, false]), .value counted]
            (modTill i (fun r => { r with state := .held, hold := h }) b)))
        ∧ (h.undeclared = false → h.pendingPickups = false → u = runComputation i b))
      ∧ (sourceOpen s src = true → r.state = .held →
        (r.hold.undeclared = true ∨ r.hold.pendingPickups = true → u = b)
        ∧ (r.hold.undeclared = false → r.hold.pendingPickups = false →
          u = runComputation i
            (modTill i (fun r => { r with hold := { r.hold with outside := false, gross := false, uncertain := false } }) b))))
    ∧ (∀ i n k, src = .pouch i n k →
      (sourceOpen s src = false → u = owed s)
      ∧ (sourceOpen s src = true → ∀ p, pouch? (tillOf s i) k = some p →
        let entered (added : Int) := modTill i (fun r => { r with
          pouches := r.pouches.map fun q =>
            if q.number = k then { q with state := .counted, counted := some counted, diff := some (counted - q.declared) }
            else q
          p := r.p + added }) s
        (p.state = .counted → u = owed (evaluate i (entered (counted - p.counted.getD 0))))
        ∧ (p.state ≠ .counted →
          let e := evaluate i (report (entered counted))
          let last := (tillOf e i).state = .held ∧ (tillOf e i).hold.pendingPickups = true
            ∧ ∀ q ∈ (tillOf e i).pouches, q.state = .counted
          let f := modTill i (fun r => { r with hold := { r.hold with pendingPickups := false } }) e
          (¬ last → u = owed e)
          ∧ (last → (tillOf e i).hold.undeclared = false → u = owed (runComputation i f))
          ∧ (last → (tillOf e i).hold.undeclared = true →
            u = owed (raise .tillHeld (.till i)
              [.u8 (bitSet [true, false, (tillOf e i).hold.outside, (tillOf e i).hold.gross, (tillOf e i).hold.uncertain])] f)))))
    ∧ (∀ b, src = .inbound b →
      let declared := ((bagOf s b).declared.map (·.value)).getD 0
      let d := counted - declared
      bagOf u b = (if (bagOf s b).state = .counting then { bagOf s b with state := .counted } else bagOf s b)
      ∧ (∀ c, c ≠ b → bagOf u c = bagOf s c)
      ∧ u.store = { s.store with totals := { s.store.totals with
          custody := s.store.totals.custody + (d - (look s.recon.diffs t).getD 0) } }
      ∧ u.recon = { s.recon with diffs := put s.recon.diffs t (some d) } ∧ u.float = s.float
      ∧ (u.event.reported = true ↔ s.event.reported = true ∨ (bagOf s b).state = .counting)
      ∧ u.ports = (if d = 0 then s else raise .varianceNoted (.bag b)
          [.u32 ((bagOf s b).tag.getD 0), .value declared, .value counted, .signed d] s).ports)
    ∧ (∀ c, src = .compartment c →
      let prior := valueOf s (trayOf s t).prior
      let d := counted - prior
      u = { s with
        store := { s.store with totals := { s.store.totals with
          custody := s.store.totals.custody + (d - (look s.recon.diffs t).getD 0) } }
        recon := { s.recon with diffs := put s.recon.diffs t (some d) }
        ports := (if d = 0 then s else raise .varianceNoted (.comp c) [.value prior, .value counted, .signed d] s).ports })
    ∧ (src = .loose → u = owed s)

/-- The other ends of an exchange and of a count (R71, R73, R75, R76, R89): ABANDON's reply and its timeout, the timeout of
every other command, the step limit; and what a failure does to the tray, the station, the held entry and the request, which is
answered COUNT_FAULT with its detail (R205), the count waiters being answered COUNTER_DOWN after it where the station goes DOWN.
ABANDON after every LINK_FAULT, the order of the two notices of a second fault, and a step limit taken late, at its limit or
after, are the model's (logs 18, 24, 31, 33), and so is the code of the reason in the two notices, the detail code of R205 (log
6). -/
def Obligations.CountFails : Prop :=
  (∀ s : State, s.retention.supply = .good →
    (s.count.exchange = some .abandon →
      let past := ended { begun s with count := { s.count with
        exchange := if s.count.selectWaiting then some .select else none, selectWaiting := false } }
      (∀ block, exec (.abandonReply block) s = .next past) ∧ exec .counterReplyTimeout s = .next past)
    ∧ (s.count.exchange = some .select ∨ s.count.exchange = some .status ∨ (∃ t m k, s.count.exchange = some (.setUp t m k)) →
      exec .counterReplyTimeout s = .next (finish (failCount .linkFault (begun s))))
    ∧ (∀ r, s.count.running = some r → s.count.exchange = some .result →
      (r.reread = false →
        exec .counterReplyTimeout s
          = .next (ended { begun s with count := { s.count with running := some { r with reread := true } } }))
      ∧ (r.reread = true → exec .counterReplyTimeout s = .next (finish (failCount .linkFault (begun s)))))
    ∧ (∀ r x, s.count.running = some r → r.step = some x → s.count.station = .running → x.limit ≤ x.elapsed →
      exec .stepLimitExpiry s = .next (finish (failCount .noResponse (begun s)))))
  ∧ ∀ (s : State) (r : RunningCount) (reason : FaultReason), s.count.running = some r →
    let t := failCount reason s
    let machine := reason ≠ .jam ∧ reason ≠ .rejectLimit
    trayOf t r.tray = { trayOf s r.tray with state := .invalid } ∧ (∀ o, o ≠ r.tray → trayOf t o = trayOf s o)
    ∧ (∀ c, holding t c = holding s c) ∧ t.store.journal.entries = s.store.journal.entries
    ∧ t.store.journal.held = s.store.journal.held - 1 ∧ t.store.inflow = s.store.inflow
    ∧ t.count.running = none
    ∧ (machine → t.count.faults = s.count.faults + 1) ∧ (¬ machine → t.count.faults = s.count.faults)
    ∧ (machine → 1 ≤ s.count.faults → t.count.station = .down ∧ t.count.waiters = [])
    ∧ (¬ machine ∨ s.count.faults = 0 → t.count.station = .idle ∧ t.count.waiters = s.count.waiters)
    ∧ (reason = .noResponse ∨ reason = .linkFault → t.count.exchange = some .abandon)
    ∧ t.float = s.float ∧ t.courier = s.courier ∧ t.safe = s.safe ∧ t.recon = s.recon ∧ t.day = s.day
    ∧ (slotOf t r.port r.tag).state = .answered
    ∧ let detail := match reason with
        | .jam => 1
        | .rejectLimit => 2
        | .feedFault => 3
        | .scaleFault => 4
        | .noResponse => 5
        | .linkFault => 6
      let down := machine ∧ 1 ≤ s.count.faults
      let fault := answer r.port r.tag .countFault detail [] (raise .countFault (.tray r.tray)
        [.u8 detail, .u16 (((trayOf s r.tray).count.map (·.number)).getD 0)] s)
      (¬ down → t.ports = fault.ports)
      ∧ (down → AnswersEach (s.count.waiters.map fun w => (w.port, w.tag)) .counterDown
        (raise .counterDown .station [.u8 detail] fault) t)

/-! ## Expiries, the clock and the supply -/

/-- The wait limits and the owed passes (R52, R53, R85, R116, R131, R165): a waiter at its limit is answered EXPIRED with its
detail and leaves its list; a session at its idle limit is aborted; one owed re-try pass is made, over the waiters in list order:
each that still waits is answered where it is refused or made, and else keeps its place with its park reason brought up to date.
The limits are those in force, a new one applying from the next second (log 38). That an expiry before its limit changes nothing
but the end of the event (log 4), that one may be taken late (log 31) and one owed pass for each event (log 16) are the model's
choices. -/
def Obligations.WaitsExpire : Prop :=
  (∀ s : State, s.retention.supply = .good →
    (∀ (p : Port) (tag : Tag),
      (∀ w, s.float.waiters.find? (fun w => w.port == p && w.tag == tag) = some w →
        (s.float.waitInForce ≤ w.elapsed →
          exec (.floatWaitExpiry p tag) s
            = .next (ended (answer p tag .expired (if w.park = .stock then 1 else 2) []
                { begun s with float := { s.float with
                  waiters := s.float.waiters.filter fun w => !(w.port == p && w.tag == tag) } })))
        ∧ (w.elapsed < s.float.waitInForce → exec (.floatWaitExpiry p tag) s = .next (ended (begun s))))
      ∧ (∀ w, s.count.waiters.find? (fun w => w.port == p && w.tag == tag) = some w →
        (s.count.waitInForce ≤ w.elapsed →
          exec (.counterWaitExpiry p tag) s
            = .next (ended (answer p tag .expired (if w.park = .counter then 3 else 4) []
                { begun s with count := { s.count with
                  waiters := s.count.waiters.filter fun w => !(w.port == p && w.tag == tag) } })))
        ∧ (w.elapsed < s.count.waitInForce → exec (.counterWaitExpiry p tag) s = .next (ended (begun s))))
      ∧ ∀ w, s.safe.waiters.find? (fun w => w.port == p && w.tag == tag) = some w →
        let gone := { begun s with safe := { s.safe with
          waiters := s.safe.waiters.filter fun w => !(w.port == p && w.tag == tag) } }
        let post := ∃ t k, w.req = .postTray t k
        (¬ post → s.safe.waitInForce ≤ w.elapsed →
          exec (.accessWaitExpiry p tag) s = .next (ended (answer p tag .expired 2 [] gone)))
        ∧ (post → s.recon.destInForce ≤ w.elapsed →
          exec (.destinationWaitExpiry p tag) s = .next (ended (answer p tag .expired 5 [] gone)))
        ∧ (post ∨ w.elapsed < s.safe.waitInForce → exec (.accessWaitExpiry p tag) s = .next (ended (begun s)))
        ∧ (¬ post ∨ w.elapsed < s.recon.destInForce → exec (.destinationWaitExpiry p tag) s = .next (ended (begun s))))
    ∧ (∀ x, s.courier.session = some x →
      (s.courier.idleInForce ≤ x.idle → exec .handoverIdleExpiry s = .next (finish (abortSession .idle x (begun s))))
      ∧ (x.idle < s.courier.idleInForce → exec .handoverIdleExpiry s = .next (ended (begun s))))
    ∧ (0 < s.float.retryDue →
      exec .floatRetryPass s
        = .next (finish (floatPass { begun s with float := { s.float with retryDue := s.float.retryDue - 1 } })))
    ∧ (s.float.retryDue = 0 → exec .floatRetryPass s = .next (ended (begun s))))
  ∧ (∀ s : State, floatPass s = s.float.waiters.foldl retryFloat s)
  ∧ (∀ (s : State) (w : FloatWaiter),
    let mine (v : FloatWaiter) : Bool := v.port == w.port && v.tag == w.tag
    let gone (u : State) : State := { u with float := { u.float with waiters := u.float.waiters.filter fun v => !mine v } }
    let again (park : FloatPark) : State := { s with float := { s.float with
      waiters := s.float.waiters.map fun v => if mine v then { v with park } else v } }
    let is (u : State) := retryFloat s w = u
    ((∀ v ∈ s.float.waiters, mine v = false) → is s)
    ∧ ((∃ v ∈ s.float.waiters, mine v = true) →
      (∀ k, floatTry w.port w.ops w.ask s = .refused k → is (answer w.port w.tag k 0 [] (gone s)))
      ∧ (∀ k, floatTry w.port w.ops w.ask s = .short k → is (raiseReserveLow k (again .stock)))
      ∧ (∀ r c, floatTry w.port w.ops w.ask s = .parked r c → is (again (.access r c)))
      ∧ ∀ u rs, floatTry w.port w.ops w.ask s = .done u rs →
        is (dismissRivals w.ask (answer w.port w.tag .ok 0 rs (gone u)))))
  ∧ ∀ (s : State) (p : Port) (ops : List Nat) (ask : FloatAsk),
    let refused (k : Code) := floatTry p ops ask s = .refused k
    (s.retention.suspect = true → refused .memorySuspect)
    ∧ (s.retention.suspect = false → s.day.state = .closed → refused .dayNotOpen)
    ∧ (s.retention.suspect = false → s.day.state = .closing → refused .dayClosing)
    ∧ (s.retention.suspect = false → s.day.state = .opened →
      (∀ i q, ask = .float i q →
        ((tillOf s i).state ≠ .idle → refused .badState)
        ∧ ((tillOf s i).state = .idle → profileOk s.store.denoms (look s.float.profiles q) = false →
          refused .profileMismatch))
      ∧ ∀ i v, ask = .topup i v →
        ((tillOf s i).state ≠ .trading ∨ (tillOf s i).signedOff = true → refused .badState)
        ∧ ((tillOf s i).state = .trading → (tillOf s i).signedOff = false → 3 ≤ (tillOf s i).topups →
          refused .topupLimit))

/-- The seconds tick and the plan (R31, R36, R37): every elapsed-second timer advances by one, the running count's step timer
among them, and every limit set before the second comes into force; the clock advances, at 86,399 goes to 0 while the day is
CLOSED and else stays, raising CLOCK_LIMIT once; during a cut the clock alone advances, and a limit it reaches sets the flag and
leaves CLOCK_LIMIT owed; the entries that are due run in order while the plan runs, and what each action does, with
PLAN_ENTRY_REFUSED where its owner refuses it. What falls due is a command of its own, CLOCK_LIMIT owed a field and a limit's
coming into force the model's reading (logs 14, 27, 31, 38). The number of bags in WINDOW_OPEN and WINDOW_CLOSED is one byte by
the model's choice (log 35). -/
def Obligations.SecondsAndPlan : Prop :=
  (∀ s : State, s.retention.supply = .good →
    let b := tickTimers (tickLimits (begun s))
    (s.day.clock < 86399 →
      exec .clockTick s = .next (ended { b with day := { s.day with clock := s.day.clock + 1 } }))
    ∧ (s.day.clock = 86399 → s.day.state = .closed →
      exec .clockTick s = .next (ended { b with day := { s.day with clock := 0 } }))
    ∧ (s.day.clock = 86399 → s.day.state ≠ .closed → s.day.clockLimit = false →
      exec .clockTick s
        = .next (ended (raise .clockLimit .day [] { b with day := { s.day with clockLimit := true } })))
    ∧ (s.day.clock = 86399 → s.day.state ≠ .closed → s.day.clockLimit = true →
      exec .clockTick s = .next (ended b))
    ∧ (s.day.state ≠ .closed → s.day.planState = .running →
      exec .planEntryDue s = .next (ended ((dueSet s).foldl (fun acc i => executeEntry i acc) (begun s))))
    ∧ ((s.day.state = .closed ∨ s.day.planState ≠ .running) → exec .planEntryDue s = .next (ended (begun s))))
  ∧ (∀ s : State, s.retention.supply = .cut →
      let leaves (d : DayUnit) := exec .clockTick s = .next { tickLimits s with day := d }
      (s.day.clock < 86399 → leaves { s.day with clock := s.day.clock + 1 })
      ∧ (s.day.clock = 86399 → s.day.state = .closed → leaves { s.day with clock := 0 })
      ∧ (s.day.clock = 86399 → s.day.state ≠ .closed → s.day.clockLimit = false →
        leaves { s.day with clockLimit := true, limitOwed := true })
      ∧ (s.day.clock = 86399 → s.day.state ≠ .closed → s.day.clockLimit = true → leaves s.day))
  ∧ (∀ s : State, s.retention.supply = .dead → exec .clockTick s = .next s)
  ∧ (∀ s : State,
      (dueSet s).Pairwise (· < ·)
      ∧ ∀ i : PlanIx, i ∈ dueSet s ↔ s.day.pointer ≤ i.1
        ∧ (∀ j : PlanIx, s.day.pointer ≤ j.1 → j ≤ i → (look s.day.plan j).time ≤ s.day.clock)
        ∧ ∀ j : PlanIx, s.day.pointer ≤ j.1 → j < i → (look s.day.plan j).action ≠ .stop)
  ∧ (∀ (s : State) (i : PlanIx),
      let a := (look s.day.plan i).action
      let p := { s with day := { s.day with
        pointer := i.1 + 1, planState := if a = .stop ∨ i.1 = 63 then .ended else s.day.planState } }
      let refused (c : Code) := raise .planEntryRefused (.planEntry i) [.u8 (outcomeCode c)] p
      let content (w : WindowIx) : List Field := [.u32 s.day.clock, .u8 (windowOf s w).staged.length]
      executeEntry i s = match a with
        | .windowOpen w =>
          if s.day.state = .closed then refused .dayNotOpen
          else if (windowOf s w).badge = none ∨ (windowOf s w).comp = none then refused .badState
          else if (windowOf s w).state = .opened then p
          else modWindow w (fun r => { r with state := .opened, unstagePending := false })
            (raise .windowOpen (.window w) (content w) p)
        | .windowClose w =>
          let closed := modWindow w (fun r => { r with state := .closed }) (raise .windowClosed (.window w) (content w) p)
          if (windowOf s w).state = .planned ∨ (windowOf s w).state = .opened then
            if sessionAt s w = true then modWindow w (fun r => { r with unstagePending := true }) closed else unstage w closed
          else p
        | .openRange low high =>
          if s.safe.frozen = true then refused .frozen
          else { p with safe := { s.safe with range := { low := low.1, high := min high 15 } } }
        | .lockAll =>
          if s.safe.frozen = true then refused .frozen else { p with safe := { s.safe with range := SafeRange.empty } }
        | .freeze => { p with safe := { s.safe with frozen := true } }
        | .pickupRound => pickupRound p
        | .stop => p)
  ∧ (∀ s : State, tickLimits s = { s with
      float := { s.float with waitInForce := s.float.waitLimit }, count := { s.count with waitInForce := s.count.waitLimit }
      recon := { s.recon with destInForce := s.recon.destLimit }
      safe := { s.safe with waitInForce := s.safe.waitLimit, heldInForce := s.safe.heldLimit }
      courier := { s.courier with idleInForce := s.courier.idleLimit } })
  ∧ ∀ s : State,
      let t := tickTimers s
      t.float.waiters.map (·.elapsed) = s.float.waiters.map (·.elapsed + 1)
      ∧ t.count.waiters.map (·.elapsed) = s.count.waiters.map (·.elapsed + 1)
      ∧ t.safe.waiters.map (·.elapsed) = s.safe.waiters.map (·.elapsed + 1)
      ∧ (∀ x, s.courier.session = some x → t.courier.session = some { x with idle := x.idle + 1 })
      ∧ (∀ r, s.count.running = some r → ∃ q, t.count.running = some q
          ∧ q = { r with step := q.step } ∧ (r.step = none → q.step = none)
          ∧ ∀ x, r.step = some x → q.step = some { elapsed := x.elapsed + 1, limit := x.limit })
      ∧ (s.count.running = none → t.count.running = none)
      ∧ (∀ c, (compOf t c).latchTimer = (compOf s c).latchTimer.map (· + 1))
      ∧ (∀ c, (compOf s c).hold = false → (compOf t c).heldTimer = (compOf s c).heldTimer.map (· + 1))
      ∧ t.store = s.store ∧ t.ports = s.ports ∧ t.day = s.day ∧ t.recon = s.recon

/-- The supply (R208 to R212): main lost with backup present or absent, backup lost, power return from a cut, which keeps the
record and ends what was under way, the check word compared, and a cold start. Of a power return: what the units' changes leave,
with POWER_RETURN first in the queues and HANDOVER_ABORTED where a session ended; then the comparison of the check word, the
completion check where a unit has reported a change, catch-up, and a CLOCK_LIMIT left owed. The order of the units' changes, the
attempts that lapse, and the damage of memory as a difference are the model's (logs 2, 10, 11, 13, 14), and so are the byte 0 for
WARM and the cause code 4 (log 6), the numbers of bags in HANDOVER_ABORTED, their order and their width (logs 22, 35), and a
cold start in every supply state (log 4). -/
def Obligations.SupplyAndReturn : Prop :=
  (∀ s : State,
    (s.retention.supply = .good →
      exec (.mainSupplyLoss true) s = .next { s with retention := { s.retention with supply := .cut } }
      ∧ exec (.mainSupplyLoss false) s = .next { s with retention := { s.retention with supply := .dead } })
    ∧ (s.retention.supply = .cut →
      exec .backupSupplyLoss s = .next { s with retention := { s.retention with supply := .dead } })
    ∧ ∀ (doors : List CompIx) (spacing : List Port),
      exec (.coldStart doors spacing) s = .next { State.cold doors spacing with pending := s.pending }
      ∧ (s.retention.supply = .dead → ∀ drift,
        exec (.powerReturn doors spacing drift) s = .next { State.cold doors spacing with pending := s.pending }))
  ∧ (∀ (s : State) (doors : List CompIx) (spacing : List Port) (drift : BitVec 32), s.retention.supply = .cut →
    ∃ t, exec (.powerReturn doors spacing drift) s = .next t
      ∧ (∀ c, holding t c = holding s c) ∧ t.store.base = s.store.base ∧ t.store.inflow = s.store.inflow
      ∧ t.store.outflow = s.store.outflow ∧ t.store.totals = s.store.totals ∧ t.store.denoms = s.store.denoms
      ∧ t.store.operators = s.store.operators ∧ t.store.journal.entries = s.store.journal.entries
      ∧ t.store.journal.nextSeq = s.store.journal.nextSeq
      ∧ t.float.waiters = [] ∧ t.count.waiters = [] ∧ t.safe.waiters = [] ∧ t.courier.session = none
      ∧ t.count.running = none ∧ t.float.tills = s.float.tills ∧ t.float.profiles = s.float.profiles
      ∧ (∀ r, s.count.running = some r → (trayOf t r.tray).state = .invalid)
      ∧ (∀ c, (compOf t c).latch = .engaged ∧ (compOf t c).hold = false ∧ (compOf t c).latchTimer = none
          ∧ (compOf t c).door = if c ∈ doors then .opened else .closed)
      ∧ (∀ p, (portOf t p).link = (if p ∈ spacing then .brk else .quiet) ∧ (portOf t p).responses = []
          ∧ ∀ k, (slotOf t p k).state = .free)
      ∧ t.retention.suspect = (s.retention.suspect || decide (s.retention.drift + drift ≠ 0))
      ∧ t.retention.drift = 0 ∧ t.retention.supply = .good)
  ∧ ∀ (s : State) (doors : List CompIx) (spacing : List Port) (drift : BitVec 32), s.retention.supply = .cut →
    ∃ u : State,
      (let damage := s.retention.drift + drift
       let word := checkWord (Config.retainedWords u)
       let v := if damage = 0 then u else raise .memorySuspect .part [.u32 (word + damage).toNat, .u32 word.toNat]
         { u with retention := { u.retention with suspect := true, drift := 0 } }
       let w := if u.event.reported = true then completionCheck { v with event := Scratch.empty } else v
       let z := catchUp w
       exec (.powerReturn doors spacing drift) s
         = .next (ended (if z.day.limitOwed = true then
             raise .clockLimit .day [] { z with day := { z.day with limitOwed := false } } else z)))
      ∧ u.retention = { s.retention with supply := .good, drift := s.retention.drift + drift }
      ∧ u.event = { signals := [], reported := s.count.running.isSome || s.courier.session.isSome }
      ∧ u.day = s.day ∧ u.stamp = s.stamp ∧ u.pending = s.pending
      ∧ u.float = { s.float with waiters := [], retryDue := 0 }
      ∧ (let b := match s.count.running with
           | some r => abandoned r s
           | none => s
         u.store = b.store
         ∧ u.count = { b.count with
             waiters := [], selectWaiting := false, exchange := if s.count.running.isSome then some .abandon else none })
      ∧ u.recon = { s.recon with attemptDue := Vector.replicate 2 false, reported := u.recon.reported }
      ∧ (∀ y, look u.recon.reported y = true ↔ s.courier.session ≠ none ∧ look s.recon.pending y = true
          ∧ (trayOf u y).state = .counted ∧ destinationOf s y ≠ none)
      ∧ u.safe = { s.safe with
          waiters := []
          comps := Vector.ofFn fun c => { compOf s c with
            latch := .engaged, latchTimer := none, hold := false, heldRaised := false
            door := if c ∈ doors then .opened else .closed, heldTimer := if c ∈ doors then some 0 else none
            alarm := if c ∉ doors ∧ (compOf s c).alarm = .held then .none else (compOf s c).alarm } }
      ∧ (s.courier.session = none → u.courier = s.courier)
      ∧ (∀ x, s.courier.session = some x →
          let listed := (windowOf s x.window).staged
          let unstages := (windowOf s x.window).unstagePending = true
          u.courier = { s.courier with session := none, bags := u.courier.bags, windows := u.courier.windows }
          ∧ (∀ w, windowOf u w =
              if w = x.window ∧ unstages then { windowOf s w with staged := [], unstagePending := false } else windowOf s w)
          ∧ (∀ b, b ∉ x.inbound → bagOf u b =
              if unstages ∧ b ∈ listed then { bagOf s b with state := .closed, window := none } else bagOf s b)
          ∧ ∀ b, b ∈ x.inbound → b ∉ listed → bagOf u b = BagRec.free)
      ∧ (let returned := raise .powerReturn .part [.u8 0] { s with ports := { s.ports with
           office := PortRec.cold (spacing.contains .office), till := PortRec.cold (spacing.contains .till)
           courier := PortRec.cold (spacing.contains .courier) } }
         u.ports = (match s.courier.session with
           | some x => raise .handoverAborted (.window x.window)
               [.u8 4, .u8 (windowOf s x.window).staged.length, .u8 x.inbound.length] returned
           | none => returned).ports)

/-! ## Invariants -/

/-- Every invariant below holds after a cold start. -/
def Obligations.InvariantsAtReset : Prop :=
  Balanced State.reset ∧ RangesHold State.reset ∧ QueuesHold State.reset ∧ StationHolds State.reset
    ∧ JournalHolds State.reset ∧ (TillsHold State.reset ∧ DayHolds State.reset ∧ OperatorsHold State.reset)
    ∧ BagsHold State.reset ∧ TillCashHolds State.reset ∧ CapsHold State.reset

/-- Conservation of custody (R15): every step keeps base + inflow − outflow equal to the present sum, for every denomination,
while the day is not CLOSED. Opening a day needs that a FREE or HANDED bag holds nothing, which `BagRecordsKept` gives. -/
def Obligations.CustodyConserved : Prop :=
  ∀ s t : State, Balanced s → EmptyBags s → step s = .next t → Balanced t

/-- Every step keeps every count of every holding within 0 to 65,535 (R6), given the vectors and templates later movements are
built from. -/
def Obligations.HoldingsStayInRange : Prop :=
  ∀ s t : State, RangesHold s → step s = .next t → RangesHold t

/-- Every step keeps each port's notice queue at most 16 long with no two notices of the same kind and subject (R198, R199). How a
notice enters: it goes to each port of its kind's port set, with the kind's priority, the day number and the clock (R196); in a
queue it replaces one of its kind and subject in place, or enters as the youngest, or, where the queue is full, takes the place of
the youngest of the lowest priority, if that is below its own, or is dropped, with the indication set (R198, R199). How a frame
leaves: an idle line takes the oldest response, else, on an ACTIVE port, the oldest notice of the highest priority with the
indication (R195). And the journal's marks, each raised once as its level is reached (R184). The held count in their content is
one byte by the model's choice (log 35). -/
def Obligations.NoticeQueuesBounded : Prop :=
  (∀ s t : State, QueuesHold s → step s = .next t → QueuesHold t)
  ∧ (∀ (n : Notice) (r : PortRec), n.priority ≤ 3 →
    let u := enqueue n r
    let same (m : Notice) := m.kind = n.kind ∧ m.subject = n.subject
    u = { r with notices := u.notices, dropped := u.dropped }
    ∧ ((∃ m ∈ r.notices, same m) →
      u.dropped = r.dropped
      ∧ u.notices = r.notices.map fun m => if m.kind = n.kind ∧ m.subject = n.subject then n else m)
    ∧ ((∀ m ∈ r.notices, ¬ same m) →
      (r.notices.length < 16 → u.dropped = r.dropped ∧ u.notices = r.notices ++ [n])
      ∧ (16 ≤ r.notices.length →
        ((∀ m ∈ r.notices, n.priority ≤ m.priority) → u.dropped = true ∧ u.notices = r.notices)
        ∧ ∀ (older : List Notice) (out : Notice) (younger : List Notice), r.notices = older ++ out :: younger →
            out.priority < n.priority → (∀ m ∈ r.notices, out.priority ≤ m.priority) →
            (∀ m ∈ younger, m.priority ≠ out.priority) →
            u.dropped = true ∧ u.notices = older ++ younger ++ [n])))
  ∧ (∀ (k : NoticeKind) (x : Subject) (content : List Field) (s : State),
    let route := look s.ports.routing (kindIx k)
    let n : Notice := { kind := k, subject := x, priority := route.priority, day := s.day.number, time := s.day.clock, content }
    let t := raise k x content s
    t = { s with ports := t.ports } ∧ t.ports.routing = s.ports.routing
    ∧ portOf t .office = (if route.ports.office = true ∨ k = .doorForced ∨ k = .powerReturn ∨ k = .memorySuspect then
        enqueue n (portOf s .office) else portOf s .office)
    ∧ portOf t .till = (if route.ports.till = true then enqueue n (portOf s .till) else portOf s .till)
    ∧ portOf t .courier = (if route.ports.courier = true then enqueue n (portOf s .courier) else portOf s .courier))
  ∧ (∀ s : State,
    let t := startFrames s
    t = { s with ports := t.ports } ∧ t.ports.routing = s.ports.routing ∧ ∀ p,
      let r := portOf s p
      let is (u : PortRec) := portOf t p = u
      (r.line ≠ none ∨ r.link = .brk → is r)
      ∧ (r.line = none → r.link ≠ .brk → ∀ f rest, r.responses = f :: rest → is { r with line := some f, responses := rest })
      ∧ (r.responses = [] → r.link = .quiet ∨ r.notices = [] → is r)
      ∧ (r.line = none → r.link = .active → r.responses = [] → ∀ (older : List Notice) (n : Notice) (younger : List Notice),
        r.notices = older ++ n :: younger →
        (∀ m ∈ older, m.priority < n.priority ∧ ¬ (m.kind = n.kind ∧ m.subject = n.subject)) →
        (∀ m ∈ younger, m.priority ≤ n.priority) →
        is { r with line := some (.notice n r.dropped), notices := older ++ younger, dropped := false }))
  ∧ ∀ (before : Nat) (s : State),
    let now := occupancy s
    let j := s.store.journal
    let content : List Field :=
      [.u16 now, .u8 j.held, .u32 ((j.entries.head?.map (·.seq)).getD 0), .u32 ((j.entries.getLast?.map (·.seq)).getD 0)]
    let a := if before < 448 ∧ 448 ≤ now ∧ j.high = false then raise .journalHigh .journal content s else s
    let b := if before < 512 ∧ 512 ≤ now ∧ j.full = false then raise .journalFull .journal content a else a
    journalMarks before s = { s with
      store := { s.store with journal := { j with
        high := decide (448 ≤ now) && (j.high || decide (before < 448))
        full := decide (512 ≤ now) && (j.full || decide (before < 512)) } }
      ports := b.ports }

/-- Every step keeps the station, the running count and the COUNTING tray in agreement (R69, R70, R79), the journal within 512
entries with one held exactly while a count runs (R183), and its numbers without a break (R182). -/
def Obligations.RunningCountAndJournalKept : Prop :=
  ∀ s t : State, StationHolds s → JournalHolds s → step s = .next t → StationHolds t ∧ JournalHolds t

/-- Every step keeps a till within its top-ups and pouches (R42, R60), the day's numbers in range with the plan in order (R24,
R33, R35), and the operator numbers distinct (R17); and a till's cash worth F while its drawer is out and nothing otherwise
(R43), its coins in whole rolls (R47). -/
def Obligations.RecordLimitsKept : Prop :=
  (∀ s t : State, TillsHold s → DayHolds s → OperatorsHold s → step s = .next t → TillsHold t ∧ DayHolds t ∧ OperatorsHold t)
  ∧ ∀ s t : State, TillCashHolds s → step s = .next t → TillCashHolds t

/-- Every step keeps the bag records, the staged lists, the session's inbound list and the trays' inbound sources in agreement,
and FREE, HANDED and inbound bags empty (R144, R145, R151, R162); and with them every cap load, the bags located in a
compartment among it, within its cap (R122). -/
def Obligations.BagRecordsKept : Prop :=
  (∀ s t : State, BagsHold s → step s = .next t → BagsHold t)
  ∧ ∀ s t : State, BagsHold s → CapsHold s → step s = .next t → CapsHold t

/-- While a handover session lasts, no step changes a compartment's holding (R164). -/
def Obligations.SessionFreezesCompartments : Prop :=
  ∀ s t : State, step s = .next t → s.courier.session ≠ none → t.courier.session ≠ none →
    t.store.compHold = s.store.compHold
end

