-- ==== Sys2Proof/Laws/State.lean ====
section
/-! SUPPORT. One lemma per field per update: which parts of the state an update leaves as they were, each true by `rfl`. -/

namespace Sys2Proof.Machine

variable (s : State)

@[simp] theorem modTill_store (i : TillIx) (f : TillRec → TillRec) : (modTill i f s).store = s.store := rfl
@[simp] theorem modTill_day (i : TillIx) (f : TillRec → TillRec) : (modTill i f s).day = s.day := rfl
@[simp] theorem modTill_count (i : TillIx) (f : TillRec → TillRec) : (modTill i f s).count = s.count := rfl
@[simp] theorem modTill_recon (i : TillIx) (f : TillRec → TillRec) : (modTill i f s).recon = s.recon := rfl
@[simp] theorem modTill_safe (i : TillIx) (f : TillRec → TillRec) : (modTill i f s).safe = s.safe := rfl
@[simp] theorem modTill_courier (i : TillIx) (f : TillRec → TillRec) : (modTill i f s).courier = s.courier := rfl
@[simp] theorem modTill_ports (i : TillIx) (f : TillRec → TillRec) : (modTill i f s).ports = s.ports := rfl
@[simp] theorem modTill_retention (i : TillIx) (f : TillRec → TillRec) : (modTill i f s).retention = s.retention := rfl
@[simp] theorem modTill_stamp (i : TillIx) (f : TillRec → TillRec) : (modTill i f s).stamp = s.stamp := rfl
@[simp] theorem modTill_event (i : TillIx) (f : TillRec → TillRec) : (modTill i f s).event = s.event := rfl
@[simp] theorem modTill_pending (i : TillIx) (f : TillRec → TillRec) : (modTill i f s).pending = s.pending := rfl

@[simp] theorem modTray_store (t : TrayIx) (f : TrayRec → TrayRec) : (modTray t f s).store = s.store := rfl
@[simp] theorem modTray_day (t : TrayIx) (f : TrayRec → TrayRec) : (modTray t f s).day = s.day := rfl
@[simp] theorem modTray_float (t : TrayIx) (f : TrayRec → TrayRec) : (modTray t f s).float = s.float := rfl
@[simp] theorem modTray_recon (t : TrayIx) (f : TrayRec → TrayRec) : (modTray t f s).recon = s.recon := rfl
@[simp] theorem modTray_safe (t : TrayIx) (f : TrayRec → TrayRec) : (modTray t f s).safe = s.safe := rfl
@[simp] theorem modTray_courier (t : TrayIx) (f : TrayRec → TrayRec) : (modTray t f s).courier = s.courier := rfl
@[simp] theorem modTray_ports (t : TrayIx) (f : TrayRec → TrayRec) : (modTray t f s).ports = s.ports := rfl
@[simp] theorem modTray_retention (t : TrayIx) (f : TrayRec → TrayRec) : (modTray t f s).retention = s.retention := rfl
@[simp] theorem modTray_stamp (t : TrayIx) (f : TrayRec → TrayRec) : (modTray t f s).stamp = s.stamp := rfl
@[simp] theorem modTray_event (t : TrayIx) (f : TrayRec → TrayRec) : (modTray t f s).event = s.event := rfl
@[simp] theorem modTray_pending (t : TrayIx) (f : TrayRec → TrayRec) : (modTray t f s).pending = s.pending := rfl

@[simp] theorem modComp_store (c : CompIx) (f : CompRec → CompRec) : (modComp c f s).store = s.store := rfl
@[simp] theorem modComp_day (c : CompIx) (f : CompRec → CompRec) : (modComp c f s).day = s.day := rfl
@[simp] theorem modComp_float (c : CompIx) (f : CompRec → CompRec) : (modComp c f s).float = s.float := rfl
@[simp] theorem modComp_count (c : CompIx) (f : CompRec → CompRec) : (modComp c f s).count = s.count := rfl
@[simp] theorem modComp_recon (c : CompIx) (f : CompRec → CompRec) : (modComp c f s).recon = s.recon := rfl
@[simp] theorem modComp_courier (c : CompIx) (f : CompRec → CompRec) : (modComp c f s).courier = s.courier := rfl
@[simp] theorem modComp_ports (c : CompIx) (f : CompRec → CompRec) : (modComp c f s).ports = s.ports := rfl
@[simp] theorem modComp_retention (c : CompIx) (f : CompRec → CompRec) : (modComp c f s).retention = s.retention := rfl
@[simp] theorem modComp_stamp (c : CompIx) (f : CompRec → CompRec) : (modComp c f s).stamp = s.stamp := rfl
@[simp] theorem modComp_event (c : CompIx) (f : CompRec → CompRec) : (modComp c f s).event = s.event := rfl
@[simp] theorem modComp_pending (c : CompIx) (f : CompRec → CompRec) : (modComp c f s).pending = s.pending := rfl

@[simp] theorem modBag_store (b : BagIx) (f : BagRec → BagRec) : (modBag b f s).store = s.store := rfl
@[simp] theorem modBag_day (b : BagIx) (f : BagRec → BagRec) : (modBag b f s).day = s.day := rfl
@[simp] theorem modBag_float (b : BagIx) (f : BagRec → BagRec) : (modBag b f s).float = s.float := rfl
@[simp] theorem modBag_count (b : BagIx) (f : BagRec → BagRec) : (modBag b f s).count = s.count := rfl
@[simp] theorem modBag_recon (b : BagIx) (f : BagRec → BagRec) : (modBag b f s).recon = s.recon := rfl
@[simp] theorem modBag_safe (b : BagIx) (f : BagRec → BagRec) : (modBag b f s).safe = s.safe := rfl
@[simp] theorem modBag_ports (b : BagIx) (f : BagRec → BagRec) : (modBag b f s).ports = s.ports := rfl
@[simp] theorem modBag_retention (b : BagIx) (f : BagRec → BagRec) : (modBag b f s).retention = s.retention := rfl
@[simp] theorem modBag_stamp (b : BagIx) (f : BagRec → BagRec) : (modBag b f s).stamp = s.stamp := rfl
@[simp] theorem modBag_event (b : BagIx) (f : BagRec → BagRec) : (modBag b f s).event = s.event := rfl
@[simp] theorem modBag_pending (b : BagIx) (f : BagRec → BagRec) : (modBag b f s).pending = s.pending := rfl

@[simp] theorem modWindow_store (w : WindowIx) (f : WindowRec → WindowRec) : (modWindow w f s).store = s.store := rfl
@[simp] theorem modWindow_day (w : WindowIx) (f : WindowRec → WindowRec) : (modWindow w f s).day = s.day := rfl
@[simp] theorem modWindow_float (w : WindowIx) (f : WindowRec → WindowRec) : (modWindow w f s).float = s.float := rfl
@[simp] theorem modWindow_count (w : WindowIx) (f : WindowRec → WindowRec) : (modWindow w f s).count = s.count := rfl
@[simp] theorem modWindow_recon (w : WindowIx) (f : WindowRec → WindowRec) : (modWindow w f s).recon = s.recon := rfl
@[simp] theorem modWindow_safe (w : WindowIx) (f : WindowRec → WindowRec) : (modWindow w f s).safe = s.safe := rfl
@[simp] theorem modWindow_ports (w : WindowIx) (f : WindowRec → WindowRec) : (modWindow w f s).ports = s.ports := rfl
@[simp] theorem modWindow_retention (w : WindowIx) (f : WindowRec → WindowRec) : (modWindow w f s).retention = s.retention := rfl
@[simp] theorem modWindow_stamp (w : WindowIx) (f : WindowRec → WindowRec) : (modWindow w f s).stamp = s.stamp := rfl
@[simp] theorem modWindow_event (w : WindowIx) (f : WindowRec → WindowRec) : (modWindow w f s).event = s.event := rfl
@[simp] theorem modWindow_pending (w : WindowIx) (f : WindowRec → WindowRec) : (modWindow w f s).pending = s.pending := rfl

@[simp] theorem modSession_store (f : Session → Session) : (modSession f s).store = s.store := rfl
@[simp] theorem modSession_day (f : Session → Session) : (modSession f s).day = s.day := rfl
@[simp] theorem modSession_float (f : Session → Session) : (modSession f s).float = s.float := rfl
@[simp] theorem modSession_count (f : Session → Session) : (modSession f s).count = s.count := rfl
@[simp] theorem modSession_recon (f : Session → Session) : (modSession f s).recon = s.recon := rfl
@[simp] theorem modSession_safe (f : Session → Session) : (modSession f s).safe = s.safe := rfl
@[simp] theorem modSession_ports (f : Session → Session) : (modSession f s).ports = s.ports := rfl
@[simp] theorem modSession_retention (f : Session → Session) : (modSession f s).retention = s.retention := rfl
@[simp] theorem modSession_stamp (f : Session → Session) : (modSession f s).stamp = s.stamp := rfl
@[simp] theorem modSession_event (f : Session → Session) : (modSession f s).event = s.event := rfl
@[simp] theorem modSession_pending (f : Session → Session) : (modSession f s).pending = s.pending := rfl

@[simp] theorem modCount_store (f : CountUnit → CountUnit) : (modCount f s).store = s.store := rfl
@[simp] theorem modCount_day (f : CountUnit → CountUnit) : (modCount f s).day = s.day := rfl
@[simp] theorem modCount_float (f : CountUnit → CountUnit) : (modCount f s).float = s.float := rfl
@[simp] theorem modCount_recon (f : CountUnit → CountUnit) : (modCount f s).recon = s.recon := rfl
@[simp] theorem modCount_safe (f : CountUnit → CountUnit) : (modCount f s).safe = s.safe := rfl
@[simp] theorem modCount_courier (f : CountUnit → CountUnit) : (modCount f s).courier = s.courier := rfl
@[simp] theorem modCount_ports (f : CountUnit → CountUnit) : (modCount f s).ports = s.ports := rfl
@[simp] theorem modCount_retention (f : CountUnit → CountUnit) : (modCount f s).retention = s.retention := rfl
@[simp] theorem modCount_stamp (f : CountUnit → CountUnit) : (modCount f s).stamp = s.stamp := rfl
@[simp] theorem modCount_event (f : CountUnit → CountUnit) : (modCount f s).event = s.event := rfl
@[simp] theorem modCount_pending (f : CountUnit → CountUnit) : (modCount f s).pending = s.pending := rfl

@[simp] theorem modDay_store (f : DayUnit → DayUnit) : (modDay f s).store = s.store := rfl
@[simp] theorem modDay_float (f : DayUnit → DayUnit) : (modDay f s).float = s.float := rfl
@[simp] theorem modDay_count (f : DayUnit → DayUnit) : (modDay f s).count = s.count := rfl
@[simp] theorem modDay_recon (f : DayUnit → DayUnit) : (modDay f s).recon = s.recon := rfl
@[simp] theorem modDay_safe (f : DayUnit → DayUnit) : (modDay f s).safe = s.safe := rfl
@[simp] theorem modDay_courier (f : DayUnit → DayUnit) : (modDay f s).courier = s.courier := rfl
@[simp] theorem modDay_ports (f : DayUnit → DayUnit) : (modDay f s).ports = s.ports := rfl
@[simp] theorem modDay_retention (f : DayUnit → DayUnit) : (modDay f s).retention = s.retention := rfl
@[simp] theorem modDay_stamp (f : DayUnit → DayUnit) : (modDay f s).stamp = s.stamp := rfl
@[simp] theorem modDay_event (f : DayUnit → DayUnit) : (modDay f s).event = s.event := rfl
@[simp] theorem modDay_pending (f : DayUnit → DayUnit) : (modDay f s).pending = s.pending := rfl

@[simp] theorem setFloatWaiters_store (ws : List FloatWaiter) : (setFloatWaiters ws s).store = s.store := rfl
@[simp] theorem setFloatWaiters_day (ws : List FloatWaiter) : (setFloatWaiters ws s).day = s.day := rfl
@[simp] theorem setFloatWaiters_count (ws : List FloatWaiter) : (setFloatWaiters ws s).count = s.count := rfl
@[simp] theorem setFloatWaiters_recon (ws : List FloatWaiter) : (setFloatWaiters ws s).recon = s.recon := rfl
@[simp] theorem setFloatWaiters_safe (ws : List FloatWaiter) : (setFloatWaiters ws s).safe = s.safe := rfl
@[simp] theorem setFloatWaiters_courier (ws : List FloatWaiter) : (setFloatWaiters ws s).courier = s.courier := rfl
@[simp] theorem setFloatWaiters_ports (ws : List FloatWaiter) : (setFloatWaiters ws s).ports = s.ports := rfl
@[simp] theorem setFloatWaiters_retention (ws : List FloatWaiter) : (setFloatWaiters ws s).retention = s.retention := rfl
@[simp] theorem setFloatWaiters_stamp (ws : List FloatWaiter) : (setFloatWaiters ws s).stamp = s.stamp := rfl
@[simp] theorem setFloatWaiters_event (ws : List FloatWaiter) : (setFloatWaiters ws s).event = s.event := rfl
@[simp] theorem setFloatWaiters_pending (ws : List FloatWaiter) : (setFloatWaiters ws s).pending = s.pending := rfl

@[simp] theorem setAccessWaiters_store (ws : List AccessWaiter) : (setAccessWaiters ws s).store = s.store := rfl
@[simp] theorem setAccessWaiters_day (ws : List AccessWaiter) : (setAccessWaiters ws s).day = s.day := rfl
@[simp] theorem setAccessWaiters_float (ws : List AccessWaiter) : (setAccessWaiters ws s).float = s.float := rfl
@[simp] theorem setAccessWaiters_count (ws : List AccessWaiter) : (setAccessWaiters ws s).count = s.count := rfl
@[simp] theorem setAccessWaiters_recon (ws : List AccessWaiter) : (setAccessWaiters ws s).recon = s.recon := rfl
@[simp] theorem setAccessWaiters_courier (ws : List AccessWaiter) : (setAccessWaiters ws s).courier = s.courier := rfl
@[simp] theorem setAccessWaiters_ports (ws : List AccessWaiter) : (setAccessWaiters ws s).ports = s.ports := rfl
@[simp] theorem setAccessWaiters_retention (ws : List AccessWaiter) : (setAccessWaiters ws s).retention = s.retention := rfl
@[simp] theorem setAccessWaiters_stamp (ws : List AccessWaiter) : (setAccessWaiters ws s).stamp = s.stamp := rfl
@[simp] theorem setAccessWaiters_event (ws : List AccessWaiter) : (setAccessWaiters ws s).event = s.event := rfl
@[simp] theorem setAccessWaiters_pending (ws : List AccessWaiter) : (setAccessWaiters ws s).pending = s.pending := rfl

@[simp] theorem setCountWaiters_store (ws : List CountWaiter) : (setCountWaiters ws s).store = s.store := rfl
@[simp] theorem setCountWaiters_day (ws : List CountWaiter) : (setCountWaiters ws s).day = s.day := rfl
@[simp] theorem setCountWaiters_float (ws : List CountWaiter) : (setCountWaiters ws s).float = s.float := rfl
@[simp] theorem setCountWaiters_recon (ws : List CountWaiter) : (setCountWaiters ws s).recon = s.recon := rfl
@[simp] theorem setCountWaiters_safe (ws : List CountWaiter) : (setCountWaiters ws s).safe = s.safe := rfl
@[simp] theorem setCountWaiters_courier (ws : List CountWaiter) : (setCountWaiters ws s).courier = s.courier := rfl
@[simp] theorem setCountWaiters_ports (ws : List CountWaiter) : (setCountWaiters ws s).ports = s.ports := rfl
@[simp] theorem setCountWaiters_retention (ws : List CountWaiter) : (setCountWaiters ws s).retention = s.retention := rfl
@[simp] theorem setCountWaiters_stamp (ws : List CountWaiter) : (setCountWaiters ws s).stamp = s.stamp := rfl
@[simp] theorem setCountWaiters_event (ws : List CountWaiter) : (setCountWaiters ws s).event = s.event := rfl
@[simp] theorem setCountWaiters_pending (ws : List CountWaiter) : (setCountWaiters ws s).pending = s.pending := rfl

@[simp] theorem discardFloats_store (sel : FloatWaiter → Bool) : (discardFloats sel s).store = s.store := rfl
@[simp] theorem discardFloats_day (sel : FloatWaiter → Bool) : (discardFloats sel s).day = s.day := rfl
@[simp] theorem discardFloats_count (sel : FloatWaiter → Bool) : (discardFloats sel s).count = s.count := rfl
@[simp] theorem discardFloats_recon (sel : FloatWaiter → Bool) : (discardFloats sel s).recon = s.recon := rfl
@[simp] theorem discardFloats_safe (sel : FloatWaiter → Bool) : (discardFloats sel s).safe = s.safe := rfl
@[simp] theorem discardFloats_courier (sel : FloatWaiter → Bool) : (discardFloats sel s).courier = s.courier := rfl
@[simp] theorem discardFloats_ports (sel : FloatWaiter → Bool) : (discardFloats sel s).ports = s.ports := rfl
@[simp] theorem discardFloats_retention (sel : FloatWaiter → Bool) : (discardFloats sel s).retention = s.retention := rfl
@[simp] theorem discardFloats_stamp (sel : FloatWaiter → Bool) : (discardFloats sel s).stamp = s.stamp := rfl
@[simp] theorem discardFloats_event (sel : FloatWaiter → Bool) : (discardFloats sel s).event = s.event := rfl
@[simp] theorem discardFloats_pending (sel : FloatWaiter → Bool) : (discardFloats sel s).pending = s.pending := rfl

@[simp] theorem discardAccess_store (sel : AccessWaiter → Bool) : (discardAccess sel s).store = s.store := rfl
@[simp] theorem discardAccess_day (sel : AccessWaiter → Bool) : (discardAccess sel s).day = s.day := rfl
@[simp] theorem discardAccess_float (sel : AccessWaiter → Bool) : (discardAccess sel s).float = s.float := rfl
@[simp] theorem discardAccess_count (sel : AccessWaiter → Bool) : (discardAccess sel s).count = s.count := rfl
@[simp] theorem discardAccess_recon (sel : AccessWaiter → Bool) : (discardAccess sel s).recon = s.recon := rfl
@[simp] theorem discardAccess_courier (sel : AccessWaiter → Bool) : (discardAccess sel s).courier = s.courier := rfl
@[simp] theorem discardAccess_ports (sel : AccessWaiter → Bool) : (discardAccess sel s).ports = s.ports := rfl
@[simp] theorem discardAccess_retention (sel : AccessWaiter → Bool) : (discardAccess sel s).retention = s.retention := rfl
@[simp] theorem discardAccess_stamp (sel : AccessWaiter → Bool) : (discardAccess sel s).stamp = s.stamp := rfl
@[simp] theorem discardAccess_event (sel : AccessWaiter → Bool) : (discardAccess sel s).event = s.event := rfl
@[simp] theorem discardAccess_pending (sel : AccessWaiter → Bool) : (discardAccess sel s).pending = s.pending := rfl

@[simp] theorem discardCounts_store (sel : CountWaiter → Bool) : (discardCounts sel s).store = s.store := rfl
@[simp] theorem discardCounts_day (sel : CountWaiter → Bool) : (discardCounts sel s).day = s.day := rfl
@[simp] theorem discardCounts_float (sel : CountWaiter → Bool) : (discardCounts sel s).float = s.float := rfl
@[simp] theorem discardCounts_recon (sel : CountWaiter → Bool) : (discardCounts sel s).recon = s.recon := rfl
@[simp] theorem discardCounts_safe (sel : CountWaiter → Bool) : (discardCounts sel s).safe = s.safe := rfl
@[simp] theorem discardCounts_courier (sel : CountWaiter → Bool) : (discardCounts sel s).courier = s.courier := rfl
@[simp] theorem discardCounts_ports (sel : CountWaiter → Bool) : (discardCounts sel s).ports = s.ports := rfl
@[simp] theorem discardCounts_retention (sel : CountWaiter → Bool) : (discardCounts sel s).retention = s.retention := rfl
@[simp] theorem discardCounts_stamp (sel : CountWaiter → Bool) : (discardCounts sel s).stamp = s.stamp := rfl
@[simp] theorem discardCounts_event (sel : CountWaiter → Bool) : (discardCounts sel s).event = s.event := rfl
@[simp] theorem discardCounts_pending (sel : CountWaiter → Bool) : (discardCounts sel s).pending = s.pending := rfl

@[simp] theorem reparkFloat_store (p : Port) (tag : Tag) (k : FloatPark) : (reparkFloat p tag k s).store = s.store := rfl
@[simp] theorem reparkFloat_day (p : Port) (tag : Tag) (k : FloatPark) : (reparkFloat p tag k s).day = s.day := rfl
@[simp] theorem reparkFloat_count (p : Port) (tag : Tag) (k : FloatPark) : (reparkFloat p tag k s).count = s.count := rfl
@[simp] theorem reparkFloat_recon (p : Port) (tag : Tag) (k : FloatPark) : (reparkFloat p tag k s).recon = s.recon := rfl
@[simp] theorem reparkFloat_safe (p : Port) (tag : Tag) (k : FloatPark) : (reparkFloat p tag k s).safe = s.safe := rfl
@[simp] theorem reparkFloat_courier (p : Port) (tag : Tag) (k : FloatPark) : (reparkFloat p tag k s).courier = s.courier := rfl
@[simp] theorem reparkFloat_ports (p : Port) (tag : Tag) (k : FloatPark) : (reparkFloat p tag k s).ports = s.ports := rfl
@[simp] theorem reparkFloat_retention (p : Port) (tag : Tag) (k : FloatPark) : (reparkFloat p tag k s).retention = s.retention := rfl
@[simp] theorem reparkFloat_stamp (p : Port) (tag : Tag) (k : FloatPark) : (reparkFloat p tag k s).stamp = s.stamp := rfl
@[simp] theorem reparkFloat_event (p : Port) (tag : Tag) (k : FloatPark) : (reparkFloat p tag k s).event = s.event := rfl
@[simp] theorem reparkFloat_pending (p : Port) (tag : Tag) (k : FloatPark) : (reparkFloat p tag k s).pending = s.pending := rfl

@[simp] theorem reparkAccess_store (p : Port) (tag : Tag) (r : AccessReason) (c : Container) : (reparkAccess p tag r c s).store = s.store := rfl
@[simp] theorem reparkAccess_day (p : Port) (tag : Tag) (r : AccessReason) (c : Container) : (reparkAccess p tag r c s).day = s.day := rfl
@[simp] theorem reparkAccess_float (p : Port) (tag : Tag) (r : AccessReason) (c : Container) : (reparkAccess p tag r c s).float = s.float := rfl
@[simp] theorem reparkAccess_count (p : Port) (tag : Tag) (r : AccessReason) (c : Container) : (reparkAccess p tag r c s).count = s.count := rfl
@[simp] theorem reparkAccess_recon (p : Port) (tag : Tag) (r : AccessReason) (c : Container) : (reparkAccess p tag r c s).recon = s.recon := rfl
@[simp] theorem reparkAccess_courier (p : Port) (tag : Tag) (r : AccessReason) (c : Container) : (reparkAccess p tag r c s).courier = s.courier := rfl
@[simp] theorem reparkAccess_ports (p : Port) (tag : Tag) (r : AccessReason) (c : Container) : (reparkAccess p tag r c s).ports = s.ports := rfl
@[simp] theorem reparkAccess_retention (p : Port) (tag : Tag) (r : AccessReason) (c : Container) : (reparkAccess p tag r c s).retention = s.retention := rfl
@[simp] theorem reparkAccess_stamp (p : Port) (tag : Tag) (r : AccessReason) (c : Container) : (reparkAccess p tag r c s).stamp = s.stamp := rfl
@[simp] theorem reparkAccess_event (p : Port) (tag : Tag) (r : AccessReason) (c : Container) : (reparkAccess p tag r c s).event = s.event := rfl
@[simp] theorem reparkAccess_pending (p : Port) (tag : Tag) (r : AccessReason) (c : Container) : (reparkAccess p tag r c s).pending = s.pending := rfl

@[simp] theorem reparkCount_store (p : Port) (tag : Tag) (k : CountPark) : (reparkCount p tag k s).store = s.store := rfl
@[simp] theorem reparkCount_day (p : Port) (tag : Tag) (k : CountPark) : (reparkCount p tag k s).day = s.day := rfl
@[simp] theorem reparkCount_float (p : Port) (tag : Tag) (k : CountPark) : (reparkCount p tag k s).float = s.float := rfl
@[simp] theorem reparkCount_recon (p : Port) (tag : Tag) (k : CountPark) : (reparkCount p tag k s).recon = s.recon := rfl
@[simp] theorem reparkCount_safe (p : Port) (tag : Tag) (k : CountPark) : (reparkCount p tag k s).safe = s.safe := rfl
@[simp] theorem reparkCount_courier (p : Port) (tag : Tag) (k : CountPark) : (reparkCount p tag k s).courier = s.courier := rfl
@[simp] theorem reparkCount_ports (p : Port) (tag : Tag) (k : CountPark) : (reparkCount p tag k s).ports = s.ports := rfl
@[simp] theorem reparkCount_retention (p : Port) (tag : Tag) (k : CountPark) : (reparkCount p tag k s).retention = s.retention := rfl
@[simp] theorem reparkCount_stamp (p : Port) (tag : Tag) (k : CountPark) : (reparkCount p tag k s).stamp = s.stamp := rfl
@[simp] theorem reparkCount_event (p : Port) (tag : Tag) (k : CountPark) : (reparkCount p tag k s).event = s.event := rfl
@[simp] theorem reparkCount_pending (p : Port) (tag : Tag) (k : CountPark) : (reparkCount p tag k s).pending = s.pending := rfl

@[simp] theorem setDrawer_store (i : TillIx) (d : Option DrawerResult) : (setDrawer i d s).store = s.store := rfl
@[simp] theorem setDrawer_day (i : TillIx) (d : Option DrawerResult) : (setDrawer i d s).day = s.day := rfl
@[simp] theorem setDrawer_float (i : TillIx) (d : Option DrawerResult) : (setDrawer i d s).float = s.float := rfl
@[simp] theorem setDrawer_count (i : TillIx) (d : Option DrawerResult) : (setDrawer i d s).count = s.count := rfl
@[simp] theorem setDrawer_safe (i : TillIx) (d : Option DrawerResult) : (setDrawer i d s).safe = s.safe := rfl
@[simp] theorem setDrawer_courier (i : TillIx) (d : Option DrawerResult) : (setDrawer i d s).courier = s.courier := rfl
@[simp] theorem setDrawer_ports (i : TillIx) (d : Option DrawerResult) : (setDrawer i d s).ports = s.ports := rfl
@[simp] theorem setDrawer_retention (i : TillIx) (d : Option DrawerResult) : (setDrawer i d s).retention = s.retention := rfl
@[simp] theorem setDrawer_stamp (i : TillIx) (d : Option DrawerResult) : (setDrawer i d s).stamp = s.stamp := rfl
@[simp] theorem setDrawer_event (i : TillIx) (d : Option DrawerResult) : (setDrawer i d s).event = s.event := rfl
@[simp] theorem setDrawer_pending (i : TillIx) (d : Option DrawerResult) : (setDrawer i d s).pending = s.pending := rfl

@[simp] theorem setSupply_store (v : Supply) : (setSupply v s).store = s.store := rfl
@[simp] theorem setSupply_day (v : Supply) : (setSupply v s).day = s.day := rfl
@[simp] theorem setSupply_float (v : Supply) : (setSupply v s).float = s.float := rfl
@[simp] theorem setSupply_count (v : Supply) : (setSupply v s).count = s.count := rfl
@[simp] theorem setSupply_recon (v : Supply) : (setSupply v s).recon = s.recon := rfl
@[simp] theorem setSupply_safe (v : Supply) : (setSupply v s).safe = s.safe := rfl
@[simp] theorem setSupply_courier (v : Supply) : (setSupply v s).courier = s.courier := rfl
@[simp] theorem setSupply_ports (v : Supply) : (setSupply v s).ports = s.ports := rfl
@[simp] theorem setSupply_stamp (v : Supply) : (setSupply v s).stamp = s.stamp := rfl
@[simp] theorem setSupply_event (v : Supply) : (setSupply v s).event = s.event := rfl
@[simp] theorem setSupply_pending (v : Supply) : (setSupply v s).pending = s.pending := rfl

@[simp] theorem report_store : (report s).store = s.store := rfl
@[simp] theorem report_day : (report s).day = s.day := rfl
@[simp] theorem report_float : (report s).float = s.float := rfl
@[simp] theorem report_count : (report s).count = s.count := rfl
@[simp] theorem report_recon : (report s).recon = s.recon := rfl
@[simp] theorem report_safe : (report s).safe = s.safe := rfl
@[simp] theorem report_courier : (report s).courier = s.courier := rfl
@[simp] theorem report_ports : (report s).ports = s.ports := rfl
@[simp] theorem report_retention : (report s).retention = s.retention := rfl
@[simp] theorem report_stamp : (report s).stamp = s.stamp := rfl
@[simp] theorem report_pending : (report s).pending = s.pending := rfl

@[simp] theorem signal_store (g : Signal) : (signal g s).store = s.store := rfl
@[simp] theorem signal_day (g : Signal) : (signal g s).day = s.day := rfl
@[simp] theorem signal_float (g : Signal) : (signal g s).float = s.float := rfl
@[simp] theorem signal_count (g : Signal) : (signal g s).count = s.count := rfl
@[simp] theorem signal_recon (g : Signal) : (signal g s).recon = s.recon := rfl
@[simp] theorem signal_safe (g : Signal) : (signal g s).safe = s.safe := rfl
@[simp] theorem signal_courier (g : Signal) : (signal g s).courier = s.courier := rfl
@[simp] theorem signal_ports (g : Signal) : (signal g s).ports = s.ports := rfl
@[simp] theorem signal_retention (g : Signal) : (signal g s).retention = s.retention := rfl
@[simp] theorem signal_stamp (g : Signal) : (signal g s).stamp = s.stamp := rfl
@[simp] theorem signal_pending (g : Signal) : (signal g s).pending = s.pending := rfl

@[simp] theorem holdEntry_day : (holdEntry s).day = s.day := rfl
@[simp] theorem holdEntry_float : (holdEntry s).float = s.float := rfl
@[simp] theorem holdEntry_count : (holdEntry s).count = s.count := rfl
@[simp] theorem holdEntry_recon : (holdEntry s).recon = s.recon := rfl
@[simp] theorem holdEntry_safe : (holdEntry s).safe = s.safe := rfl
@[simp] theorem holdEntry_courier : (holdEntry s).courier = s.courier := rfl
@[simp] theorem holdEntry_ports : (holdEntry s).ports = s.ports := rfl
@[simp] theorem holdEntry_retention : (holdEntry s).retention = s.retention := rfl
@[simp] theorem holdEntry_stamp : (holdEntry s).stamp = s.stamp := rfl
@[simp] theorem holdEntry_event : (holdEntry s).event = s.event := rfl
@[simp] theorem holdEntry_pending : (holdEntry s).pending = s.pending := rfl

@[simp] theorem oweRetry_store : (oweRetry s).store = s.store := rfl
@[simp] theorem oweRetry_day : (oweRetry s).day = s.day := rfl
@[simp] theorem oweRetry_count : (oweRetry s).count = s.count := rfl
@[simp] theorem oweRetry_recon : (oweRetry s).recon = s.recon := rfl
@[simp] theorem oweRetry_safe : (oweRetry s).safe = s.safe := rfl
@[simp] theorem oweRetry_courier : (oweRetry s).courier = s.courier := rfl
@[simp] theorem oweRetry_ports : (oweRetry s).ports = s.ports := rfl
@[simp] theorem oweRetry_retention : (oweRetry s).retention = s.retention := rfl
@[simp] theorem oweRetry_stamp : (oweRetry s).stamp = s.stamp := rfl
@[simp] theorem oweRetry_event : (oweRetry s).event = s.event := rfl
@[simp] theorem oweRetry_pending : (oweRetry s).pending = s.pending := rfl

@[simp] theorem releaseLatch_store (c : CompIx) : (releaseLatch s c).store = s.store := rfl
@[simp] theorem releaseLatch_day (c : CompIx) : (releaseLatch s c).day = s.day := rfl
@[simp] theorem releaseLatch_float (c : CompIx) : (releaseLatch s c).float = s.float := rfl
@[simp] theorem releaseLatch_count (c : CompIx) : (releaseLatch s c).count = s.count := rfl
@[simp] theorem releaseLatch_recon (c : CompIx) : (releaseLatch s c).recon = s.recon := rfl
@[simp] theorem releaseLatch_courier (c : CompIx) : (releaseLatch s c).courier = s.courier := rfl
@[simp] theorem releaseLatch_ports (c : CompIx) : (releaseLatch s c).ports = s.ports := rfl
@[simp] theorem releaseLatch_retention (c : CompIx) : (releaseLatch s c).retention = s.retention := rfl
@[simp] theorem releaseLatch_stamp (c : CompIx) : (releaseLatch s c).stamp = s.stamp := rfl
@[simp] theorem releaseLatch_event (c : CompIx) : (releaseLatch s c).event = s.event := rfl
@[simp] theorem releaseLatch_pending (c : CompIx) : (releaseLatch s c).pending = s.pending := rfl

@[simp] theorem freezeNow_store : (freezeNow s).store = s.store := rfl
@[simp] theorem freezeNow_day : (freezeNow s).day = s.day := rfl
@[simp] theorem freezeNow_float : (freezeNow s).float = s.float := rfl
@[simp] theorem freezeNow_count : (freezeNow s).count = s.count := rfl
@[simp] theorem freezeNow_recon : (freezeNow s).recon = s.recon := rfl
@[simp] theorem freezeNow_courier : (freezeNow s).courier = s.courier := rfl
@[simp] theorem freezeNow_ports : (freezeNow s).ports = s.ports := rfl
@[simp] theorem freezeNow_retention : (freezeNow s).retention = s.retention := rfl
@[simp] theorem freezeNow_stamp : (freezeNow s).stamp = s.stamp := rfl
@[simp] theorem freezeNow_event : (freezeNow s).event = s.event := rfl
@[simp] theorem freezeNow_pending : (freezeNow s).pending = s.pending := rfl

@[simp] theorem markOut_store (c : CompIx) (t : TrayIx) : (markOut c t s).store = s.store := rfl
@[simp] theorem markOut_day (c : CompIx) (t : TrayIx) : (markOut c t s).day = s.day := rfl
@[simp] theorem markOut_float (c : CompIx) (t : TrayIx) : (markOut c t s).float = s.float := rfl
@[simp] theorem markOut_count (c : CompIx) (t : TrayIx) : (markOut c t s).count = s.count := rfl
@[simp] theorem markOut_recon (c : CompIx) (t : TrayIx) : (markOut c t s).recon = s.recon := rfl
@[simp] theorem markOut_courier (c : CompIx) (t : TrayIx) : (markOut c t s).courier = s.courier := rfl
@[simp] theorem markOut_ports (c : CompIx) (t : TrayIx) : (markOut c t s).ports = s.ports := rfl
@[simp] theorem markOut_retention (c : CompIx) (t : TrayIx) : (markOut c t s).retention = s.retention := rfl
@[simp] theorem markOut_stamp (c : CompIx) (t : TrayIx) : (markOut c t s).stamp = s.stamp := rfl
@[simp] theorem markOut_event (c : CompIx) (t : TrayIx) : (markOut c t s).event = s.event := rfl
@[simp] theorem markOut_pending (c : CompIx) (t : TrayIx) : (markOut c t s).pending = s.pending := rfl

@[simp] theorem holdLatch_store (c : CompIx) : (holdLatch c s).store = s.store := rfl
@[simp] theorem holdLatch_day (c : CompIx) : (holdLatch c s).day = s.day := rfl
@[simp] theorem holdLatch_float (c : CompIx) : (holdLatch c s).float = s.float := rfl
@[simp] theorem holdLatch_count (c : CompIx) : (holdLatch c s).count = s.count := rfl
@[simp] theorem holdLatch_recon (c : CompIx) : (holdLatch c s).recon = s.recon := rfl
@[simp] theorem holdLatch_courier (c : CompIx) : (holdLatch c s).courier = s.courier := rfl
@[simp] theorem holdLatch_ports (c : CompIx) : (holdLatch c s).ports = s.ports := rfl
@[simp] theorem holdLatch_retention (c : CompIx) : (holdLatch c s).retention = s.retention := rfl
@[simp] theorem holdLatch_stamp (c : CompIx) : (holdLatch c s).stamp = s.stamp := rfl
@[simp] theorem holdLatch_event (c : CompIx) : (holdLatch c s).event = s.event := rfl
@[simp] theorem holdLatch_pending (c : CompIx) : (holdLatch c s).pending = s.pending := rfl

@[simp] theorem liftLatch_store (c : CompIx) : (liftLatch c s).store = s.store := rfl
@[simp] theorem liftLatch_day (c : CompIx) : (liftLatch c s).day = s.day := rfl
@[simp] theorem liftLatch_float (c : CompIx) : (liftLatch c s).float = s.float := rfl
@[simp] theorem liftLatch_count (c : CompIx) : (liftLatch c s).count = s.count := rfl
@[simp] theorem liftLatch_recon (c : CompIx) : (liftLatch c s).recon = s.recon := rfl
@[simp] theorem liftLatch_courier (c : CompIx) : (liftLatch c s).courier = s.courier := rfl
@[simp] theorem liftLatch_ports (c : CompIx) : (liftLatch c s).ports = s.ports := rfl
@[simp] theorem liftLatch_retention (c : CompIx) : (liftLatch c s).retention = s.retention := rfl
@[simp] theorem liftLatch_stamp (c : CompIx) : (liftLatch c s).stamp = s.stamp := rfl
@[simp] theorem liftLatch_event (c : CompIx) : (liftLatch c s).event = s.event := rfl
@[simp] theorem liftLatch_pending (c : CompIx) : (liftLatch c s).pending = s.pending := rfl

@[simp] theorem clearPending_store (t : TrayIx) : (clearPending t s).store = s.store := rfl
@[simp] theorem clearPending_day (t : TrayIx) : (clearPending t s).day = s.day := rfl
@[simp] theorem clearPending_float (t : TrayIx) : (clearPending t s).float = s.float := rfl
@[simp] theorem clearPending_count (t : TrayIx) : (clearPending t s).count = s.count := rfl
@[simp] theorem clearPending_safe (t : TrayIx) : (clearPending t s).safe = s.safe := rfl
@[simp] theorem clearPending_courier (t : TrayIx) : (clearPending t s).courier = s.courier := rfl
@[simp] theorem clearPending_ports (t : TrayIx) : (clearPending t s).ports = s.ports := rfl
@[simp] theorem clearPending_retention (t : TrayIx) : (clearPending t s).retention = s.retention := rfl
@[simp] theorem clearPending_stamp (t : TrayIx) : (clearPending t s).stamp = s.stamp := rfl
@[simp] theorem clearPending_event (t : TrayIx) : (clearPending t s).event = s.event := rfl
@[simp] theorem clearPending_pending (t : TrayIx) : (clearPending t s).pending = s.pending := rfl

@[simp] theorem clearAutoPost_store (t : TrayIx) : (clearAutoPost t s).store = s.store := rfl
@[simp] theorem clearAutoPost_day (t : TrayIx) : (clearAutoPost t s).day = s.day := rfl
@[simp] theorem clearAutoPost_float (t : TrayIx) : (clearAutoPost t s).float = s.float := rfl
@[simp] theorem clearAutoPost_count (t : TrayIx) : (clearAutoPost t s).count = s.count := rfl
@[simp] theorem clearAutoPost_safe (t : TrayIx) : (clearAutoPost t s).safe = s.safe := rfl
@[simp] theorem clearAutoPost_courier (t : TrayIx) : (clearAutoPost t s).courier = s.courier := rfl
@[simp] theorem clearAutoPost_ports (t : TrayIx) : (clearAutoPost t s).ports = s.ports := rfl
@[simp] theorem clearAutoPost_retention (t : TrayIx) : (clearAutoPost t s).retention = s.retention := rfl
@[simp] theorem clearAutoPost_stamp (t : TrayIx) : (clearAutoPost t s).stamp = s.stamp := rfl
@[simp] theorem clearAutoPost_event (t : TrayIx) : (clearAutoPost t s).event = s.event := rfl
@[simp] theorem clearAutoPost_pending (t : TrayIx) : (clearAutoPost t s).pending = s.pending := rfl

@[simp] theorem recordFill_store (t : TrayIx) (ops : List Nat) : (recordFill t ops s).store = s.store := rfl
@[simp] theorem recordFill_day (t : TrayIx) (ops : List Nat) : (recordFill t ops s).day = s.day := rfl
@[simp] theorem recordFill_float (t : TrayIx) (ops : List Nat) : (recordFill t ops s).float = s.float := rfl
@[simp] theorem recordFill_count (t : TrayIx) (ops : List Nat) : (recordFill t ops s).count = s.count := rfl
@[simp] theorem recordFill_safe (t : TrayIx) (ops : List Nat) : (recordFill t ops s).safe = s.safe := rfl
@[simp] theorem recordFill_courier (t : TrayIx) (ops : List Nat) : (recordFill t ops s).courier = s.courier := rfl
@[simp] theorem recordFill_ports (t : TrayIx) (ops : List Nat) : (recordFill t ops s).ports = s.ports := rfl
@[simp] theorem recordFill_retention (t : TrayIx) (ops : List Nat) : (recordFill t ops s).retention = s.retention := rfl
@[simp] theorem recordFill_stamp (t : TrayIx) (ops : List Nat) : (recordFill t ops s).stamp = s.stamp := rfl
@[simp] theorem recordFill_event (t : TrayIx) (ops : List Nat) : (recordFill t ops s).event = s.event := rfl
@[simp] theorem recordFill_pending (t : TrayIx) (ops : List Nat) : (recordFill t ops s).pending = s.pending := rfl

@[simp] theorem sendSelect_store : (sendSelect s).store = s.store := rfl
@[simp] theorem sendSelect_day : (sendSelect s).day = s.day := rfl
@[simp] theorem sendSelect_float : (sendSelect s).float = s.float := rfl
@[simp] theorem sendSelect_recon : (sendSelect s).recon = s.recon := rfl
@[simp] theorem sendSelect_safe : (sendSelect s).safe = s.safe := rfl
@[simp] theorem sendSelect_courier : (sendSelect s).courier = s.courier := rfl
@[simp] theorem sendSelect_ports : (sendSelect s).ports = s.ports := rfl
@[simp] theorem sendSelect_retention : (sendSelect s).retention = s.retention := rfl
@[simp] theorem sendSelect_stamp : (sendSelect s).stamp = s.stamp := rfl
@[simp] theorem sendSelect_event : (sendSelect s).event = s.event := rfl
@[simp] theorem sendSelect_pending : (sendSelect s).pending = s.pending := rfl

@[simp] theorem sendAbandon_store : (sendAbandon s).store = s.store := rfl
@[simp] theorem sendAbandon_day : (sendAbandon s).day = s.day := rfl
@[simp] theorem sendAbandon_float : (sendAbandon s).float = s.float := rfl
@[simp] theorem sendAbandon_recon : (sendAbandon s).recon = s.recon := rfl
@[simp] theorem sendAbandon_safe : (sendAbandon s).safe = s.safe := rfl
@[simp] theorem sendAbandon_courier : (sendAbandon s).courier = s.courier := rfl
@[simp] theorem sendAbandon_ports : (sendAbandon s).ports = s.ports := rfl
@[simp] theorem sendAbandon_retention : (sendAbandon s).retention = s.retention := rfl
@[simp] theorem sendAbandon_stamp : (sendAbandon s).stamp = s.stamp := rfl
@[simp] theorem sendAbandon_event : (sendAbandon s).event = s.event := rfl
@[simp] theorem sendAbandon_pending : (sendAbandon s).pending = s.pending := rfl

@[simp] theorem sendCommand_store (c : LinkCommand) : (sendCommand c s).store = s.store := rfl
@[simp] theorem sendCommand_day (c : LinkCommand) : (sendCommand c s).day = s.day := rfl
@[simp] theorem sendCommand_float (c : LinkCommand) : (sendCommand c s).float = s.float := rfl
@[simp] theorem sendCommand_recon (c : LinkCommand) : (sendCommand c s).recon = s.recon := rfl
@[simp] theorem sendCommand_safe (c : LinkCommand) : (sendCommand c s).safe = s.safe := rfl
@[simp] theorem sendCommand_courier (c : LinkCommand) : (sendCommand c s).courier = s.courier := rfl
@[simp] theorem sendCommand_ports (c : LinkCommand) : (sendCommand c s).ports = s.ports := rfl
@[simp] theorem sendCommand_retention (c : LinkCommand) : (sendCommand c s).retention = s.retention := rfl
@[simp] theorem sendCommand_stamp (c : LinkCommand) : (sendCommand c s).stamp = s.stamp := rfl
@[simp] theorem sendCommand_event (c : LinkCommand) : (sendCommand c s).event = s.event := rfl
@[simp] theorem sendCommand_pending (c : LinkCommand) : (sendCommand c s).pending = s.pending := rfl

@[simp] theorem abandonOver_store : (abandonOver s).store = s.store := rfl
@[simp] theorem abandonOver_day : (abandonOver s).day = s.day := rfl
@[simp] theorem abandonOver_float : (abandonOver s).float = s.float := rfl
@[simp] theorem abandonOver_recon : (abandonOver s).recon = s.recon := rfl
@[simp] theorem abandonOver_safe : (abandonOver s).safe = s.safe := rfl
@[simp] theorem abandonOver_courier : (abandonOver s).courier = s.courier := rfl
@[simp] theorem abandonOver_ports : (abandonOver s).ports = s.ports := rfl
@[simp] theorem abandonOver_retention : (abandonOver s).retention = s.retention := rfl
@[simp] theorem abandonOver_stamp : (abandonOver s).stamp = s.stamp := rfl
@[simp] theorem abandonOver_event : (abandonOver s).event = s.event := rfl
@[simp] theorem abandonOver_pending : (abandonOver s).pending = s.pending := rfl

@[simp] theorem giveCount_store (t : TrayIx) : (giveCount t s).store = s.store := rfl
@[simp] theorem giveCount_day (t : TrayIx) : (giveCount t s).day = s.day := rfl
@[simp] theorem giveCount_float (t : TrayIx) : (giveCount t s).float = s.float := rfl
@[simp] theorem giveCount_recon (t : TrayIx) : (giveCount t s).recon = s.recon := rfl
@[simp] theorem giveCount_safe (t : TrayIx) : (giveCount t s).safe = s.safe := rfl
@[simp] theorem giveCount_courier (t : TrayIx) : (giveCount t s).courier = s.courier := rfl
@[simp] theorem giveCount_ports (t : TrayIx) : (giveCount t s).ports = s.ports := rfl
@[simp] theorem giveCount_retention (t : TrayIx) : (giveCount t s).retention = s.retention := rfl
@[simp] theorem giveCount_stamp (t : TrayIx) : (giveCount t s).stamp = s.stamp := rfl
@[simp] theorem giveCount_event (t : TrayIx) : (giveCount t s).event = s.event := rfl
@[simp] theorem giveCount_pending (t : TrayIx) : (giveCount t s).pending = s.pending := rfl

@[simp] theorem beginSession_store (w : WindowIx) (badge : Nat) (c : CompIx) : (beginSession w badge c s).store = s.store := rfl
@[simp] theorem beginSession_day (w : WindowIx) (badge : Nat) (c : CompIx) : (beginSession w badge c s).day = s.day := rfl
@[simp] theorem beginSession_float (w : WindowIx) (badge : Nat) (c : CompIx) : (beginSession w badge c s).float = s.float := rfl
@[simp] theorem beginSession_count (w : WindowIx) (badge : Nat) (c : CompIx) : (beginSession w badge c s).count = s.count := rfl
@[simp] theorem beginSession_recon (w : WindowIx) (badge : Nat) (c : CompIx) : (beginSession w badge c s).recon = s.recon := rfl
@[simp] theorem beginSession_ports (w : WindowIx) (badge : Nat) (c : CompIx) : (beginSession w badge c s).ports = s.ports := rfl
@[simp] theorem beginSession_retention (w : WindowIx) (badge : Nat) (c : CompIx) : (beginSession w badge c s).retention = s.retention := rfl
@[simp] theorem beginSession_stamp (w : WindowIx) (badge : Nat) (c : CompIx) : (beginSession w badge c s).stamp = s.stamp := rfl
@[simp] theorem beginSession_event (w : WindowIx) (badge : Nat) (c : CompIx) : (beginSession w badge c s).event = s.event := rfl
@[simp] theorem beginSession_pending (w : WindowIx) (badge : Nat) (c : CompIx) : (beginSession w badge c s).pending = s.pending := rfl

@[simp] theorem resetWindows_store (st : WindowState) : (resetWindows st s).store = s.store := rfl
@[simp] theorem resetWindows_day (st : WindowState) : (resetWindows st s).day = s.day := rfl
@[simp] theorem resetWindows_float (st : WindowState) : (resetWindows st s).float = s.float := rfl
@[simp] theorem resetWindows_count (st : WindowState) : (resetWindows st s).count = s.count := rfl
@[simp] theorem resetWindows_recon (st : WindowState) : (resetWindows st s).recon = s.recon := rfl
@[simp] theorem resetWindows_safe (st : WindowState) : (resetWindows st s).safe = s.safe := rfl
@[simp] theorem resetWindows_ports (st : WindowState) : (resetWindows st s).ports = s.ports := rfl
@[simp] theorem resetWindows_retention (st : WindowState) : (resetWindows st s).retention = s.retention := rfl
@[simp] theorem resetWindows_stamp (st : WindowState) : (resetWindows st s).stamp = s.stamp := rfl
@[simp] theorem resetWindows_event (st : WindowState) : (resetWindows st s).event = s.event := rfl
@[simp] theorem resetWindows_pending (st : WindowState) : (resetWindows st s).pending = s.pending := rfl

@[simp] theorem takeBase_day : (takeBase s).day = s.day := rfl
@[simp] theorem takeBase_float : (takeBase s).float = s.float := rfl
@[simp] theorem takeBase_count : (takeBase s).count = s.count := rfl
@[simp] theorem takeBase_recon : (takeBase s).recon = s.recon := rfl
@[simp] theorem takeBase_safe : (takeBase s).safe = s.safe := rfl
@[simp] theorem takeBase_courier : (takeBase s).courier = s.courier := rfl
@[simp] theorem takeBase_ports : (takeBase s).ports = s.ports := rfl
@[simp] theorem takeBase_retention : (takeBase s).retention = s.retention := rfl
@[simp] theorem takeBase_stamp : (takeBase s).stamp = s.stamp := rfl
@[simp] theorem takeBase_event : (takeBase s).event = s.event := rfl
@[simp] theorem takeBase_pending : (takeBase s).pending = s.pending := rfl

@[simp] theorem freeHanded_day : (freeHanded s).day = s.day := by simp [freeHanded]
@[simp] theorem freeHanded_float : (freeHanded s).float = s.float := by simp [freeHanded]
@[simp] theorem freeHanded_count : (freeHanded s).count = s.count := by simp [freeHanded]
@[simp] theorem freeHanded_recon : (freeHanded s).recon = s.recon := by simp [freeHanded]
@[simp] theorem freeHanded_safe : (freeHanded s).safe = s.safe := by simp [freeHanded]
@[simp] theorem freeHanded_ports : (freeHanded s).ports = s.ports := by simp [freeHanded]
@[simp] theorem freeHanded_retention : (freeHanded s).retention = s.retention := by simp [freeHanded]
@[simp] theorem freeHanded_stamp : (freeHanded s).stamp = s.stamp := by simp [freeHanded]
@[simp] theorem freeHanded_event : (freeHanded s).event = s.event := by simp [freeHanded]
@[simp] theorem freeHanded_pending : (freeHanded s).pending = s.pending := by simp [freeHanded]

@[simp] theorem passEntry_store (i : PlanIx) : (passEntry i s).store = s.store := rfl
@[simp] theorem passEntry_float (i : PlanIx) : (passEntry i s).float = s.float := rfl
@[simp] theorem passEntry_count (i : PlanIx) : (passEntry i s).count = s.count := rfl
@[simp] theorem passEntry_recon (i : PlanIx) : (passEntry i s).recon = s.recon := rfl
@[simp] theorem passEntry_safe (i : PlanIx) : (passEntry i s).safe = s.safe := rfl
@[simp] theorem passEntry_courier (i : PlanIx) : (passEntry i s).courier = s.courier := rfl
@[simp] theorem passEntry_ports (i : PlanIx) : (passEntry i s).ports = s.ports := rfl
@[simp] theorem passEntry_retention (i : PlanIx) : (passEntry i s).retention = s.retention := rfl
@[simp] theorem passEntry_stamp (i : PlanIx) : (passEntry i s).stamp = s.stamp := rfl
@[simp] theorem passEntry_event (i : PlanIx) : (passEntry i s).event = s.event := rfl
@[simp] theorem passEntry_pending (i : PlanIx) : (passEntry i s).pending = s.pending := rfl

@[simp] theorem tickTimers_store : (tickTimers s).store = s.store := rfl
@[simp] theorem tickTimers_day : (tickTimers s).day = s.day := rfl
@[simp] theorem tickTimers_recon : (tickTimers s).recon = s.recon := rfl
@[simp] theorem tickTimers_ports : (tickTimers s).ports = s.ports := rfl
@[simp] theorem tickTimers_retention : (tickTimers s).retention = s.retention := rfl
@[simp] theorem tickTimers_stamp : (tickTimers s).stamp = s.stamp := rfl
@[simp] theorem tickTimers_event : (tickTimers s).event = s.event := rfl
@[simp] theorem tickTimers_pending : (tickTimers s).pending = s.pending := rfl

@[simp] theorem tickLimits_store : (tickLimits s).store = s.store := rfl
@[simp] theorem tickLimits_day : (tickLimits s).day = s.day := rfl
@[simp] theorem tickLimits_ports : (tickLimits s).ports = s.ports := rfl
@[simp] theorem tickLimits_retention : (tickLimits s).retention = s.retention := rfl
@[simp] theorem tickLimits_stamp : (tickLimits s).stamp = s.stamp := rfl
@[simp] theorem tickLimits_event : (tickLimits s).event = s.event := rfl
@[simp] theorem tickLimits_pending : (tickLimits s).pending = s.pending := rfl

@[simp] theorem returnFloat_store : (returnFloat s).store = s.store := rfl
@[simp] theorem returnFloat_day : (returnFloat s).day = s.day := rfl
@[simp] theorem returnFloat_count : (returnFloat s).count = s.count := rfl
@[simp] theorem returnFloat_recon : (returnFloat s).recon = s.recon := rfl
@[simp] theorem returnFloat_safe : (returnFloat s).safe = s.safe := rfl
@[simp] theorem returnFloat_courier : (returnFloat s).courier = s.courier := rfl
@[simp] theorem returnFloat_ports : (returnFloat s).ports = s.ports := rfl
@[simp] theorem returnFloat_retention : (returnFloat s).retention = s.retention := rfl
@[simp] theorem returnFloat_stamp : (returnFloat s).stamp = s.stamp := rfl
@[simp] theorem returnFloat_event : (returnFloat s).event = s.event := rfl
@[simp] theorem returnFloat_pending : (returnFloat s).pending = s.pending := rfl

@[simp] theorem returnRecon_store : (returnRecon s).store = s.store := rfl
@[simp] theorem returnRecon_day : (returnRecon s).day = s.day := rfl
@[simp] theorem returnRecon_float : (returnRecon s).float = s.float := rfl
@[simp] theorem returnRecon_count : (returnRecon s).count = s.count := rfl
@[simp] theorem returnRecon_safe : (returnRecon s).safe = s.safe := rfl
@[simp] theorem returnRecon_courier : (returnRecon s).courier = s.courier := rfl
@[simp] theorem returnRecon_ports : (returnRecon s).ports = s.ports := rfl
@[simp] theorem returnRecon_retention : (returnRecon s).retention = s.retention := rfl
@[simp] theorem returnRecon_stamp : (returnRecon s).stamp = s.stamp := rfl
@[simp] theorem returnRecon_event : (returnRecon s).event = s.event := rfl
@[simp] theorem returnRecon_pending : (returnRecon s).pending = s.pending := rfl

@[simp] theorem writeEntry_day (m : Movement) : (writeEntry m s).day = s.day := rfl
@[simp] theorem writeEntry_float (m : Movement) : (writeEntry m s).float = s.float := rfl
@[simp] theorem writeEntry_count (m : Movement) : (writeEntry m s).count = s.count := rfl
@[simp] theorem writeEntry_recon (m : Movement) : (writeEntry m s).recon = s.recon := rfl
@[simp] theorem writeEntry_safe (m : Movement) : (writeEntry m s).safe = s.safe := rfl
@[simp] theorem writeEntry_courier (m : Movement) : (writeEntry m s).courier = s.courier := rfl
@[simp] theorem writeEntry_ports (m : Movement) : (writeEntry m s).ports = s.ports := rfl
@[simp] theorem writeEntry_retention (m : Movement) : (writeEntry m s).retention = s.retention := rfl
@[simp] theorem writeEntry_stamp (m : Movement) : (writeEntry m s).stamp = s.stamp := rfl
@[simp] theorem writeEntry_event (m : Movement) : (writeEntry m s).event = s.event := rfl
@[simp] theorem writeEntry_pending (m : Movement) : (writeEntry m s).pending = s.pending := rfl

end Sys2Proof.Machine
end

