-- ==== Sys2Proof/Laws/Frames.lean ====
section
/-! SUPPORT. What each shared operation leaves as it was: one lemma for each operation, a conjunction over the parts of the state
it does not touch. Tagged `@[simp]`, each conjunct rewrites on its own. -/

namespace Sys2Proof.Machine

@[simp] theorem modPort_frame (p : Port) (f : PortRec → PortRec) (s : State) :
    (modPort p f s).store = s.store
      ∧ (modPort p f s).day = s.day
      ∧ (modPort p f s).float = s.float
      ∧ (modPort p f s).count = s.count
      ∧ (modPort p f s).recon = s.recon
      ∧ (modPort p f s).safe = s.safe
      ∧ (modPort p f s).courier = s.courier
      ∧ (modPort p f s).retention = s.retention
      ∧ (modPort p f s).stamp = s.stamp
      ∧ (modPort p f s).event = s.event
      ∧ (modPort p f s).pending = s.pending := by
  cases p <;> simp [modPort]

@[simp] theorem setSlot_frame (p : Port) (tag : Tag) (st : SlotState) (s : State) :
    (setSlot p tag st s).store = s.store
      ∧ (setSlot p tag st s).day = s.day
      ∧ (setSlot p tag st s).float = s.float
      ∧ (setSlot p tag st s).count = s.count
      ∧ (setSlot p tag st s).recon = s.recon
      ∧ (setSlot p tag st s).safe = s.safe
      ∧ (setSlot p tag st s).courier = s.courier
      ∧ (setSlot p tag st s).retention = s.retention
      ∧ (setSlot p tag st s).stamp = s.stamp
      ∧ (setSlot p tag st s).event = s.event
      ∧ (setSlot p tag st s).pending = s.pending := by
  unfold setSlot; (try dsimp only); (repeat' split) <;> simp

@[simp] theorem setHolding_frame (c : Container) (v : Counts) (s : State) :
    (setHolding c v s).day = s.day
      ∧ (setHolding c v s).float = s.float
      ∧ (setHolding c v s).count = s.count
      ∧ (setHolding c v s).recon = s.recon
      ∧ (setHolding c v s).safe = s.safe
      ∧ (setHolding c v s).courier = s.courier
      ∧ (setHolding c v s).ports = s.ports
      ∧ (setHolding c v s).retention = s.retention
      ∧ (setHolding c v s).stamp = s.stamp
      ∧ (setHolding c v s).event = s.event
      ∧ (setHolding c v s).pending = s.pending := by
  cases c <;> simp [setHolding]

@[simp] theorem setStepBits_frame (c : Container) (b : StepBits) (s : State) :
    (setStepBits c b s).day = s.day
      ∧ (setStepBits c b s).float = s.float
      ∧ (setStepBits c b s).count = s.count
      ∧ (setStepBits c b s).recon = s.recon
      ∧ (setStepBits c b s).safe = s.safe
      ∧ (setStepBits c b s).courier = s.courier
      ∧ (setStepBits c b s).ports = s.ports
      ∧ (setStepBits c b s).retention = s.retention
      ∧ (setStepBits c b s).stamp = s.stamp
      ∧ (setStepBits c b s).event = s.event
      ∧ (setStepBits c b s).pending = s.pending := by
  cases c <;> simp [setStepBits]

@[simp] theorem raise_frame (k : NoticeKind) (x : Subject) (l : List Field) (s : State) :
    (raise k x l s).store = s.store
      ∧ (raise k x l s).day = s.day
      ∧ (raise k x l s).float = s.float
      ∧ (raise k x l s).count = s.count
      ∧ (raise k x l s).recon = s.recon
      ∧ (raise k x l s).safe = s.safe
      ∧ (raise k x l s).courier = s.courier
      ∧ (raise k x l s).retention = s.retention
      ∧ (raise k x l s).stamp = s.stamp
      ∧ (raise k x l s).event = s.event
      ∧ (raise k x l s).pending = s.pending := by
  unfold raise; (try dsimp only); (repeat' split) <;> simp

@[simp] theorem answer_frame (p : Port) (tag : Tag) (c : Code) (d : Nat) (l : List Field) (s : State) :
    (answer p tag c d l s).store = s.store
      ∧ (answer p tag c d l s).day = s.day
      ∧ (answer p tag c d l s).float = s.float
      ∧ (answer p tag c d l s).count = s.count
      ∧ (answer p tag c d l s).recon = s.recon
      ∧ (answer p tag c d l s).safe = s.safe
      ∧ (answer p tag c d l s).courier = s.courier
      ∧ (answer p tag c d l s).retention = s.retention
      ∧ (answer p tag c d l s).stamp = s.stamp
      ∧ (answer p tag c d l s).event = s.event
      ∧ (answer p tag c d l s).pending = s.pending := by
  unfold answer; (try dsimp only); (repeat' split) <;> simp

@[simp] theorem rejectTag_frame (p : Port) (tag : Tag) (s : State) :
    (rejectTag p tag s).store = s.store
      ∧ (rejectTag p tag s).day = s.day
      ∧ (rejectTag p tag s).float = s.float
      ∧ (rejectTag p tag s).count = s.count
      ∧ (rejectTag p tag s).recon = s.recon
      ∧ (rejectTag p tag s).safe = s.safe
      ∧ (rejectTag p tag s).courier = s.courier
      ∧ (rejectTag p tag s).retention = s.retention
      ∧ (rejectTag p tag s).stamp = s.stamp
      ∧ (rejectTag p tag s).event = s.event
      ∧ (rejectTag p tag s).pending = s.pending := by
  unfold rejectTag; (try dsimp only); (repeat' split) <;> simp

@[simp] theorem takeSlot_frame (p : Port) (tag : Tag) (code : Nat) (s : State) :
    (takeSlot p tag code s).store = s.store
      ∧ (takeSlot p tag code s).day = s.day
      ∧ (takeSlot p tag code s).float = s.float
      ∧ (takeSlot p tag code s).count = s.count
      ∧ (takeSlot p tag code s).recon = s.recon
      ∧ (takeSlot p tag code s).safe = s.safe
      ∧ (takeSlot p tag code s).courier = s.courier
      ∧ (takeSlot p tag code s).retention = s.retention
      ∧ (takeSlot p tag code s).stamp = s.stamp
      ∧ (takeSlot p tag code s).event = s.event
      ∧ (takeSlot p tag code s).pending = s.pending := by
  unfold takeSlot; (try dsimp only); (repeat' split) <;> simp

@[simp] theorem startFrames_frame (s : State) :
    (startFrames s).store = s.store
      ∧ (startFrames s).day = s.day
      ∧ (startFrames s).float = s.float
      ∧ (startFrames s).count = s.count
      ∧ (startFrames s).recon = s.recon
      ∧ (startFrames s).safe = s.safe
      ∧ (startFrames s).courier = s.courier
      ∧ (startFrames s).retention = s.retention
      ∧ (startFrames s).stamp = s.stamp
      ∧ (startFrames s).event = s.event
      ∧ (startFrames s).pending = s.pending := by
  unfold startFrames; (try dsimp only); (repeat' split) <;> simp

@[simp] theorem heard_frame (p : Port) (s : State) :
    (heard p s).store = s.store
      ∧ (heard p s).day = s.day
      ∧ (heard p s).float = s.float
      ∧ (heard p s).count = s.count
      ∧ (heard p s).recon = s.recon
      ∧ (heard p s).safe = s.safe
      ∧ (heard p s).retention = s.retention
      ∧ (heard p s).stamp = s.stamp
      ∧ (heard p s).event = s.event
      ∧ (heard p s).pending = s.pending := by
  cases p <;> simp [heard]

@[simp] theorem journalMarks_frame (n : Nat) (s : State) :
    (journalMarks n s).day = s.day
      ∧ (journalMarks n s).float = s.float
      ∧ (journalMarks n s).count = s.count
      ∧ (journalMarks n s).recon = s.recon
      ∧ (journalMarks n s).safe = s.safe
      ∧ (journalMarks n s).courier = s.courier
      ∧ (journalMarks n s).retention = s.retention
      ∧ (journalMarks n s).stamp = s.stamp
      ∧ (journalMarks n s).event = s.event
      ∧ (journalMarks n s).pending = s.pending := by
  unfold journalMarks; (try dsimp only); (repeat' split) <;> simp

@[simp] theorem releaseEntry_frame (s : State) :
    (releaseEntry s).day = s.day
      ∧ (releaseEntry s).float = s.float
      ∧ (releaseEntry s).count = s.count
      ∧ (releaseEntry s).recon = s.recon
      ∧ (releaseEntry s).safe = s.safe
      ∧ (releaseEntry s).courier = s.courier
      ∧ (releaseEntry s).retention = s.retention
      ∧ (releaseEntry s).stamp = s.stamp
      ∧ (releaseEntry s).event = s.event
      ∧ (releaseEntry s).pending = s.pending := by
  unfold releaseEntry; (try dsimp only); (repeat' split) <;> simp

@[simp] theorem movePosition_frame (m : Movement) (s : State) :
    (movePosition m s).day = s.day
      ∧ (movePosition m s).float = s.float
      ∧ (movePosition m s).count = s.count
      ∧ (movePosition m s).recon = s.recon
      ∧ (movePosition m s).safe = s.safe
      ∧ (movePosition m s).courier = s.courier
      ∧ (movePosition m s).ports = s.ports
      ∧ (movePosition m s).retention = s.retention
      ∧ (movePosition m s).stamp = s.stamp
      ∧ (movePosition m s).event = s.event
      ∧ (movePosition m s).pending = s.pending := by
  unfold movePosition; (try dsimp only); (repeat' split) <;> simp

@[simp] theorem markStep_frame (n : Nat) (s : State) (c : Container) :
    (markStep n s c).day = s.day
      ∧ (markStep n s c).float = s.float
      ∧ (markStep n s c).count = s.count
      ∧ (markStep n s c).recon = s.recon
      ∧ (markStep n s c).safe = s.safe
      ∧ (markStep n s c).courier = s.courier
      ∧ (markStep n s c).retention = s.retention
      ∧ (markStep n s c).stamp = s.stamp
      ∧ (markStep n s c).event = s.event
      ∧ (markStep n s c).pending = s.pending := by
  unfold markStep; (try dsimp only); (repeat' split) <;> simp

@[simp] theorem releaseLatch_frame (s : State) (c : CompIx) :
    (releaseLatch s c).store = s.store
      ∧ (releaseLatch s c).day = s.day
      ∧ (releaseLatch s c).float = s.float
      ∧ (releaseLatch s c).count = s.count
      ∧ (releaseLatch s c).recon = s.recon
      ∧ (releaseLatch s c).courier = s.courier
      ∧ (releaseLatch s c).ports = s.ports
      ∧ (releaseLatch s c).retention = s.retention
      ∧ (releaseLatch s c).stamp = s.stamp
      ∧ (releaseLatch s c).event = s.event
      ∧ (releaseLatch s c).pending = s.pending := by
  simp [releaseLatch]

@[simp] theorem fold_setHolding_frame (g : Container → Counts) (l : List Container) (s : State) :
    (l.foldl (fun acc c => setHolding c (g c) acc) s).day = s.day
      ∧ (l.foldl (fun acc c => setHolding c (g c) acc) s).float = s.float
      ∧ (l.foldl (fun acc c => setHolding c (g c) acc) s).count = s.count
      ∧ (l.foldl (fun acc c => setHolding c (g c) acc) s).recon = s.recon
      ∧ (l.foldl (fun acc c => setHolding c (g c) acc) s).safe = s.safe
      ∧ (l.foldl (fun acc c => setHolding c (g c) acc) s).courier = s.courier
      ∧ (l.foldl (fun acc c => setHolding c (g c) acc) s).ports = s.ports
      ∧ (l.foldl (fun acc c => setHolding c (g c) acc) s).retention = s.retention
      ∧ (l.foldl (fun acc c => setHolding c (g c) acc) s).stamp = s.stamp
      ∧ (l.foldl (fun acc c => setHolding c (g c) acc) s).event = s.event
      ∧ (l.foldl (fun acc c => setHolding c (g c) acc) s).pending = s.pending := by
  induction l generalizing s with
  | nil => simp
  | cons c l ih => simp [ih]

@[simp] theorem fold_markStep_frame (n : Nat) (l : List Container) (s : State) :
    (l.foldl (markStep n) s).day = s.day
      ∧ (l.foldl (markStep n) s).float = s.float
      ∧ (l.foldl (markStep n) s).count = s.count
      ∧ (l.foldl (markStep n) s).recon = s.recon
      ∧ (l.foldl (markStep n) s).safe = s.safe
      ∧ (l.foldl (markStep n) s).courier = s.courier
      ∧ (l.foldl (markStep n) s).retention = s.retention
      ∧ (l.foldl (markStep n) s).stamp = s.stamp
      ∧ (l.foldl (markStep n) s).event = s.event
      ∧ (l.foldl (markStep n) s).pending = s.pending := by
  induction l generalizing s with
  | nil => simp
  | cons c l ih => simp [ih]

@[simp] theorem fold_releaseLatch_frame (l : List CompIx) (s : State) :
    (l.foldl releaseLatch s).store = s.store
      ∧ (l.foldl releaseLatch s).day = s.day
      ∧ (l.foldl releaseLatch s).float = s.float
      ∧ (l.foldl releaseLatch s).count = s.count
      ∧ (l.foldl releaseLatch s).recon = s.recon
      ∧ (l.foldl releaseLatch s).courier = s.courier
      ∧ (l.foldl releaseLatch s).ports = s.ports
      ∧ (l.foldl releaseLatch s).retention = s.retention
      ∧ (l.foldl releaseLatch s).stamp = s.stamp
      ∧ (l.foldl releaseLatch s).event = s.event
      ∧ (l.foldl releaseLatch s).pending = s.pending := by
  induction l generalizing s with
  | nil => simp
  | cons c l ih => simp [ih]

@[simp] theorem moveHoldings_frame (m : Movement) (s : State) :
    (moveHoldings m s).day = s.day
      ∧ (moveHoldings m s).float = s.float
      ∧ (moveHoldings m s).count = s.count
      ∧ (moveHoldings m s).recon = s.recon
      ∧ (moveHoldings m s).safe = s.safe
      ∧ (moveHoldings m s).courier = s.courier
      ∧ (moveHoldings m s).ports = s.ports
      ∧ (moveHoldings m s).retention = s.retention
      ∧ (moveHoldings m s).stamp = s.stamp
      ∧ (moveHoldings m s).event = s.event
      ∧ (moveHoldings m s).pending = s.pending := by
  simp [moveHoldings]

@[simp] theorem applyMove_frame (m : Movement) (s : State) :
    (applyMove m s).day = s.day
      ∧ (applyMove m s).count = s.count
      ∧ (applyMove m s).recon = s.recon
      ∧ (applyMove m s).courier = s.courier
      ∧ (applyMove m s).retention = s.retention
      ∧ (applyMove m s).stamp = s.stamp
      ∧ (applyMove m s).event = s.event
      ∧ (applyMove m s).pending = s.pending := by
  unfold applyMove; (try dsimp only); (repeat' split) <;> simp

@[simp] theorem fold_applyMove_frame (l : List Movement) (s : State) :
    (l.foldl (fun acc m => applyMove m acc) s).day = s.day
      ∧ (l.foldl (fun acc m => applyMove m acc) s).count = s.count
      ∧ (l.foldl (fun acc m => applyMove m acc) s).recon = s.recon
      ∧ (l.foldl (fun acc m => applyMove m acc) s).courier = s.courier
      ∧ (l.foldl (fun acc m => applyMove m acc) s).retention = s.retention
      ∧ (l.foldl (fun acc m => applyMove m acc) s).stamp = s.stamp
      ∧ (l.foldl (fun acc m => applyMove m acc) s).event = s.event
      ∧ (l.foldl (fun acc m => applyMove m acc) s).pending = s.pending := by
  induction l generalizing s with
  | nil => simp
  | cons c l ih => simp [ih]

@[simp] theorem storeEvent_frame (ms : List Movement) (hold : Bool) (s : State) :
    (storeEvent ms hold s).day = s.day
      ∧ (storeEvent ms hold s).count = s.count
      ∧ (storeEvent ms hold s).recon = s.recon
      ∧ (storeEvent ms hold s).courier = s.courier
      ∧ (storeEvent ms hold s).retention = s.retention
      ∧ (storeEvent ms hold s).stamp = s.stamp
      ∧ (storeEvent ms hold s).event = s.event
      ∧ (storeEvent ms hold s).pending = s.pending := by
  unfold storeEvent; (try dsimp only); (repeat' split) <;> simp

@[simp] theorem raisePickup_frame (i : TillIx) (n : Nat) (s : State) :
    (raisePickup i n s).store = s.store
      ∧ (raisePickup i n s).day = s.day
      ∧ (raisePickup i n s).float = s.float
      ∧ (raisePickup i n s).count = s.count
      ∧ (raisePickup i n s).recon = s.recon
      ∧ (raisePickup i n s).safe = s.safe
      ∧ (raisePickup i n s).courier = s.courier
      ∧ (raisePickup i n s).retention = s.retention
      ∧ (raisePickup i n s).stamp = s.stamp
      ∧ (raisePickup i n s).event = s.event
      ∧ (raisePickup i n s).pending = s.pending := by
  unfold raisePickup; (try dsimp only); (repeat' split) <;> simp

@[simp] theorem evaluate_frame (i : TillIx) (s : State) :
    (evaluate i s).store = s.store
      ∧ (evaluate i s).day = s.day
      ∧ (evaluate i s).count = s.count
      ∧ (evaluate i s).recon = s.recon
      ∧ (evaluate i s).safe = s.safe
      ∧ (evaluate i s).courier = s.courier
      ∧ (evaluate i s).retention = s.retention
      ∧ (evaluate i s).stamp = s.stamp
      ∧ (evaluate i s).event = s.event
      ∧ (evaluate i s).pending = s.pending := by
  unfold evaluate; (try dsimp only); (repeat' split) <;> simp

@[simp] theorem fold_pickup_frame (l : List TillIx) (s : State) :
    (l.foldl (fun acc i => if armable (tillOf acc i) && decide (((tillOf acc i).limit / 2 : Nat) ≤ estimate (tillOf acc i)) then raisePickup i 1 acc else acc) s).store = s.store
      ∧ (l.foldl (fun acc i => if armable (tillOf acc i) && decide (((tillOf acc i).limit / 2 : Nat) ≤ estimate (tillOf acc i)) then raisePickup i 1 acc else acc) s).day = s.day
      ∧ (l.foldl (fun acc i => if armable (tillOf acc i) && decide (((tillOf acc i).limit / 2 : Nat) ≤ estimate (tillOf acc i)) then raisePickup i 1 acc else acc) s).float = s.float
      ∧ (l.foldl (fun acc i => if armable (tillOf acc i) && decide (((tillOf acc i).limit / 2 : Nat) ≤ estimate (tillOf acc i)) then raisePickup i 1 acc else acc) s).count = s.count
      ∧ (l.foldl (fun acc i => if armable (tillOf acc i) && decide (((tillOf acc i).limit / 2 : Nat) ≤ estimate (tillOf acc i)) then raisePickup i 1 acc else acc) s).recon = s.recon
      ∧ (l.foldl (fun acc i => if armable (tillOf acc i) && decide (((tillOf acc i).limit / 2 : Nat) ≤ estimate (tillOf acc i)) then raisePickup i 1 acc else acc) s).safe = s.safe
      ∧ (l.foldl (fun acc i => if armable (tillOf acc i) && decide (((tillOf acc i).limit / 2 : Nat) ≤ estimate (tillOf acc i)) then raisePickup i 1 acc else acc) s).courier = s.courier
      ∧ (l.foldl (fun acc i => if armable (tillOf acc i) && decide (((tillOf acc i).limit / 2 : Nat) ≤ estimate (tillOf acc i)) then raisePickup i 1 acc else acc) s).retention = s.retention
      ∧ (l.foldl (fun acc i => if armable (tillOf acc i) && decide (((tillOf acc i).limit / 2 : Nat) ≤ estimate (tillOf acc i)) then raisePickup i 1 acc else acc) s).stamp = s.stamp
      ∧ (l.foldl (fun acc i => if armable (tillOf acc i) && decide (((tillOf acc i).limit / 2 : Nat) ≤ estimate (tillOf acc i)) then raisePickup i 1 acc else acc) s).event = s.event
      ∧ (l.foldl (fun acc i => if armable (tillOf acc i) && decide (((tillOf acc i).limit / 2 : Nat) ≤ estimate (tillOf acc i)) then raisePickup i 1 acc else acc) s).pending = s.pending := by
  induction l generalizing s with
  | nil => simp
  | cons c l ih => simp only [List.foldl_cons]; split <;> simp only [ih, raisePickup_frame, and_self]

@[simp] theorem pickupRound_frame (s : State) :
    (pickupRound s).store = s.store
      ∧ (pickupRound s).day = s.day
      ∧ (pickupRound s).float = s.float
      ∧ (pickupRound s).count = s.count
      ∧ (pickupRound s).recon = s.recon
      ∧ (pickupRound s).safe = s.safe
      ∧ (pickupRound s).courier = s.courier
      ∧ (pickupRound s).retention = s.retention
      ∧ (pickupRound s).stamp = s.stamp
      ∧ (pickupRound s).event = s.event
      ∧ (pickupRound s).pending = s.pending := by
  exact fold_pickup_frame _ s

@[simp] theorem fold_answerF_frame (c : Code) (l : List FloatWaiter) (s : State) :
    (l.foldl (fun acc w => answer w.port w.tag c 0 [] acc) s).store = s.store
      ∧ (l.foldl (fun acc w => answer w.port w.tag c 0 [] acc) s).day = s.day
      ∧ (l.foldl (fun acc w => answer w.port w.tag c 0 [] acc) s).float = s.float
      ∧ (l.foldl (fun acc w => answer w.port w.tag c 0 [] acc) s).count = s.count
      ∧ (l.foldl (fun acc w => answer w.port w.tag c 0 [] acc) s).recon = s.recon
      ∧ (l.foldl (fun acc w => answer w.port w.tag c 0 [] acc) s).safe = s.safe
      ∧ (l.foldl (fun acc w => answer w.port w.tag c 0 [] acc) s).courier = s.courier
      ∧ (l.foldl (fun acc w => answer w.port w.tag c 0 [] acc) s).retention = s.retention
      ∧ (l.foldl (fun acc w => answer w.port w.tag c 0 [] acc) s).stamp = s.stamp
      ∧ (l.foldl (fun acc w => answer w.port w.tag c 0 [] acc) s).event = s.event
      ∧ (l.foldl (fun acc w => answer w.port w.tag c 0 [] acc) s).pending = s.pending := by
  induction l generalizing s with
  | nil => simp
  | cons c l ih => simp [ih]

@[simp] theorem fold_answerC_frame (c : Code) (l : List CountWaiter) (s : State) :
    (l.foldl (fun acc w => answer w.port w.tag c 0 [] acc) s).store = s.store
      ∧ (l.foldl (fun acc w => answer w.port w.tag c 0 [] acc) s).day = s.day
      ∧ (l.foldl (fun acc w => answer w.port w.tag c 0 [] acc) s).float = s.float
      ∧ (l.foldl (fun acc w => answer w.port w.tag c 0 [] acc) s).count = s.count
      ∧ (l.foldl (fun acc w => answer w.port w.tag c 0 [] acc) s).recon = s.recon
      ∧ (l.foldl (fun acc w => answer w.port w.tag c 0 [] acc) s).safe = s.safe
      ∧ (l.foldl (fun acc w => answer w.port w.tag c 0 [] acc) s).courier = s.courier
      ∧ (l.foldl (fun acc w => answer w.port w.tag c 0 [] acc) s).retention = s.retention
      ∧ (l.foldl (fun acc w => answer w.port w.tag c 0 [] acc) s).stamp = s.stamp
      ∧ (l.foldl (fun acc w => answer w.port w.tag c 0 [] acc) s).event = s.event
      ∧ (l.foldl (fun acc w => answer w.port w.tag c 0 [] acc) s).pending = s.pending := by
  induction l generalizing s with
  | nil => simp
  | cons c l ih => simp [ih]

@[simp] theorem dismissFloats_frame (sel : FloatWaiter → Bool) (c : Code) (s : State) :
    (dismissFloats sel c s).store = s.store
      ∧ (dismissFloats sel c s).day = s.day
      ∧ (dismissFloats sel c s).count = s.count
      ∧ (dismissFloats sel c s).recon = s.recon
      ∧ (dismissFloats sel c s).safe = s.safe
      ∧ (dismissFloats sel c s).courier = s.courier
      ∧ (dismissFloats sel c s).retention = s.retention
      ∧ (dismissFloats sel c s).stamp = s.stamp
      ∧ (dismissFloats sel c s).event = s.event
      ∧ (dismissFloats sel c s).pending = s.pending := by
  simp [dismissFloats]

@[simp] theorem dismissTopups_frame (t : TillIx) (s : State) :
    (dismissTopups t s).store = s.store
      ∧ (dismissTopups t s).day = s.day
      ∧ (dismissTopups t s).count = s.count
      ∧ (dismissTopups t s).recon = s.recon
      ∧ (dismissTopups t s).safe = s.safe
      ∧ (dismissTopups t s).courier = s.courier
      ∧ (dismissTopups t s).retention = s.retention
      ∧ (dismissTopups t s).stamp = s.stamp
      ∧ (dismissTopups t s).event = s.event
      ∧ (dismissTopups t s).pending = s.pending := by
  unfold dismissTopups; (try dsimp only); (repeat' split) <;> simp

@[simp] theorem dismissRivals_frame (a : FloatAsk) (s : State) :
    (dismissRivals a s).store = s.store
      ∧ (dismissRivals a s).day = s.day
      ∧ (dismissRivals a s).count = s.count
      ∧ (dismissRivals a s).recon = s.recon
      ∧ (dismissRivals a s).safe = s.safe
      ∧ (dismissRivals a s).courier = s.courier
      ∧ (dismissRivals a s).retention = s.retention
      ∧ (dismissRivals a s).stamp = s.stamp
      ∧ (dismissRivals a s).event = s.event
      ∧ (dismissRivals a s).pending = s.pending := by
  unfold dismissRivals; (try dsimp only); (repeat' split) <;> simp

@[simp] theorem raiseReserveLow_frame (k : Int) (s : State) :
    (raiseReserveLow k s).store = s.store
      ∧ (raiseReserveLow k s).day = s.day
      ∧ (raiseReserveLow k s).float = s.float
      ∧ (raiseReserveLow k s).count = s.count
      ∧ (raiseReserveLow k s).recon = s.recon
      ∧ (raiseReserveLow k s).safe = s.safe
      ∧ (raiseReserveLow k s).courier = s.courier
      ∧ (raiseReserveLow k s).retention = s.retention
      ∧ (raiseReserveLow k s).stamp = s.stamp
      ∧ (raiseReserveLow k s).event = s.event
      ∧ (raiseReserveLow k s).pending = s.pending := by
  unfold raiseReserveLow; (try dsimp only); (repeat' split) <;> simp

@[simp] theorem parkFloat_frame (p : Port) (tag : Tag) (ops : List Nat) (a : FloatAsk) (k : FloatPark) (s : State) :
    (parkFloat p tag ops a k s).store = s.store
      ∧ (parkFloat p tag ops a k s).day = s.day
      ∧ (parkFloat p tag ops a k s).count = s.count
      ∧ (parkFloat p tag ops a k s).recon = s.recon
      ∧ (parkFloat p tag ops a k s).safe = s.safe
      ∧ (parkFloat p tag ops a k s).courier = s.courier
      ∧ (parkFloat p tag ops a k s).retention = s.retention
      ∧ (parkFloat p tag ops a k s).event = s.event
      ∧ (parkFloat p tag ops a k s).pending = s.pending := by
  unfold parkFloat; (try dsimp only); (repeat' split) <;> simp

@[simp] theorem parkAccess_frame (p : Port) (tag : Tag) (ops : List Nat) (r : AccessReq) (k : AccessReason) (c : Container) (s : State) :
    (parkAccess p tag ops r k c s).store = s.store
      ∧ (parkAccess p tag ops r k c s).day = s.day
      ∧ (parkAccess p tag ops r k c s).float = s.float
      ∧ (parkAccess p tag ops r k c s).count = s.count
      ∧ (parkAccess p tag ops r k c s).recon = s.recon
      ∧ (parkAccess p tag ops r k c s).courier = s.courier
      ∧ (parkAccess p tag ops r k c s).retention = s.retention
      ∧ (parkAccess p tag ops r k c s).event = s.event
      ∧ (parkAccess p tag ops r k c s).pending = s.pending := by
  unfold parkAccess; (try dsimp only); (repeat' split) <;> simp

@[simp] theorem parkCount_frame (p : Port) (tag : Tag) (ops : List Nat) (a : CountAsk) (n : Nat) (k : CountPark) (s : State) :
    (parkCount p tag ops a n k s).store = s.store
      ∧ (parkCount p tag ops a n k s).day = s.day
      ∧ (parkCount p tag ops a n k s).float = s.float
      ∧ (parkCount p tag ops a n k s).recon = s.recon
      ∧ (parkCount p tag ops a n k s).safe = s.safe
      ∧ (parkCount p tag ops a n k s).courier = s.courier
      ∧ (parkCount p tag ops a n k s).retention = s.retention
      ∧ (parkCount p tag ops a n k s).stamp = s.stamp
      ∧ (parkCount p tag ops a n k s).event = s.event
      ∧ (parkCount p tag ops a n k s).pending = s.pending := by
  unfold parkCount; (try dsimp only); (repeat' split) <;> simp

@[simp] theorem dismissCounts_frame (sel : CountWaiter → Bool) (c : Code) (s : State) :
    (dismissCounts sel c s).store = s.store
      ∧ (dismissCounts sel c s).day = s.day
      ∧ (dismissCounts sel c s).float = s.float
      ∧ (dismissCounts sel c s).recon = s.recon
      ∧ (dismissCounts sel c s).safe = s.safe
      ∧ (dismissCounts sel c s).courier = s.courier
      ∧ (dismissCounts sel c s).retention = s.retention
      ∧ (dismissCounts sel c s).stamp = s.stamp
      ∧ (dismissCounts sel c s).event = s.event
      ∧ (dismissCounts sel c s).pending = s.pending := by
  simp [dismissCounts]

@[simp] theorem parkingEnded_frame (f : CompIx → Bool) (b : Bool) (s : State) :
    (parkingEnded f b s).store = s.store
      ∧ (parkingEnded f b s).day = s.day
      ∧ (parkingEnded f b s).count = s.count
      ∧ (parkingEnded f b s).safe = s.safe
      ∧ (parkingEnded f b s).courier = s.courier
      ∧ (parkingEnded f b s).ports = s.ports
      ∧ (parkingEnded f b s).retention = s.retention
      ∧ (parkingEnded f b s).stamp = s.stamp
      ∧ (parkingEnded f b s).event = s.event
      ∧ (parkingEnded f b s).pending = s.pending := by
  unfold parkingEnded; (try dsimp only); (repeat' split) <;> simp

@[simp] theorem clearOut_frame (c : CompIx) (s : State) :
    (clearOut c s).store = s.store
      ∧ (clearOut c s).day = s.day
      ∧ (clearOut c s).count = s.count
      ∧ (clearOut c s).courier = s.courier
      ∧ (clearOut c s).ports = s.ports
      ∧ (clearOut c s).retention = s.retention
      ∧ (clearOut c s).stamp = s.stamp
      ∧ (clearOut c s).pending = s.pending := by
  unfold clearOut; (try dsimp only); (repeat' split) <;> simp

@[simp] theorem oweAttempt_frame (t : TrayIx) (s : State) :
    (oweAttempt t s).store = s.store
      ∧ (oweAttempt t s).day = s.day
      ∧ (oweAttempt t s).float = s.float
      ∧ (oweAttempt t s).count = s.count
      ∧ (oweAttempt t s).safe = s.safe
      ∧ (oweAttempt t s).courier = s.courier
      ∧ (oweAttempt t s).ports = s.ports
      ∧ (oweAttempt t s).retention = s.retention
      ∧ (oweAttempt t s).stamp = s.stamp
      ∧ (oweAttempt t s).event = s.event
      ∧ (oweAttempt t s).pending = s.pending := by
  unfold oweAttempt; (try dsimp only); (repeat' split) <;> simp

@[simp] theorem fold_oweAttempt_frame (l : List TrayIx) (s : State) :
    (l.foldl (fun acc t => oweAttempt t acc) s).store = s.store
      ∧ (l.foldl (fun acc t => oweAttempt t acc) s).day = s.day
      ∧ (l.foldl (fun acc t => oweAttempt t acc) s).float = s.float
      ∧ (l.foldl (fun acc t => oweAttempt t acc) s).count = s.count
      ∧ (l.foldl (fun acc t => oweAttempt t acc) s).safe = s.safe
      ∧ (l.foldl (fun acc t => oweAttempt t acc) s).courier = s.courier
      ∧ (l.foldl (fun acc t => oweAttempt t acc) s).ports = s.ports
      ∧ (l.foldl (fun acc t => oweAttempt t acc) s).retention = s.retention
      ∧ (l.foldl (fun acc t => oweAttempt t acc) s).stamp = s.stamp
      ∧ (l.foldl (fun acc t => oweAttempt t acc) s).event = s.event
      ∧ (l.foldl (fun acc t => oweAttempt t acc) s).pending = s.pending := by
  induction l generalizing s with
  | nil => simp
  | cons c l ih => simp [ih]

@[simp] theorem settleTill_frame (i : TillIx) (k : Classification) (s : State) :
    (settleTill i k s).day = s.day
      ∧ (settleTill i k s).count = s.count
      ∧ (settleTill i k s).safe = s.safe
      ∧ (settleTill i k s).courier = s.courier
      ∧ (settleTill i k s).retention = s.retention
      ∧ (settleTill i k s).stamp = s.stamp
      ∧ (settleTill i k s).pending = s.pending := by
  simp [settleTill]

@[simp] theorem holdTill_frame (i : TillIx) (h : HoldReasons) (l : List Field) (s : State) :
    (holdTill i h l s).store = s.store
      ∧ (holdTill i h l s).day = s.day
      ∧ (holdTill i h l s).count = s.count
      ∧ (holdTill i h l s).recon = s.recon
      ∧ (holdTill i h l s).safe = s.safe
      ∧ (holdTill i h l s).courier = s.courier
      ∧ (holdTill i h l s).retention = s.retention
      ∧ (holdTill i h l s).stamp = s.stamp
      ∧ (holdTill i h l s).pending = s.pending := by
  unfold holdTill; (try dsimp only); (repeat' split) <;> simp

@[simp] theorem runComputation_frame (i : TillIx) (s : State) :
    (runComputation i s).day = s.day
      ∧ (runComputation i s).count = s.count
      ∧ (runComputation i s).safe = s.safe
      ∧ (runComputation i s).courier = s.courier
      ∧ (runComputation i s).retention = s.retention
      ∧ (runComputation i s).stamp = s.stamp
      ∧ (runComputation i s).pending = s.pending := by
  unfold runComputation; (try dsimp only); (repeat' split) <;> simp

@[simp] theorem drawerComplete_frame (i : TillIx) (t : TrayIx) (s : State) :
    (drawerComplete i t s).day = s.day
      ∧ (drawerComplete i t s).count = s.count
      ∧ (drawerComplete i t s).safe = s.safe
      ∧ (drawerComplete i t s).courier = s.courier
      ∧ (drawerComplete i t s).retention = s.retention
      ∧ (drawerComplete i t s).stamp = s.stamp
      ∧ (drawerComplete i t s).pending = s.pending := by
  unfold drawerComplete; (try dsimp only); (repeat' split) <;> simp

@[simp] theorem afterRemoval_frame (i : TillIx) (s : State) :
    (afterRemoval i s).day = s.day
      ∧ (afterRemoval i s).count = s.count
      ∧ (afterRemoval i s).safe = s.safe
      ∧ (afterRemoval i s).courier = s.courier
      ∧ (afterRemoval i s).retention = s.retention
      ∧ (afterRemoval i s).stamp = s.stamp
      ∧ (afterRemoval i s).pending = s.pending := by
  unfold afterRemoval; (try dsimp only); (repeat' split) <;> simp

@[simp] theorem lateFinal_frame (i : TillIx) (s : State) :
    (lateFinal i s).day = s.day
      ∧ (lateFinal i s).count = s.count
      ∧ (lateFinal i s).safe = s.safe
      ∧ (lateFinal i s).courier = s.courier
      ∧ (lateFinal i s).retention = s.retention
      ∧ (lateFinal i s).stamp = s.stamp
      ∧ (lateFinal i s).pending = s.pending := by
  unfold lateFinal; (try dsimp only); (repeat' split) <;> simp

@[simp] theorem latePouch_frame (i : TillIx) (s : State) :
    (latePouch i s).day = s.day
      ∧ (latePouch i s).count = s.count
      ∧ (latePouch i s).safe = s.safe
      ∧ (latePouch i s).courier = s.courier
      ∧ (latePouch i s).retention = s.retention
      ∧ (latePouch i s).stamp = s.stamp
      ∧ (latePouch i s).pending = s.pending := by
  unfold latePouch; (try dsimp only); (repeat' split) <;> simp

@[simp] theorem pouchComplete_frame (i : TillIx) (n : Nat) (t : TrayIx) (s : State) :
    (pouchComplete i n t s).day = s.day
      ∧ (pouchComplete i n t s).count = s.count
      ∧ (pouchComplete i n t s).safe = s.safe
      ∧ (pouchComplete i n t s).courier = s.courier
      ∧ (pouchComplete i n t s).retention = s.retention
      ∧ (pouchComplete i n t s).stamp = s.stamp
      ∧ (pouchComplete i n t s).pending = s.pending := by
  unfold pouchComplete; (try dsimp only); (repeat' split) <;> simp

@[simp] theorem enterDifference_frame (t : TrayIx) (d : Int) (s : State) :
    (enterDifference t d s).day = s.day
      ∧ (enterDifference t d s).float = s.float
      ∧ (enterDifference t d s).count = s.count
      ∧ (enterDifference t d s).safe = s.safe
      ∧ (enterDifference t d s).courier = s.courier
      ∧ (enterDifference t d s).ports = s.ports
      ∧ (enterDifference t d s).retention = s.retention
      ∧ (enterDifference t d s).stamp = s.stamp
      ∧ (enterDifference t d s).event = s.event
      ∧ (enterDifference t d s).pending = s.pending := by
  unfold enterDifference; (try dsimp only); (repeat' split) <;> simp

@[simp] theorem inboundComplete_frame (b : BagIx) (t : TrayIx) (s : State) :
    (inboundComplete b t s).day = s.day
      ∧ (inboundComplete b t s).float = s.float
      ∧ (inboundComplete b t s).count = s.count
      ∧ (inboundComplete b t s).safe = s.safe
      ∧ (inboundComplete b t s).retention = s.retention
      ∧ (inboundComplete b t s).stamp = s.stamp
      ∧ (inboundComplete b t s).pending = s.pending := by
  unfold inboundComplete; (try dsimp only); (repeat' split) <;> simp

@[simp] theorem compartmentComplete_frame (k : CompIx) (t : TrayIx) (s : State) :
    (compartmentComplete k t s).day = s.day
      ∧ (compartmentComplete k t s).float = s.float
      ∧ (compartmentComplete k t s).count = s.count
      ∧ (compartmentComplete k t s).safe = s.safe
      ∧ (compartmentComplete k t s).courier = s.courier
      ∧ (compartmentComplete k t s).retention = s.retention
      ∧ (compartmentComplete k t s).stamp = s.stamp
      ∧ (compartmentComplete k t s).event = s.event
      ∧ (compartmentComplete k t s).pending = s.pending := by
  unfold compartmentComplete; (try dsimp only); (repeat' split) <;> simp

@[simp] theorem reconcile_frame (src : Source) (o : Bool) (t : TrayIx) (s : State) :
    (reconcile src o t s).day = s.day
      ∧ (reconcile src o t s).count = s.count
      ∧ (reconcile src o t s).safe = s.safe
      ∧ (reconcile src o t s).retention = s.retention
      ∧ (reconcile src o t s).stamp = s.stamp
      ∧ (reconcile src o t s).pending = s.pending := by
  cases src <;> simp only [reconcile] <;> (repeat' split) <;> simp

@[simp] theorem posted_frame (t : TrayIx) (s : State) :
    (posted t s).store = s.store
      ∧ (posted t s).day = s.day
      ∧ (posted t s).ports = s.ports
      ∧ (posted t s).retention = s.retention
      ∧ (posted t s).stamp = s.stamp
      ∧ (posted t s).pending = s.pending := by
  unfold posted; (try dsimp only); (repeat' split) <;> simp

@[simp] theorem raisePostHeld_frame (t : TrayIx) (c : Code) (s : State) :
    (raisePostHeld t c s).store = s.store
      ∧ (raisePostHeld t c s).day = s.day
      ∧ (raisePostHeld t c s).float = s.float
      ∧ (raisePostHeld t c s).count = s.count
      ∧ (raisePostHeld t c s).recon = s.recon
      ∧ (raisePostHeld t c s).safe = s.safe
      ∧ (raisePostHeld t c s).courier = s.courier
      ∧ (raisePostHeld t c s).retention = s.retention
      ∧ (raisePostHeld t c s).stamp = s.stamp
      ∧ (raisePostHeld t c s).event = s.event
      ∧ (raisePostHeld t c s).pending = s.pending := by
  unfold raisePostHeld; (try dsimp only); (repeat' split) <;> simp

@[simp] theorem markSource_frame (t : TrayIx) (src : Source) (s : State) :
    (markSource t src s).store = s.store
      ∧ (markSource t src s).day = s.day
      ∧ (markSource t src s).count = s.count
      ∧ (markSource t src s).recon = s.recon
      ∧ (markSource t src s).ports = s.ports
      ∧ (markSource t src s).retention = s.retention
      ∧ (markSource t src s).stamp = s.stamp
      ∧ (markSource t src s).pending = s.pending := by
  cases src <;> simp [markSource]

@[simp] theorem raiseCountDone_frame (t : TrayIx) (s : State) :
    (raiseCountDone t s).store = s.store
      ∧ (raiseCountDone t s).day = s.day
      ∧ (raiseCountDone t s).float = s.float
      ∧ (raiseCountDone t s).count = s.count
      ∧ (raiseCountDone t s).recon = s.recon
      ∧ (raiseCountDone t s).safe = s.safe
      ∧ (raiseCountDone t s).courier = s.courier
      ∧ (raiseCountDone t s).retention = s.retention
      ∧ (raiseCountDone t s).stamp = s.stamp
      ∧ (raiseCountDone t s).event = s.event
      ∧ (raiseCountDone t s).pending = s.pending := by
  unfold raiseCountDone; (try dsimp only); (repeat' split) <;> simp

@[simp] theorem beginRun_frame (p : Port) (tag : Tag) (ops : List Nat) (t : TrayIx) (n : Option Nat) (s : State) :
    (beginRun p tag ops t n s).store = s.store
      ∧ (beginRun p tag ops t n s).day = s.day
      ∧ (beginRun p tag ops t n s).float = s.float
      ∧ (beginRun p tag ops t n s).recon = s.recon
      ∧ (beginRun p tag ops t n s).safe = s.safe
      ∧ (beginRun p tag ops t n s).courier = s.courier
      ∧ (beginRun p tag ops t n s).retention = s.retention
      ∧ (beginRun p tag ops t n s).stamp = s.stamp
      ∧ (beginRun p tag ops t n s).event = s.event
      ∧ (beginRun p tag ops t n s).pending = s.pending := by
  unfold beginRun; (try dsimp only); (repeat' split) <;> simp

@[simp] theorem startCount_frame (p : Port) (tag : Tag) (ops : List Nat) (src : Source) (t : TrayIx) (v : Counts) (k : Nat) (n : Option Nat) (s : State) :
    (startCount p tag ops src t v k n s).store = s.store
      ∧ (startCount p tag ops src t v k n s).day = s.day
      ∧ (startCount p tag ops src t v k n s).retention = s.retention
      ∧ (startCount p tag ops src t v k n s).stamp = s.stamp
      ∧ (startCount p tag ops src t v k n s).pending = s.pending := by
  unfold startCount; (try dsimp only); (repeat' split) <;> simp

@[simp] theorem invalidate_frame (t : TrayIx) (s : State) :
    (invalidate t s).day = s.day
      ∧ (invalidate t s).float = s.float
      ∧ (invalidate t s).recon = s.recon
      ∧ (invalidate t s).safe = s.safe
      ∧ (invalidate t s).courier = s.courier
      ∧ (invalidate t s).retention = s.retention
      ∧ (invalidate t s).stamp = s.stamp
      ∧ (invalidate t s).pending = s.pending := by
  unfold invalidate; (try dsimp only); (repeat' split) <;> simp

@[simp] theorem failCount_frame (r : FaultReason) (s : State) :
    (failCount r s).day = s.day
      ∧ (failCount r s).float = s.float
      ∧ (failCount r s).recon = s.recon
      ∧ (failCount r s).safe = s.safe
      ∧ (failCount r s).courier = s.courier
      ∧ (failCount r s).retention = s.retention
      ∧ (failCount r s).stamp = s.stamp
      ∧ (failCount r s).pending = s.pending := by
  unfold failCount; (try dsimp only); (repeat' split) <;> simp

@[simp] theorem abandonCount_frame (s : State) :
    (abandonCount s).day = s.day
      ∧ (abandonCount s).float = s.float
      ∧ (abandonCount s).recon = s.recon
      ∧ (abandonCount s).safe = s.safe
      ∧ (abandonCount s).courier = s.courier
      ∧ (abandonCount s).retention = s.retention
      ∧ (abandonCount s).stamp = s.stamp
      ∧ (abandonCount s).pending = s.pending := by
  unfold abandonCount; (try dsimp only); (repeat' split) <;> simp

@[simp] theorem handOver_frame (t : TrayIx) (s : State) :
    (handOver t s).day = s.day
      ∧ (handOver t s).count = s.count
      ∧ (handOver t s).safe = s.safe
      ∧ (handOver t s).retention = s.retention
      ∧ (handOver t s).stamp = s.stamp
      ∧ (handOver t s).pending = s.pending := by
  unfold handOver; (try dsimp only); (repeat' split) <;> simp

@[simp] theorem completeCount_frame (v : Counts) (n : Nat) (f : TrayFlags) (s : State) :
    (completeCount v n f s).day = s.day
      ∧ (completeCount v n f s).retention = s.retention
      ∧ (completeCount v n f s).stamp = s.stamp
      ∧ (completeCount v n f s).pending = s.pending := by
  unfold completeCount; (try dsimp only); (repeat' split) <;> simp

@[simp] theorem sendSetUp_frame (s : State) :
    (sendSetUp s).store = s.store
      ∧ (sendSetUp s).day = s.day
      ∧ (sendSetUp s).float = s.float
      ∧ (sendSetUp s).recon = s.recon
      ∧ (sendSetUp s).safe = s.safe
      ∧ (sendSetUp s).courier = s.courier
      ∧ (sendSetUp s).ports = s.ports
      ∧ (sendSetUp s).retention = s.retention
      ∧ (sendSetUp s).stamp = s.stamp
      ∧ (sendSetUp s).event = s.event
      ∧ (sendSetUp s).pending = s.pending := by
  unfold sendSetUp; (try dsimp only); (repeat' split) <;> simp

@[simp] theorem resultFails_frame (s : State) :
    (resultFails s).day = s.day
      ∧ (resultFails s).float = s.float
      ∧ (resultFails s).recon = s.recon
      ∧ (resultFails s).safe = s.safe
      ∧ (resultFails s).courier = s.courier
      ∧ (resultFails s).retention = s.retention
      ∧ (resultFails s).stamp = s.stamp
      ∧ (resultFails s).pending = s.pending := by
  unfold resultFails; (try dsimp only); (repeat' split) <;> simp

@[simp] theorem statusTaken_frame (f r : Byte) (s : State) :
    (statusTaken f r s).day = s.day
      ∧ (statusTaken f r s).float = s.float
      ∧ (statusTaken f r s).recon = s.recon
      ∧ (statusTaken f r s).safe = s.safe
      ∧ (statusTaken f r s).courier = s.courier
      ∧ (statusTaken f r s).retention = s.retention
      ∧ (statusTaken f r s).stamp = s.stamp
      ∧ (statusTaken f r s).pending = s.pending := by
  unfold statusTaken; (try dsimp only); (repeat' split) <;> simp

@[simp] theorem resultTaken_frame (bs : List Byte) (s : State) :
    (resultTaken bs s).day = s.day
      ∧ (resultTaken bs s).retention = s.retention
      ∧ (resultTaken bs s).stamp = s.stamp
      ∧ (resultTaken bs s).pending = s.pending := by
  unfold resultTaken; (try dsimp only); (repeat' split) <;> simp

@[simp] theorem fold_unstaged_frame (l : List BagIx) (s : State) :
    (l.foldl (fun acc b => modBag b unstaged acc) s).store = s.store
      ∧ (l.foldl (fun acc b => modBag b unstaged acc) s).day = s.day
      ∧ (l.foldl (fun acc b => modBag b unstaged acc) s).float = s.float
      ∧ (l.foldl (fun acc b => modBag b unstaged acc) s).count = s.count
      ∧ (l.foldl (fun acc b => modBag b unstaged acc) s).recon = s.recon
      ∧ (l.foldl (fun acc b => modBag b unstaged acc) s).safe = s.safe
      ∧ (l.foldl (fun acc b => modBag b unstaged acc) s).ports = s.ports
      ∧ (l.foldl (fun acc b => modBag b unstaged acc) s).retention = s.retention
      ∧ (l.foldl (fun acc b => modBag b unstaged acc) s).stamp = s.stamp
      ∧ (l.foldl (fun acc b => modBag b unstaged acc) s).event = s.event
      ∧ (l.foldl (fun acc b => modBag b unstaged acc) s).pending = s.pending := by
  induction l generalizing s with
  | nil => simp
  | cons c l ih => simp [ih]

@[simp] theorem fold_freeBags_frame (l : List BagIx) (s : State) :
    (l.foldl (fun acc b => modBag b (fun _ => BagRec.free) acc) s).store = s.store
      ∧ (l.foldl (fun acc b => modBag b (fun _ => BagRec.free) acc) s).day = s.day
      ∧ (l.foldl (fun acc b => modBag b (fun _ => BagRec.free) acc) s).float = s.float
      ∧ (l.foldl (fun acc b => modBag b (fun _ => BagRec.free) acc) s).count = s.count
      ∧ (l.foldl (fun acc b => modBag b (fun _ => BagRec.free) acc) s).recon = s.recon
      ∧ (l.foldl (fun acc b => modBag b (fun _ => BagRec.free) acc) s).safe = s.safe
      ∧ (l.foldl (fun acc b => modBag b (fun _ => BagRec.free) acc) s).ports = s.ports
      ∧ (l.foldl (fun acc b => modBag b (fun _ => BagRec.free) acc) s).retention = s.retention
      ∧ (l.foldl (fun acc b => modBag b (fun _ => BagRec.free) acc) s).stamp = s.stamp
      ∧ (l.foldl (fun acc b => modBag b (fun _ => BagRec.free) acc) s).event = s.event
      ∧ (l.foldl (fun acc b => modBag b (fun _ => BagRec.free) acc) s).pending = s.pending := by
  induction l generalizing s with
  | nil => simp
  | cons c l ih => simp [ih]

@[simp] theorem fold_handed_frame (l : List BagIx) (s : State) :
    (l.foldl (fun acc b => modBag b handed acc) s).store = s.store
      ∧ (l.foldl (fun acc b => modBag b handed acc) s).day = s.day
      ∧ (l.foldl (fun acc b => modBag b handed acc) s).float = s.float
      ∧ (l.foldl (fun acc b => modBag b handed acc) s).count = s.count
      ∧ (l.foldl (fun acc b => modBag b handed acc) s).recon = s.recon
      ∧ (l.foldl (fun acc b => modBag b handed acc) s).safe = s.safe
      ∧ (l.foldl (fun acc b => modBag b handed acc) s).ports = s.ports
      ∧ (l.foldl (fun acc b => modBag b handed acc) s).retention = s.retention
      ∧ (l.foldl (fun acc b => modBag b handed acc) s).stamp = s.stamp
      ∧ (l.foldl (fun acc b => modBag b handed acc) s).event = s.event
      ∧ (l.foldl (fun acc b => modBag b handed acc) s).pending = s.pending := by
  induction l generalizing s with
  | nil => simp
  | cons c l ih => simp [ih]

@[simp] theorem fold_received_frame (l : List BagIx) (s : State) :
    (l.foldl (fun acc b => modBag b (fun r => { r with state := .received }) acc) s).store = s.store
      ∧ (l.foldl (fun acc b => modBag b (fun r => { r with state := .received }) acc) s).day = s.day
      ∧ (l.foldl (fun acc b => modBag b (fun r => { r with state := .received }) acc) s).float = s.float
      ∧ (l.foldl (fun acc b => modBag b (fun r => { r with state := .received }) acc) s).count = s.count
      ∧ (l.foldl (fun acc b => modBag b (fun r => { r with state := .received }) acc) s).recon = s.recon
      ∧ (l.foldl (fun acc b => modBag b (fun r => { r with state := .received }) acc) s).safe = s.safe
      ∧ (l.foldl (fun acc b => modBag b (fun r => { r with state := .received }) acc) s).ports = s.ports
      ∧ (l.foldl (fun acc b => modBag b (fun r => { r with state := .received }) acc) s).retention = s.retention
      ∧ (l.foldl (fun acc b => modBag b (fun r => { r with state := .received }) acc) s).stamp = s.stamp
      ∧ (l.foldl (fun acc b => modBag b (fun r => { r with state := .received }) acc) s).event = s.event
      ∧ (l.foldl (fun acc b => modBag b (fun r => { r with state := .received }) acc) s).pending = s.pending := by
  induction l generalizing s with
  | nil => simp
  | cons c l ih => simp [ih]

@[simp] theorem unstage_frame (w : WindowIx) (s : State) :
    (unstage w s).store = s.store
      ∧ (unstage w s).day = s.day
      ∧ (unstage w s).float = s.float
      ∧ (unstage w s).count = s.count
      ∧ (unstage w s).recon = s.recon
      ∧ (unstage w s).safe = s.safe
      ∧ (unstage w s).ports = s.ports
      ∧ (unstage w s).retention = s.retention
      ∧ (unstage w s).stamp = s.stamp
      ∧ (unstage w s).event = s.event
      ∧ (unstage w s).pending = s.pending := by
  unfold unstage; (try dsimp only); (repeat' split) <;> simp

@[simp] theorem unstageOrWait_frame (w : WindowIx) (s : State) :
    (unstageOrWait w s).store = s.store
      ∧ (unstageOrWait w s).day = s.day
      ∧ (unstageOrWait w s).float = s.float
      ∧ (unstageOrWait w s).count = s.count
      ∧ (unstageOrWait w s).recon = s.recon
      ∧ (unstageOrWait w s).safe = s.safe
      ∧ (unstageOrWait w s).ports = s.ports
      ∧ (unstageOrWait w s).retention = s.retention
      ∧ (unstageOrWait w s).stamp = s.stamp
      ∧ (unstageOrWait w s).event = s.event
      ∧ (unstageOrWait w s).pending = s.pending := by
  unfold unstageOrWait; (try dsimp only); (repeat' split) <;> simp

@[simp] theorem closeWindowAt_frame (w : WindowIx) (s : State) :
    (closeWindowAt w s).store = s.store
      ∧ (closeWindowAt w s).day = s.day
      ∧ (closeWindowAt w s).float = s.float
      ∧ (closeWindowAt w s).count = s.count
      ∧ (closeWindowAt w s).recon = s.recon
      ∧ (closeWindowAt w s).safe = s.safe
      ∧ (closeWindowAt w s).retention = s.retention
      ∧ (closeWindowAt w s).stamp = s.stamp
      ∧ (closeWindowAt w s).event = s.event
      ∧ (closeWindowAt w s).pending = s.pending := by
  unfold closeWindowAt; (try dsimp only); (repeat' split) <;> simp

@[simp] theorem missWindow_frame (w : WindowIx) (s : State) :
    (missWindow w s).store = s.store
      ∧ (missWindow w s).day = s.day
      ∧ (missWindow w s).float = s.float
      ∧ (missWindow w s).count = s.count
      ∧ (missWindow w s).recon = s.recon
      ∧ (missWindow w s).safe = s.safe
      ∧ (missWindow w s).retention = s.retention
      ∧ (missWindow w s).stamp = s.stamp
      ∧ (missWindow w s).event = s.event
      ∧ (missWindow w s).pending = s.pending := by
  unfold missWindow; (try dsimp only); (repeat' split) <;> simp

@[simp] theorem endSession_frame (x : Session) (s : State) :
    (endSession x s).store = s.store
      ∧ (endSession x s).day = s.day
      ∧ (endSession x s).count = s.count
      ∧ (endSession x s).ports = s.ports
      ∧ (endSession x s).retention = s.retention
      ∧ (endSession x s).stamp = s.stamp
      ∧ (endSession x s).pending = s.pending := by
  unfold endSession; (try dsimp only); (repeat' split) <;> simp

@[simp] theorem abortSession_frame (k : AbortCause) (x : Session) (s : State) :
    (abortSession k x s).store = s.store
      ∧ (abortSession k x s).day = s.day
      ∧ (abortSession k x s).count = s.count
      ∧ (abortSession k x s).retention = s.retention
      ∧ (abortSession k x s).stamp = s.stamp
      ∧ (abortSession k x s).pending = s.pending := by
  unfold abortSession; (try dsimp only); (repeat' split) <;> simp

@[simp] theorem abortAny_frame (k : AbortCause) (s : State) :
    (abortAny k s).store = s.store
      ∧ (abortAny k s).day = s.day
      ∧ (abortAny k s).count = s.count
      ∧ (abortAny k s).retention = s.retention
      ∧ (abortAny k s).stamp = s.stamp
      ∧ (abortAny k s).pending = s.pending := by
  unfold abortAny; (try dsimp only); (repeat' split) <;> simp

@[simp] theorem raiseDayState_frame (s : State) :
    (raiseDayState s).store = s.store
      ∧ (raiseDayState s).day = s.day
      ∧ (raiseDayState s).float = s.float
      ∧ (raiseDayState s).count = s.count
      ∧ (raiseDayState s).recon = s.recon
      ∧ (raiseDayState s).safe = s.safe
      ∧ (raiseDayState s).courier = s.courier
      ∧ (raiseDayState s).retention = s.retention
      ∧ (raiseDayState s).stamp = s.stamp
      ∧ (raiseDayState s).event = s.event
      ∧ (raiseDayState s).pending = s.pending := by
  unfold raiseDayState; (try dsimp only); (repeat' split) <;> simp

@[simp] theorem completeClose_frame (s : State) :
    (completeClose s).store = s.store
      ∧ (completeClose s).float = s.float
      ∧ (completeClose s).count = s.count
      ∧ (completeClose s).recon = s.recon
      ∧ (completeClose s).retention = s.retention
      ∧ (completeClose s).stamp = s.stamp
      ∧ (completeClose s).event = s.event
      ∧ (completeClose s).pending = s.pending := by
  unfold completeClose; (try dsimp only); (repeat' split) <;> simp

@[simp] theorem completionCheck_frame (s : State) :
    (completionCheck s).store = s.store
      ∧ (completionCheck s).float = s.float
      ∧ (completionCheck s).count = s.count
      ∧ (completionCheck s).recon = s.recon
      ∧ (completionCheck s).retention = s.retention
      ∧ (completionCheck s).stamp = s.stamp
      ∧ (completionCheck s).event = s.event
      ∧ (completionCheck s).pending = s.pending := by
  unfold completionCheck; (try dsimp only); (repeat' split) <;> simp

end Sys2Proof.Machine
end

