-- ==== Sys2Proof/Laws/Requests.lean ====
section
/-! SUPPORT. What every request and every other event goes through: how a request that is ready reaches its owner, and what the end
of an event does. -/

namespace Sys2Proof.Machine

/-! ## The state in which an owner takes up a request -/

@[simp] theorem accepted_frame (h : Req) (code : Nat) (s : State) :
    (accepted h code s).store = s.store ∧ (accepted h code s).day = s.day ∧ (accepted h code s).float = s.float
      ∧ (accepted h code s).count = s.count ∧ (accepted h code s).recon = s.recon ∧ (accepted h code s).safe = s.safe
      ∧ (accepted h code s).retention = s.retention ∧ (accepted h code s).stamp = s.stamp
      ∧ (accepted h code s).event = Scratch.empty ∧ (accepted h code s).pending = s.pending := by
  simp [accepted]

/-- Only the Courier Port's requests touch the Courier Unit, by restarting the idle timer (R165). -/
theorem accepted_courier (h : Req) (code : Nat) (s : State) (hp : h.port ≠ .courier) :
    (accepted h code s).courier = s.courier := by
  unfold accepted
  cases e : h.port <;> simp_all [heard]

theorem accepted_port (h : Req) (code : Nat) (s : State) :
    portOf (accepted h code s) h.port
      = { portOf s h.port with
          link := .active, slots := put (portOf s h.port).slots h.tag { state := .taken, code } } := by
  unfold accepted
  cases e : h.port <;> simp [heard, takeSlot, modPort, portOf, modSession]

theorem accepted_other (h : Req) (code : Nat) (s : State) (p : Port) (hp : p ≠ h.port) :
    portOf (accepted h code s) p = portOf s p := by
  unfold accepted
  cases e : h.port <;> cases p <;> simp_all [heard, takeSlot, modPort, portOf, modSession]

/-! ## The end of an event -/

theorem runSignals_none (fuel : Nat) (s : State) (hs : s.event.signals = []) : runSignals fuel s = s := by
  cases fuel with
  | zero => rfl
  | succ n => simp [runSignals, hs]

/-- An event that called for no pass ends with the completion check where an owner reported, and the next frames. -/
theorem finish_unsignalled (s : State) (hs : s.event.signals = []) :
    finish s = startFrames { (if s.event.reported then completionCheck s else s) with event := Scratch.empty } := by
  simp [finish, runSignals_none _ s hs]

/-- An event that called for nothing ends with the next frames alone. -/
theorem finish_plain (s : State) (hs : s.event = Scratch.empty) : finish s = ended s := by
  rw [finish_unsignalled s (by rw [hs]; rfl)]
  simp [hs, Scratch.empty, ended]

theorem replied_plain (h : Req) (c : Code) (rs : List Field) (t : State) (ht : t.event = Scratch.empty) :
    replied h c rs t = settled h c rs t := by
  unfold replied settled
  exact finish_plain _ (by simpa using ht)

/-! ## A request that is ready -/

theorem request_ready (h : Req) (code : Nat) (owner : State → State) (s : State) (hr : ready s h = true)
    (hg : granted code h.port = true) : request h code owner s = finish (owner (accepted h code s)) := by
  simp only [ready, Bool.and_eq_true, beq_iff_eq] at hr
  have hs : (slotOf (heard h.port { s with event := Scratch.empty }) h.port h.tag).state = .free := by
    rw [← hr.2]
    cases e : h.port <;> simp [heard, slotOf, modPort, portOf, modSession]
  simp [request, framed, hr.1, hs, hg, accepted]

/-- A ready request of a port with the right is answered with what its owner replies to the state in which it takes it up. -/
theorem immediate_ready (h : Req) (code : Nat) (owner : State → Reply) (s : State) (hr : ready s h = true)
    (hg : granted code h.port = true) :
    immediate h code owner s
      = replied h (owner (accepted h code s)).code (owner (accepted h code s)).results
          (owner (accepted h code s)).state := by
  rw [immediate, request_ready h code _ s hr hg]
  rfl

/-- An event that is no request, while main supply is good. -/
theorem happening_good (f : State → State) (s : State) (hs : s.retention.supply = .good) :
    happening f s = finish (f (begun s)) := by
  simp [happening, hs, begun]

theorem happening_plain (f : State → State) (s : State) (hs : s.retention.supply = .good)
    (he : (f (begun s)).event = Scratch.empty) : happening f s = ended (f (begun s)) := by
  rw [happening_good f s hs, finish_plain _ he]

/-! ## Reading back a holding -/

theorem holding_setHolding (c d : Container) (v : Counts) (s : State) :
    holding (setHolding c v s) d = if d = c then v else holding s d := by
  cases c <;> cases d <;> simp [setHolding, holding, look_put]

/-! ## Operands -/

@[simp] theorem index?_val {n : Nat} (i : Fin n) : index? n i.1 = some i := by
  simp [index?]
@[simp] theorem optionalIx_val {n : Nat} (o : Option (Fin n)) : optionalIx n (.ok (o.map (·.1))) = some o := by
  cases o <;> simp [optionalIx]

/-- The list of containers has every one (R6). -/
theorem mem_containers (c : Container) : c ∈ containers := by
  cases c <;> simp [containers]

/-! ## What an owner reads of the state in which it takes up a request -/

@[simp] theorem compOf_accepted (h : Req) (code : Nat) (s : State) (c : CompIx) :
    compOf (accepted h code s) c = compOf s c := by
  simp [compOf]
@[simp] theorem tillOf_accepted (h : Req) (code : Nat) (s : State) (c : TillIx) :
    tillOf (accepted h code s) c = tillOf s c := by
  simp [tillOf]
@[simp] theorem trayOf_accepted (h : Req) (code : Nat) (s : State) (c : TrayIx) :
    trayOf (accepted h code s) c = trayOf s c := by
  simp [trayOf]
@[simp] theorem courier_bags_accepted (h : Req) (code : Nat) (s : State) :
    (accepted h code s).courier.bags = s.courier.bags := by
  unfold accepted
  cases e : h.port <;> simp [heard, modSession]
@[simp] theorem courier_windows_accepted (h : Req) (code : Nat) (s : State) :
    (accepted h code s).courier.windows = s.courier.windows := by
  unfold accepted
  cases e : h.port <;> simp [heard, modSession]
@[simp] theorem courier_idle_accepted (h : Req) (code : Nat) (s : State) :
    (accepted h code s).courier.idleLimit = s.courier.idleLimit := by
  unfold accepted
  cases e : h.port <;> simp [heard, modSession]
@[simp] theorem courier_inForce_accepted (h : Req) (code : Nat) (s : State) :
    (accepted h code s).courier.idleInForce = s.courier.idleInForce := by
  unfold accepted
  cases e : h.port <;> simp [heard, modSession]
@[simp] theorem courier_some_accepted (h : Req) (code : Nat) (s : State) :
    (accepted h code s).courier.session.isSome = s.courier.session.isSome := by
  unfold accepted
  cases e : h.port <;> simp [heard, modSession]
@[simp] theorem bagOf_accepted (h : Req) (code : Nat) (s : State) (c : BagIx) : bagOf (accepted h code s) c = bagOf s c := by
  simp [bagOf]
@[simp] theorem windowOf_accepted (h : Req) (code : Nat) (s : State) (c : WindowIx) :
    windowOf (accepted h code s) c = windowOf s c := by
  simp [windowOf]
@[simp] theorem holding_accepted (h : Req) (code : Nat) (s : State) (c : Container) :
    holding (accepted h code s) c = holding s c := by
  cases c <;> simp [holding]
@[simp] theorem stepBits_accepted (h : Req) (code : Nat) (s : State) (c : Container) :
    stepBits (accepted h code s) c = stepBits s c := by
  cases c <;> simp [stepBits]
@[simp] theorem valueOf_accepted (h : Req) (code : Nat) (s : State) (v : Counts) :
    valueOf (accepted h code s) v = valueOf s v := by
  simp [valueOf]
@[simp] theorem bagsIn_accepted (h : Req) (code : Nat) (s : State) (c : CompIx) :
    bagsIn (accepted h code s) c = bagsIn s c := by
  simp [bagsIn]
@[simp] theorem capLoad_accepted (h : Req) (code : Nat) (s : State) (c : CompIx) :
    capLoad (accepted h code s) c = capLoad s c := by
  simp [capLoad]
@[simp] theorem authorise_accepted (h k : Req) (code : Nat) (s : State) (l : Level) :
    authorise l k (accepted h code s) = authorise l k s := by
  cases l <;> simp [authorise, dualPasses, operatorPasses, operator?]
@[simp] theorem sessionAt_accepted (h : Req) (code : Nat) (s : State) (w : WindowIx) :
    sessionAt (accepted h code s) w = sessionAt s w := by
  unfold accepted
  cases e : h.port <;> simp [heard, modSession, sessionAt] <;> (cases s.courier.session; all_goals simp)
@[simp] theorem reserve_accepted (h : Req) (code : Nat) (s : State) : reserve (accepted h code s) = reserve s := by
  simp [reserve, compsWithRole]
end Sys2Proof.Machine
end

