-- ==== Sys2Proof/Laws/Movements.lean ====
section
/-! SUPPORT. What a movement leaves inside the Custody Store and the Float Unit: the tables and totals no movement touches, and the
holdings that are no container of it. -/

namespace Sys2Proof.Machine

/-! ## Parts of the Custody Store -/

@[simp] theorem setHolding_store (c : Container) (v : Counts) (s : State) :
    (setHolding c v s).store.totals = s.store.totals ∧ (setHolding c v s).store.denoms = s.store.denoms
      ∧ (setHolding c v s).store.operators = s.store.operators ∧ (setHolding c v s).store.base = s.store.base
      ∧ (setHolding c v s).store.inflow = s.store.inflow ∧ (setHolding c v s).store.outflow = s.store.outflow
      ∧ (setHolding c v s).store.tillStep = s.store.tillStep ∧ (setHolding c v s).store.compStep = s.store.compStep
      ∧ (setHolding c v s).store.journal = s.store.journal := by
  cases c <;> simp [setHolding]

@[simp] theorem setStepBits_store (c : Container) (b : StepBits) (s : State) :
    (setStepBits c b s).store.totals = s.store.totals ∧ (setStepBits c b s).store.denoms = s.store.denoms
      ∧ (setStepBits c b s).store.operators = s.store.operators ∧ (setStepBits c b s).store.base = s.store.base
      ∧ (setStepBits c b s).store.inflow = s.store.inflow ∧ (setStepBits c b s).store.outflow = s.store.outflow
      ∧ (setStepBits c b s).store.tillHold = s.store.tillHold ∧ (setStepBits c b s).store.compHold = s.store.compHold
      ∧ (setStepBits c b s).store.trayHold = s.store.trayHold ∧ (setStepBits c b s).store.bagHold = s.store.bagHold
      ∧ (setStepBits c b s).store.journal = s.store.journal := by
  cases c <;> simp [setStepBits]

@[simp] theorem movePosition_store (m : Movement) (s : State) :
    (movePosition m s).store.totals = s.store.totals ∧ (movePosition m s).store.denoms = s.store.denoms
      ∧ (movePosition m s).store.operators = s.store.operators ∧ (movePosition m s).store.base = s.store.base
      ∧ (movePosition m s).store.tillHold = s.store.tillHold ∧ (movePosition m s).store.compHold = s.store.compHold
      ∧ (movePosition m s).store.trayHold = s.store.trayHold ∧ (movePosition m s).store.bagHold = s.store.bagHold
      ∧ (movePosition m s).store.tillStep = s.store.tillStep ∧ (movePosition m s).store.compStep = s.store.compStep
      ∧ (movePosition m s).store.journal = s.store.journal := by
  unfold movePosition; split <;> simp

@[simp] theorem markStep_store (n : Nat) (s : State) (c : Container) :
    (markStep n s c).store.totals = s.store.totals ∧ (markStep n s c).store.denoms = s.store.denoms
      ∧ (markStep n s c).store.operators = s.store.operators ∧ (markStep n s c).store.base = s.store.base
      ∧ (markStep n s c).store.inflow = s.store.inflow ∧ (markStep n s c).store.outflow = s.store.outflow
      ∧ (markStep n s c).store.tillHold = s.store.tillHold ∧ (markStep n s c).store.compHold = s.store.compHold
      ∧ (markStep n s c).store.trayHold = s.store.trayHold ∧ (markStep n s c).store.bagHold = s.store.bagHold
      ∧ (markStep n s c).store.journal = s.store.journal := by
  unfold markStep; split
  · cases c <;> simp
  · simp

/-! ## Folds over the containers of a movement -/

@[simp] theorem fold_setHolding_store (g : Container → Counts) (l : List Container) (s : State) :
    (l.foldl (fun acc c => setHolding c (g c) acc) s).store.totals = s.store.totals
      ∧ (l.foldl (fun acc c => setHolding c (g c) acc) s).store.denoms = s.store.denoms
      ∧ (l.foldl (fun acc c => setHolding c (g c) acc) s).store.operators = s.store.operators
      ∧ (l.foldl (fun acc c => setHolding c (g c) acc) s).store.base = s.store.base
      ∧ (l.foldl (fun acc c => setHolding c (g c) acc) s).store.inflow = s.store.inflow
      ∧ (l.foldl (fun acc c => setHolding c (g c) acc) s).store.outflow = s.store.outflow
      ∧ (l.foldl (fun acc c => setHolding c (g c) acc) s).store.tillStep = s.store.tillStep
      ∧ (l.foldl (fun acc c => setHolding c (g c) acc) s).store.compStep = s.store.compStep
      ∧ (l.foldl (fun acc c => setHolding c (g c) acc) s).store.journal = s.store.journal := by
  induction l generalizing s with
  | nil => simp
  | cons c l ih => simp [ih]

@[simp] theorem fold_markStep_store (n : Nat) (l : List Container) (s : State) :
    (l.foldl (markStep n) s).store.totals = s.store.totals ∧ (l.foldl (markStep n) s).store.denoms = s.store.denoms
      ∧ (l.foldl (markStep n) s).store.operators = s.store.operators
      ∧ (l.foldl (markStep n) s).store.base = s.store.base ∧ (l.foldl (markStep n) s).store.inflow = s.store.inflow
      ∧ (l.foldl (markStep n) s).store.outflow = s.store.outflow
      ∧ (l.foldl (markStep n) s).store.tillHold = s.store.tillHold
      ∧ (l.foldl (markStep n) s).store.compHold = s.store.compHold
      ∧ (l.foldl (markStep n) s).store.trayHold = s.store.trayHold
      ∧ (l.foldl (markStep n) s).store.bagHold = s.store.bagHold
      ∧ (l.foldl (markStep n) s).store.journal = s.store.journal := by
  induction l generalizing s with
  | nil => simp
  | cons c l ih => simp [ih]

/-- A holding after a run of replacements: the value given where the container is in the list. -/
theorem holding_fold_setHolding (g : Container → Counts) (l : List Container) (s : State) (d : Container) :
    holding (l.foldl (fun acc c => setHolding c (g c) acc) s) d = if d ∈ l then g d else holding s d := by
  induction l generalizing s with
  | nil => simp
  | cons c l ih =>
    rw [List.foldl_cons, ih, holding_setHolding]
    by_cases h1 : d ∈ l <;> by_cases h2 : d = c <;> simp [h1, h2]

/-- Equal stores have equal holdings. -/
theorem holding_congr (s t : State) (h : s.store = t.store) (c : Container) : holding s c = holding t c := by
  cases c <;> simp [holding, h]

/-! ## A movement applied -/

@[simp] theorem applyMove_tables (m : Movement) (s : State) :
    (applyMove m s).store.totals = s.store.totals ∧ (applyMove m s).store.denoms = s.store.denoms
      ∧ (applyMove m s).store.operators = s.store.operators ∧ (applyMove m s).store.base = s.store.base
      ∧ (applyMove m s).float.tills = s.float.tills ∧ (applyMove m s).float.profiles = s.float.profiles
      ∧ (applyMove m s).float.waiters = s.float.waiters ∧ (applyMove m s).float.waitLimit = s.float.waitLimit
      ∧ (applyMove m s).float.waitInForce = s.float.waitInForce
      ∧ (applyMove m s).safe.waiters = s.safe.waiters ∧ (applyMove m s).safe.range = s.safe.range
      ∧ (applyMove m s).safe.frozen = s.safe.frozen ∧ (applyMove m s).safe.waitLimit = s.safe.waitLimit
      ∧ (applyMove m s).safe.waitInForce = s.safe.waitInForce ∧ (applyMove m s).safe.heldLimit = s.safe.heldLimit
      ∧ (applyMove m s).safe.heldInForce = s.safe.heldInForce := by
  have safe : ∀ (l : List CompIx) (u : State), (l.foldl releaseLatch u).safe.waiters = u.safe.waiters
      ∧ (l.foldl releaseLatch u).safe.range = u.safe.range ∧ (l.foldl releaseLatch u).safe.frozen = u.safe.frozen
      ∧ (l.foldl releaseLatch u).safe.waitLimit = u.safe.waitLimit
      ∧ (l.foldl releaseLatch u).safe.waitInForce = u.safe.waitInForce
      ∧ (l.foldl releaseLatch u).safe.heldLimit = u.safe.heldLimit
      ∧ (l.foldl releaseLatch u).safe.heldInForce = u.safe.heldInForce := by
    intro l
    induction l with
    | nil => simp
    | cons c l ih => intro u; simp [ih, releaseLatch, modComp]
  unfold applyMove
  dsimp only
  split <;> simp [safe, writeEntry, oweRetry]

@[simp] theorem storeEvent_tables (ms : List Movement) (hold : Bool) (s : State) :
    (storeEvent ms hold s).store.totals = s.store.totals ∧ (storeEvent ms hold s).store.denoms = s.store.denoms
      ∧ (storeEvent ms hold s).store.operators = s.store.operators ∧ (storeEvent ms hold s).store.base = s.store.base
      ∧ (storeEvent ms hold s).float.tills = s.float.tills ∧ (storeEvent ms hold s).float.profiles = s.float.profiles
      ∧ (storeEvent ms hold s).float.waiters = s.float.waiters
      ∧ (storeEvent ms hold s).float.waitLimit = s.float.waitLimit
      ∧ (storeEvent ms hold s).float.waitInForce = s.float.waitInForce
      ∧ (storeEvent ms hold s).safe.waiters = s.safe.waiters ∧ (storeEvent ms hold s).safe.range = s.safe.range
      ∧ (storeEvent ms hold s).safe.frozen = s.safe.frozen ∧ (storeEvent ms hold s).safe.waitLimit = s.safe.waitLimit
      ∧ (storeEvent ms hold s).safe.waitInForce = s.safe.waitInForce ∧ (storeEvent ms hold s).safe.heldLimit = s.safe.heldLimit
      ∧ (storeEvent ms hold s).safe.heldInForce = s.safe.heldInForce := by
  have fold : ∀ (l : List Movement) (u : State),
      (l.foldl (fun acc m => applyMove m acc) u).store.totals = u.store.totals
      ∧ (l.foldl (fun acc m => applyMove m acc) u).store.denoms = u.store.denoms
      ∧ (l.foldl (fun acc m => applyMove m acc) u).store.operators = u.store.operators
      ∧ (l.foldl (fun acc m => applyMove m acc) u).store.base = u.store.base
      ∧ (l.foldl (fun acc m => applyMove m acc) u).float.tills = u.float.tills
      ∧ (l.foldl (fun acc m => applyMove m acc) u).float.profiles = u.float.profiles
      ∧ (l.foldl (fun acc m => applyMove m acc) u).float.waiters = u.float.waiters
      ∧ (l.foldl (fun acc m => applyMove m acc) u).float.waitLimit = u.float.waitLimit
      ∧ (l.foldl (fun acc m => applyMove m acc) u).float.waitInForce = u.float.waitInForce
      ∧ (l.foldl (fun acc m => applyMove m acc) u).safe.waiters = u.safe.waiters
      ∧ (l.foldl (fun acc m => applyMove m acc) u).safe.range = u.safe.range
      ∧ (l.foldl (fun acc m => applyMove m acc) u).safe.frozen = u.safe.frozen
      ∧ (l.foldl (fun acc m => applyMove m acc) u).safe.waitLimit = u.safe.waitLimit
      ∧ (l.foldl (fun acc m => applyMove m acc) u).safe.waitInForce = u.safe.waitInForce
      ∧ (l.foldl (fun acc m => applyMove m acc) u).safe.heldLimit = u.safe.heldLimit
      ∧ (l.foldl (fun acc m => applyMove m acc) u).safe.heldInForce = u.safe.heldInForce := by
    intro l
    induction l with
    | nil => simp
    | cons m l ih => intro u; simp [ih]
  have marks : ∀ (n : Nat) (u : State), (journalMarks n u).store.totals = u.store.totals
      ∧ (journalMarks n u).store.denoms = u.store.denoms ∧ (journalMarks n u).store.operators = u.store.operators
      ∧ (journalMarks n u).store.base = u.store.base := by
    intro n u; unfold journalMarks; dsimp only; (repeat' split) <;> simp
  unfold storeEvent
  dsimp only
  split <;> simp [fold, marks, holdEntry]

end Sys2Proof.Machine
end

