-- ==== Sys2Proof/Laws/Passes.lean ====
section
/-! SUPPORT. The passes an event calls for: which operations call for none and leave the access waiters as they are, what one
re-try and one pass may call for, and that the passes of an event come to an end. -/

namespace Sys2Proof.Machine

/-! ## Operations that call for no pass and leave the access waiters -/

@[simp] theorem report_calls (s : State) : (report s).event.signals = s.event.signals := rfl

@[simp] theorem storeEvent_waiters (ms : List Movement) (hold : Bool) (s : State) :
    (storeEvent ms hold s).safe.waiters = s.safe.waiters := by
  have one (l : List CompIx) (s : State) : (l.foldl releaseLatch s).safe.waiters = s.safe.waiters := by
    induction l generalizing s with
    | nil => rfl
    | cons c l ih => simp [ih, releaseLatch, modComp]
  have all (s : State) : (ms.foldl (fun acc m => applyMove m acc) s).safe.waiters = s.safe.waiters := by
    induction ms generalizing s with
    | nil => rfl
    | cons m ms ih => simp [ih]
  unfold storeEvent holdEntry
  dsimp only
  split <;> simp [all]

@[simp] theorem settleTill_calls (i : TillIx) (k : Classification) (s : State) :
    (settleTill i k s).event.signals = s.event.signals := by
  simp [settleTill]

@[simp] theorem holdTill_calls (i : TillIx) (h : HoldReasons) (l : List Field) (s : State) :
    (holdTill i h l s).event.signals = s.event.signals := by
  simp [holdTill]

@[simp] theorem runComputation_calls (i : TillIx) (s : State) : (runComputation i s).event.signals = s.event.signals := by
  unfold runComputation; dsimp only; repeat' split
  all_goals simp

@[simp] theorem drawerComplete_calls (i : TillIx) (t : TrayIx) (s : State) :
    (drawerComplete i t s).event.signals = s.event.signals := by
  unfold drawerComplete; dsimp only; repeat' split
  all_goals simp

@[simp] theorem latePouch_calls (i : TillIx) (s : State) : (latePouch i s).event.signals = s.event.signals := by
  unfold latePouch afterRemoval; dsimp only; repeat' split
  all_goals simp

@[simp] theorem pouchComplete_calls (i : TillIx) (n : Nat) (t : TrayIx) (s : State) :
    (pouchComplete i n t s).event.signals = s.event.signals := by
  unfold pouchComplete; dsimp only; repeat' split
  all_goals simp

@[simp] theorem inboundComplete_calls (b : BagIx) (t : TrayIx) (s : State) :
    (inboundComplete b t s).event.signals = s.event.signals := by
  unfold inboundComplete; dsimp only; repeat' split
  all_goals simp

@[simp] theorem handOver_calls (t : TrayIx) (s : State) : (handOver t s).event.signals = s.event.signals := by
  unfold handOver
  split
  · next src _ => cases src <;> simp only [reconcile] <;> (repeat' split) <;> simp
  · rfl

@[simp] theorem markSource_calls (t : TrayIx) (src : Source) (s : State) :
    (markSource t src s).event.signals = s.event.signals ∧ (markSource t src s).safe.waiters = s.safe.waiters := by
  cases src <;> simp [markSource, markOut, modComp]

/-! ## What an attempt may call for -/

/-- The state an attempt leaves, where it leaves one. -/
def Attempt.left (a : Attempt) (s : State) : State :=
  match a with
  | .refused _ t => t
  | .parked _ _ t => t
  | .done t _ => t
  | .running t => t
  | .queued _ => s

/-- How many passes an attempt may call for, where a completed one may call for `most`. -/
def Attempt.room (most : Nat) (a : Attempt) : Nat :=
  match a with
  | .done _ _ => most
  | .refused _ _ | .parked _ _ _ | .running _ | .queued _ => 0

/-- An attempt keeps the access waiters, and calls for passes at the end of the event's list: `most` at most where it completes, none
where it does not. -/
structure Attempt.Calls (most : Nat) (a : Attempt) (s : State) : Prop where
  calls : ∃ l : List Signal, l.length ≤ a.room most ∧ (a.left s).event.signals = s.event.signals ++ l
  waiters : (a.left s).safe.waiters = s.safe.waiters

theorem Attempt.Calls.none {a : Attempt} {s : State} (n : Nat) (h : (a.left s).event.signals = s.event.signals)
    (hw : (a.left s).safe.waiters = s.safe.waiters) : a.Calls n s := ⟨⟨[], by simp, by simpa using h⟩, hw⟩

theorem startTry_calls (p : Port) (tag : Tag) (ops : List Nat) (arg : SourceArg) (tray : Option TrayIx) (n : Nat) (s : State) :
    (startTry p tag ops arg tray n s).Calls 0 s := by
  refine .none 0 ?_ ?_ <;>
  · unfold startTry; dsimp only; repeat' split
    all_goals simp [Attempt.left, startCount]

theorem recountTry_calls (p : Port) (tag : Tag) (ops : List Nat) (t : TrayIx) (n : Nat) (s : State) :
    (recountTry p tag ops t n s).Calls 0 s := by
  refine .none 0 ?_ ?_ <;>
  · unfold recountTry; dsimp only; repeat' split
    all_goals simp [Attempt.left]

theorem manualTry_calls (p : Port) (ops : List Nat) (t : TrayIx) (v : Counts) (arg : SourceArg) (s : State) :
    (manualTry p ops t v arg s).Calls 0 s := by
  refine .none 0 ?_ ?_ <;>
  · unfold manualTry manualDone; dsimp only; repeat' split
    all_goals simp [Attempt.left]

theorem moveTry_calls (m : Movement) (f : State → List Field) (s : State) : (moveTry m f s).Calls 0 s := by
  refine .none 0 ?_ ?_ <;>
  · unfold moveTry; repeat' split
    all_goals simp [Attempt.left]

theorem deposit_calls (t : TrayIx) (c : CompIx) (d : Bool) (p : Port) (ops : List Nat) (s : State) :
    (deposit t c d p ops s).Calls 2 s := by
  unfold deposit posted; dsimp only
  constructor <;> dsimp only [Attempt.left, Attempt.room] <;> split
  · exact ⟨[.countPass], by simp, by simp [signal]⟩
  · next c _ => exact ⟨[.countOutPass c, .countPass], by simp, by simp [signal, clearOut]⟩
  · exact ⟨[.countPass], by simp, by simp [signal]⟩
  all_goals simp [signal, clearOut, modComp]

theorem depositRule_calls (t : TrayIx) (p : Port) (ops : List Nat) (s : State) : (depositRule t p ops s).Calls 2 s := by
  unfold depositRule
  split
  · exact .none 2 rfl rfl
  · next first _ =>
    split
    · exact deposit_calls ..
    · exact .none 2 rfl rfl
    · split
      · split
        · next c _ =>
          have made := deposit_calls t c true p ops s
          split
          · next done results h =>
            rw [h] at made
            obtain ⟨⟨l, hl, hs⟩, hw⟩ := made
            exact ⟨⟨l, hl, by simpa [Attempt.left] using hs⟩, by simpa [Attempt.left] using hw⟩
          · exact made
        · exact .none 2 (by simp [Attempt.left]) (by simp [Attempt.left])
      · exact .none 2 rfl rfl

/-- A post made calls for two passes at most: the count waiters', and the access waiters' for a compartment no longer out. -/
theorem postTry_calls (t : TrayIx) (n : Option (Option CountNumber)) (p : Port) (ops : List Nat) (s : State) :
    (postTry t n p ops s).Calls 2 s := by
  have rule := depositRule_calls t p ops (clearPending t s)
  have other (a : Attempt) (h : a.Calls 2 (clearPending t s)) : a.Calls 2 s := by
    obtain ⟨⟨l, hl, hs⟩, hw⟩ := h
    cases a <;> exact ⟨⟨l, hl, hs⟩, hw⟩
  unfold postTry; dsimp only
  split
  · exact .none 2 rfl rfl
  · split
    · exact .none 2 rfl rfl
    · repeat' split
      all_goals first | exact other _ rule | exact .none 2 rfl rfl

theorem accessTry_calls (p : Port) (tag : Tag) (ops : List Nat) (req : AccessReq) (s : State) :
    (accessTry p tag ops req s).Calls (if req.isPost then 2 else 0) s := by
  cases req with
  | startCount a t n => exact startTry_calls p tag ops a t n s
  | manualCount t v a => exact manualTry_calls p ops t v a s
  | postTray t n => exact postTry_calls t (some n) p ops s
  | transfer a b v => exact moveTry_calls (transferMove a b v p ops) (fun _ => []) s
  | adjust c v => exact moveTry_calls (adjustMove c v p ops) (fun _ => []) s
  | fillBag b c v =>
    simp only [accessTry, fillTry]
    by_cases h : (!outboundIn s b .opened) = true
    · rw [if_pos h]; exact .none _ rfl rfl
    · rw [if_neg h]; exact moveTry_calls (fillMove b c v p ops) (fun t => [.value (bagValue t b)]) s

/-! ## What a pass may call for -/

/-- The posts that wait. -/
def postsWaiting (s : State) : Nat := s.safe.waiters.countP fun w => w.req.isPost

/-- A bound on the passes still to be made: those called for, and two for each post that waits. -/
def passLoad (s : State) : Nat := s.event.signals.length + 2 * postsWaiting s

/-- A waiter re-tried keeps its place under a new reason and calls for no pass, or it leaves the list, and only a post then calls for
passes, two at most. -/
theorem retryAccess_effect (w : AccessWaiter) (s : State) :
    ((retryAccess s w).event.signals = s.event.signals
      ∧ ((retryAccess s w).safe.waiters = s.safe.waiters
        ∨ ∃ r c, (retryAccess s w).safe.waiters
            = s.safe.waiters.map fun x => if isAccessWaiter w.port w.tag x then { x with reason := r, container := c } else x))
    ∨ (s.safe.waiters.any (isAccessWaiter w.port w.tag) = true
      ∧ (∃ l : List Signal, l.length ≤ (if w.req.isPost then 2 else 0)
        ∧ (retryAccess s w).event.signals = s.event.signals ++ l)
      ∧ (retryAccess s w).safe.waiters = s.safe.waiters.filter fun x => !isAccessWaiter w.port w.tag x) := by
  have queued (park : CountPark) (t : State) :
      (queueCount w.port w.tag w.ops w.req park t).event.signals = t.event.signals
        ∧ (queueCount w.port w.tag w.ops w.req park t).safe.waiters = t.safe.waiters := by
    unfold queueCount; split
    · simp [parkCount]
    all_goals exact ⟨rfl, rfl⟩
  have left {t : State} (hw : t.safe.waiters = s.safe.waiters) :
      (discardAccess (isAccessWaiter w.port w.tag) t).safe.waiters
        = s.safe.waiters.filter fun x => !isAccessWaiter w.port w.tag x := by rw [← hw]; rfl
  unfold retryAccess
  split
  · next here =>
    obtain ⟨⟨l, hl, hs⟩, hw⟩ := accessTry_calls w.port w.tag w.ops w.req s
    dsimp only
    split
    · next h =>
      rw [h] at hl hs hw
      exact .inr ⟨here, ⟨l, hl.trans (Nat.zero_le _), by simpa [Attempt.left] using hs⟩,
        by simpa [Attempt.left] using left hw⟩
    · next h =>
      rw [h] at hl hs hw
      cases List.length_eq_zero_iff.mp (Nat.le_zero.mp hl)
      rw [List.append_nil] at hs
      exact .inl ⟨hs, .inr ⟨_, _, by rw [← hw]; rfl⟩⟩
    · next h =>
      rw [h] at hl hs hw
      exact .inr ⟨here, ⟨l, hl, by simpa [Attempt.left] using hs⟩, by simpa [Attempt.left] using left hw⟩
    · next h =>
      rw [h] at hl hs hw
      exact .inr ⟨here, ⟨l, hl.trans (Nat.zero_le _), by simpa [Attempt.left] using hs⟩,
        by simpa [Attempt.left] using left hw⟩
    · exact .inr ⟨here, ⟨[], Nat.zero_le _, by rw [List.append_nil]; exact (queued _ _).1⟩, (queued _ _).2.trans (left rfl)⟩
  · exact .inl ⟨rfl, .inl rfl⟩

/-- Among the waiters under a waiter's port and tag, where there is any, its own request is one. -/
def Covered (w : AccessWaiter) (s : State) : Prop :=
  s.safe.waiters.any (isAccessWaiter w.port w.tag) = true →
    ∃ x ∈ s.safe.waiters, isAccessWaiter w.port w.tag x = true ∧ x.req = w.req

theorem retryAccess_covered {v : AccessWaiter} (w : AccessWaiter) {s : State} (h : Covered v s) : Covered v (retryAccess s w) := by
  intro any
  obtain ⟨-, hw | ⟨r, c, hw⟩⟩ | ⟨-, -, hw⟩ := retryAccess_effect w s <;> rw [hw] at any ⊢
  · exact h any
  · have : s.safe.waiters.any (isAccessWaiter v.port v.tag) = true := by
      simp only [List.any_map, List.any_eq_true, Function.comp_apply] at any ⊢
      obtain ⟨x, hx, hx'⟩ := any
      exact ⟨x, hx, by split at hx' <;> exact hx'⟩
    obtain ⟨x, hx, hk, hr⟩ := h this
    refine ⟨_, List.mem_map_of_mem hx, ?_⟩
    split <;> exact ⟨hk, hr⟩
  · simp only [List.any_eq_true, List.mem_filter] at any
    obtain ⟨y, ⟨hy, hyw⟩, hyv⟩ := any
    obtain ⟨x, hx, hk, hr⟩ := h (List.any_eq_true.mpr ⟨y, hy, hyv⟩)
    refine ⟨x, List.mem_filter.mpr ⟨hx, ?_⟩, hk, hr⟩
    simp only [isAccessWaiter, Bool.and_eq_true, beq_iff_eq] at hk hyv
    simpa only [isAccessWaiter, hk.1, hk.2, hyv.1, hyv.2] using hyw

theorem countP_without {α : Type} {p q : α → Bool} {x : α} {l : List α} (hx : x ∈ l) (hp : p x = true) (hq : q x = true) :
    (l.countP fun y => p y && !q y) + 1 ≤ l.countP p := by
  induction l with
  | nil => cases hx
  | cons a l ih =>
    have le : (l.countP fun y => p y && !q y) ≤ l.countP p :=
      List.countP_mono_left fun y _ hy => (Bool.and_eq_true_iff.mp hy).1
    rw [List.countP_cons, List.countP_cons]
    obtain rfl | hx := List.mem_cons.mp hx
    · simpa [hp, hq] using le
    · have := ih hx
      by_cases ha : p a = true <;> by_cases hb : q a = true <;> simp [ha, hb] <;> omega

theorem retryAccess_load {w : AccessWaiter} {s : State} (h : Covered w s) : passLoad (retryAccess s w) ≤ passLoad s := by
  unfold passLoad postsWaiting
  obtain ⟨hs, hw | ⟨r, c, hw⟩⟩ | ⟨any, ⟨l, hl, hs⟩, hw⟩ := retryAccess_effect w s <;> rw [hw, hs]
  · rw [List.countP_map]
    refine Nat.add_le_add_left (Nat.mul_le_mul_left 2 (Nat.le_of_eq ?_)) _
    congr 1; funext x; simp only [Function.comp_apply]; split <;> rfl
  · obtain ⟨x, hx, hk, hr⟩ := h any
    rw [List.countP_filter, List.length_append]
    by_cases post : w.req.isPost = true
    · have : (s.safe.waiters.countP fun y => y.req.isPost && !isAccessWaiter w.port w.tag y) + 1
          ≤ s.safe.waiters.countP fun y => y.req.isPost := countP_without hx (hr ▸ post) hk
      rw [if_pos post] at hl
      omega
    · rw [if_neg post] at hl
      have : (s.safe.waiters.countP fun y => y.req.isPost && !isAccessWaiter w.port w.tag y)
          ≤ s.safe.waiters.countP fun y => y.req.isPost := List.countP_mono_left fun y _ hy => (Bool.and_eq_true_iff.mp hy).1
      omega

theorem accessPass_load (concerned : AccessWaiter → Bool) (s : State) : passLoad (accessPass concerned s) ≤ passLoad s := by
  have each (ws : List AccessWaiter) (s : State) (h : ∀ w ∈ ws, Covered w s) : passLoad (ws.foldl retryAccess s) ≤ passLoad s := by
    induction ws generalizing s with
    | nil => exact Nat.le_refl _
    | cons w ws ih =>
      exact (ih _ fun v hv => retryAccess_covered w (h v (List.mem_cons_of_mem _ hv))).trans
        (retryAccess_load (h w List.mem_cons_self))
  refine each _ s fun w hw _ => ⟨w, (List.mem_filter.mp hw).1, ?_, rfl⟩
  simp [isAccessWaiter]

theorem countPass_load (s : State) : passLoad (countPass s) = passLoad s := by
  have posts (p : Port) (tag : Tag) (ops : List Nat) (ask : CountAsk) (n : Nat) (r : AccessReason) (c : Container) (s : State) :
      passLoad (parkAccess p tag ops (ask.access n) r c s) = passLoad s := by
    have : (ask.access n).isPost = false := by cases ask <;> rfl
    simp [passLoad, postsWaiting, parkAccess, setAccessWaiters, this]
  have each (ws : List CountWaiter) (s : State) : passLoad (countPassOver ws s) = passLoad s := by
    induction ws generalizing s with
    | nil => rfl
    | cons w ws ih =>
      have try' : (countTry w s).Calls 0 s := by
        unfold countTry; split
        · exact startTry_calls ..
        · exact recountTry_calls ..
      obtain ⟨⟨l, hl, hs⟩, hw⟩ := try'
      unfold countPassOver
      dsimp only
      split
      · rw [ih]; rfl
      · split
        all_goals next h =>
          rw [h] at hl hs hw
          cases List.length_eq_zero_iff.mp (Nat.le_zero.mp hl)
          rw [List.append_nil] at hs
          have same := congrArg₂ (fun a b => a.length + 2 * b.countP fun w : AccessWaiter => w.req.isPost) hs hw
          first
          | (rw [ih]; rfl)
          | (rw [ih]; simpa [passLoad, postsWaiting, Attempt.left] using same)
          | (rw [ih, posts]; exact same)
          | exact same
  exact each _ s

/-- A pass made leaves no more to be made than were called for before it was taken from the list. -/
theorem runSignal_load (g : Signal) (s : State) : passLoad (runSignal g s) ≤ passLoad s := by
  cases g with
  | countPass => exact Nat.le_of_eq (countPass_load s)
  | sessionPass => exact accessPass_load _ s
  | countOutPass c => exact accessPass_load _ s

/-- The passes of an event come to an end: with as much fuel as the bound, more makes no difference. -/
theorem runSignals_fuel (n k : Nat) (s : State) (h : passLoad s ≤ n) : runSignals (n + k) s = runSignals n s := by
  induction n generalizing s with
  | zero =>
    have : s.event.signals = [] := List.length_eq_zero_iff.mp (by unfold passLoad at h; omega)
    rw [runSignals_none _ s this, runSignals_none _ s this]
  | succ n ih =>
    rw [Nat.add_right_comm]
    unfold runSignals
    split
    · rfl
    · next g gs hg =>
      refine ih _ ((runSignal_load g _).trans ?_)
      simp only [passLoad, postsWaiting, hg, List.length_cons] at h ⊢
      omega

theorem passLoad_le_fuel (s : State) : passLoad s ≤ passFuel s := by
  have : postsWaiting s ≤ s.safe.waiters.length := List.countP_le_length
  unfold passLoad passFuel
  omega

end Sys2Proof.Machine
end

