-- ==== Sys2Proof/WellFormed.lean ====
section
/-! DEFINITION. Well-formed commands: every operand fits the field that carries it (R202, R204, R207). A number inside its field
may still lie outside its range; that is for the command's meaning to refuse. -/

namespace Sys2Proof

/-- A number fits a field of one byte. -/
def fits1 (n : Nat) : Bool := decide (n < 256)

/-- A number fits a field of two bytes. -/
def fits2 (n : Nat) : Bool := decide (n < 65536)

/-- A number fits a field of four bytes. -/
def fits4 (n : Nat) : Bool := decide (n < 4294967296)

/-- The operator numbers of a request fit their fields. -/
def Req.wf (h : Req) : Bool := fits2 h.op1 && fits2 h.op2

/-- A coded field is well formed where it is outside its list or carries something well formed. -/
def Coded.wf {α : Type} (f : α → Bool) : Coded α → Bool
  | .ok a => f a
  | .bad => true

/-- An optional field is well formed where it is absent or carries something well formed. -/
def optionWf {α : Type} (f : α → Bool) : Option α → Bool
  | some a => f a
  | none => true

/-- The counts of an item list fit their two bytes and a sign (R204). -/
def Counts.wf (v : Counts) : Bool :=
  (List.finRange 16).all fun i => decide (-65535 ≤ look v i) && decide (look v i ≤ 65535)

/-- A source's numbers fit their bytes. -/
def SourceArg.wf : SourceArg → Bool
  | .drawer t => fits1 t
  | .pouch t n => fits1 t && fits1 n
  | .inbound b => fits1 b
  | .compartment c => fits1 c
  | .loose => true

/-- A profile's target and template fit their fields. -/
def ProfileArg.wf (a : ProfileArg) : Bool := fits4 a.target && a.template.wf Counts.wf

/-- A plan action's arguments fit their bytes. -/
def PlanArg.wf : PlanArg → Bool
  | .windowOpen w => fits1 w
  | .windowClose w => fits1 w
  | .openRange low high => fits1 low && fits1 high
  | .lockAll | .freeze | .pickupRound | .stop => true

/-- A reply block is one frame: a type byte, a length byte, a payload of its length, two bytes of CRC at most (R207). -/
def blockWf (bs : List Byte) : Bool := decide (bs.length ≤ 259)

/-- Every operand of a command fits its field. -/
def Instr.wf : Instr → Bool
  | .setDenomination h index _ face _ pack mass => h.wf && fits1 index && fits2 face && fits2 pack && fits2 mass
  | .setOperator h number _ _ => h.wf && fits2 number
  | .setFloatProfile h index profile => h.wf && fits1 index && profile.wf (optionWf ProfileArg.wf)
  | .setTill h till limit cls => h.wf && fits1 till && fits4 limit && fits1 cls
  | .setToleranceClass h cls a p => h.wf && fits1 cls && fits4 a && fits2 p
  | .setLimit h _ value => h.wf && fits4 value
  | .setCompartment h comp _ link => h.wf && fits1 comp && link.wf (optionWf fits1)
  | .setCap h comp cap => h.wf && fits1 comp && fits4 cap
  | .setWindow h window badge comp => h.wf && fits1 window && badge.wf (optionWf fits4) && comp.wf (optionWf fits1)
  | .setAuditStep h _ _ => h.wf
  | .releaseStep h _ => h.wf
  | .setRouting h _ _ priority => h.wf && fits1 priority
  | .restoreMemory h => h.wf
  | .openDay h => h.wf
  | .closeDay h => h.wf
  | .reopen h => h.wf
  | .setClock h time => h.wf && fits4 time
  | .loadPlanEntry h index time action => h.wf && fits1 index && fits4 time && action.wf PlanArg.wf
  | .holdPlan h => h.wf
  | .resumePlan h => h.wf
  | .issueFloat h till profile => h.wf && fits1 till && fits1 profile
  | .requestFloat h till profile => h.wf && fits1 till && fits1 profile
  | .requestTopup h till value => h.wf && fits1 till && fits4 value
  | .takingsUpdate h till value => h.wf && fits1 till && fits4 value
  | .finalTakings h till value => h.wf && fits1 till && fits4 value
  | .requestPickup h till declared => h.wf && fits1 till && fits4 declared
  | .signOff h till => h.wf && fits1 till
  | .withdrawTill h till => h.wf && fits1 till
  | .returnDrawer h till => h.wf && fits1 till
  | .suspendTill h till => h.wf && fits1 till
  | .restoreTill h till => h.wf && fits1 till
  | .receivePouch h till number => h.wf && fits1 till && fits1 number
  | .startCount h source tray reject =>
    h.wf && source.wf SourceArg.wf && tray.wf (optionWf fits1) && fits1 reject
  | .recount h tray reject => h.wf && fits1 tray && fits1 reject
  | .manualCount h tray vec source =>
    h.wf && fits1 tray && vec.wf Counts.wf && source.wf (optionWf SourceArg.wf)
  | .restoreCounter h => h.wf
  | .resetOperations h => h.wf
  | .postTray h tray => h.wf && fits1 tray
  | .acceptVariance h till => h.wf && fits1 till
  | .openRange h low high => h.wf && fits1 low && fits1 high
  | .lockAll h => h.wf
  | .freeze h => h.wf
  | .thaw h => h.wf
  | .transfer h src dst vec => h.wf && fits1 src && fits1 dst && vec.wf Counts.wf
  | .adjust h comp vec => h.wf && fits1 comp && vec.wf Counts.wf
  | .clearAlarm h comp => h.wf && fits1 comp
  | .newBag h comp => h.wf && fits1 comp
  | .fillBag h bag comp vec => h.wf && fits1 bag && fits1 comp && vec.wf Counts.wf
  | .closeBag h bag tagNumber => h.wf && fits1 bag && fits4 tagNumber
  | .reopenBag h bag => h.wf && fits1 bag
  | .freeBag h bag => h.wf && fits1 bag
  | .stageBag h bag window => h.wf && fits1 bag && fits1 window
  | .dropBag h bag => h.wf && fits1 bag
  | .openWindow h window => h.wf && fits1 window
  | .closeWindow h window => h.wf && fits1 window
  | .arrive h window badge => h.wf && fits1 window && fits4 badge
  | .readManifest h => h.wf
  | .scanBag h tagNumber => h.wf && fits4 tagNumber
  | .declareInbound h tagNumber vec => h.wf && fits4 tagNumber && vec.wf Counts.wf
  | .confirmHandover h _ => h.wf
  | .depart h => h.wf
  | .readJournal h start maximum => h.wf && fits4 start && fits2 maximum
  | .archive h seq => h.wf && fits4 seq
  | .readStatus h => h.wf
  | .withdraw h _ => h.wf
  | .readHolding h _ => h.wf
  | .readPosition h => h.wf
  | .readDenominations h => h.wf
  | .readPlan h => h.wf
  | .readProfile h profile => h.wf && fits1 profile
  | .readTill h till => h.wf && fits1 till
  | .readResult h till => h.wf && fits1 till
  | .readTray h tray => h.wf && fits1 tray
  | .readTolerance h => h.wf
  | .readSafe h => h.wf
  | .readBag h bag => h.wf && fits1 bag
  | .readWindow h window => h.wf && fits1 window
  | .readSession h => h.wf
  | .readRouting h => h.wf
  | .frameDiscarded _ _ => true
  | .unknownRequestCode _ _ code => fits1 code
  | .badTagFrame _ tag code => decide (7 < tag) && fits1 tag && fits1 code
  | .linkReset _ => true
  | .linkReturnsMarking _ => true
  | .frameTransmitted _ => true
  | .ready => true
  | .selectReply block => blockWf block
  | .setUpReply block => blockWf block
  | .statusReply block => blockWf block
  | .resultReply block => blockWf block
  | .abandonReply block => blockWf block
  | .counterReplyTimeout => true
  | .stepLimitExpiry => true
  | .autoPostAttempt _ => true
  | .floatRetryPass => true
  | .floatWaitExpiry _ _ => true
  | .counterWaitExpiry _ _ => true
  | .accessWaitExpiry _ _ => true
  | .destinationWaitExpiry _ _ => true
  | .latchWindowExpiry _ => true
  | .doorHeldExpiry _ => true
  | .handoverIdleExpiry => true
  | .doorOpens _ => true
  | .doorCloses _ => true
  | .clockTick => true
  | .planEntryDue => true
  | .mainSupplyLoss _ => true
  | .backupSupplyLoss => true
  | .powerReturn doorsOpen spacing _ => decide (doorsOpen.Nodup ∧ spacing.Nodup)
  | .coldStart doorsOpen spacing => decide (doorsOpen.Nodup ∧ spacing.Nodup)

end Sys2Proof
end

