-- ==== Sys2Proof/Tests/Slice0.lean ====
section
/-! SUPPORT. Tests: the checks of `WellFormed` on ill-formed commands, the bytes of frames against the manual's encodings, the
manual's worked figures, and for every statement with hypotheses a state and operands that meet them. -/

namespace Sys2Proof.Tests

set_option Elab.async false

open Sys2Proof.Machine

/-! ## Small states -/

/-- A vector from its nonzero counts. -/
def vec (l : List (Nat × Int)) : Counts := Vector.ofFn fun i => ((l.find? fun p => p.1 == i.1).map (·.2)).getD 0

/-- A request of each port, tag 0. -/
def office (a b : Nat) : Req := { port := .office, tag := 0, op1 := a, op2 := b }
def desk : Req := office 0 0
def till : Req := { port := .till, tag := 0, op1 := 0, op2 := 0 }
def courier : Req := { port := .courier, tag := 0, op1 := 0, op2 := 0 }

/-- A NOTE and a COIN entry. -/
def note (face : Nat) : DenomEntry :=
  { status := .active, face := some face, form := some .note, pack := some 100, unitMass := none }
def coin (face pack mass : Nat) : DenomEntry :=
  { status := .active, face := some face, form := some .coin, pack := some pack, unitMass := some mass }

/-- The denomination table of the worked figures ("Composing the standard float"), its 100 coin with a unit mass of 750. -/
def table : Vector DenomEntry 16 :=
  #v[note 5000, note 2000, note 1000, note 500, coin 200 25 850, coin 100 25 750, coin 50 40 780, coin 20 50 574,
     coin 10 50 410, coin 5 50 392, coin 2 50 306, coin 1 50 230, DenomEntry.unused, DenomEntry.unused,
     DenomEntry.unused, DenomEntry.unused]

/-- The reserve's holding in the worked composition. -/
def stock : Counts := vec [(1, 50), (2, 200), (3, 4), (4, 20), (5, 300), (6, 80), (7, 400), (8, 400)]

/-- Profile P2 of the worked composition. -/
def profile : Profile :=
  { defined := true, target := 20000, mask := 0xFFE
    template := vec [(1, 1), (2, 4), (3, 6), (4, 25), (5, 25), (6, 40), (7, 50), (8, 50)] }

/-- A compartment with a role. -/
def comp (role : CompRole) : CompRec := { CompRec.cold false with role, cap := 900000000 }

/-- An office on an OPEN day: three operators (11 CLERK, 12 SUPERVISOR, 13 MANAGER), C00 FLOAT_RESERVE with the stock, C01 TAKINGS,
C02 CHANGE_FUND, C03 OUTBOUND, every compartment in the open range. -/
def shop : State :=
  let s := State.reset
  { s with
    store := { s.store with
      denoms := table, compHold := put s.store.compHold 0 stock, base := stock
      operators := put (put (put s.store.operators 0 (some { number := 11, role := .clerk, standing := .active }))
        1 (some { number := 12, role := .supervisor, standing := .active }))
        2 (some { number := 13, role := .manager, standing := .active }) }
    day := { s.day with state := .opened, number := 9, clock := 40000 }
    float := { s.float with profiles := put s.float.profiles 2 profile }
    safe := { s.safe with
      range := { low := 0, high := 15 }
      comps := put (put (put (put s.safe.comps 0 (comp .floatReserve)) 1 (comp .takings)) 2 (comp .changeFund))
        3 (comp .outbound) } }

/-- The same office with its day CLOSED. -/
def shut : State := { shop with day := { shop.day with state := .closed } }

/-- The same office with its day CLOSING. -/
def closing : State := { shop with day := { shop.day with state := .closing } }

/-- The same office with a till's record changed. -/
def withTill (i : TillIx) (f : TillRec → TillRec) : State := modTill i f shop

/-- A till that trades, with one pouch out and one received. -/
def trader : State :=
  withTill 17 fun r => { r with
    state := .trading, session := 4, profile := some 2, mask := 0xFFE, f := 20000
    pouches := [{ number := 1, declared := 500, state := .outstanding, counted := none, diff := none },
                { number := 2, declared := 700, state := .received, counted := none, diff := none }] }

/-- The same office with a tray's record changed. -/
def withTray (t : TrayIx) (f : TrayRec → TrayRec) (s : State) : State := modTray t f s

/-- T17 of "The session of till T17", after its drawer count: F 25,000, P 150,000, C 58,205, class K1 with A 200 and p 5. -/
def counted : State :=
  let s := withTill 17 fun r => { r with
    state := .held, session := 4, f := 25000, p := 150000, cls := 1
    hold := { HoldReasons.empty with undeclared := true } }
  let s := setDrawer 17 (some
    { session := 4, counted := 58205, uncertain := false, saturated := false, manual := false, count := none, tray := 1
      classed := none, acceptOps := [] }) s
  { s with
    recon := { s.recon with classes := put s.recon.classes 1 { a := 200, p := 5 } }
    store := { s.store with totals := { s.store.totals with shortTotal := 1430, overTotal := 960 } } }

/-- The same till with its final takings in. -/
def declared (final : Nat) : State := modTill 17 (fun r => { r with final := some final }) counted

/-- The same till HELD with one family of reasons after a computation. -/
def heldFor (gross : Bool) : State :=
  let k : Classification := { expected := 59000, variance := -795, allowance := 292, cls := .outside }
  setDrawer 17 ((drawerOf counted 17).map fun d => { d with classed := some k })
    (modTill 17 (fun r => { r with hold := { HoldReasons.empty with outside := !gross, gross } }) counted)

/-- A tray COUNTED with loose cash. -/
def loose (v : Counts) : State :=
  setHolding (.tray 1) v (withTray 1 (fun r => { r with state := .counted, source := some .loose }) shop)

/-- A count that runs in tray A, with the exchange given. -/
def running (e : Option LinkCommand) (reread : Bool) : State :=
  let s := withTray 0 (fun r => { r with state := .counting, source := some .loose, rejectLimit := 5 }) shop
  { holdEntry s with count := { s.count with
      station := .running, exchange := e
      running := some { port := .office, tag := 0, ops := [11], tray := 0, outSeq := none, mask := 0x000F, reread
                        step := some { elapsed := 90, limit := 90 } } } }

/-- A RESULT payload of note counts, weights and rejects (R207). -/
def resultPayload (notes weights : List (Nat × Nat)) (rejects : Nat) : List Byte :=
  let three (n : Nat) : List Byte := [byteOf (n / 65536), byteOf (n / 256), byteOf n]
  let all (l : List (Nat × Nat)) := (List.range 16).flatMap fun i => three (((l.find? (·.1 == i)).map (·.2)).getD 0)
  all notes ++ all weights ++ three rejects

/-- An outbound bag of C03 in a state, with a tag and perhaps a window. -/
def outBag (st : BagState) (tag : Option Nat) (w : Option WindowIx) : BagRec :=
  { dir := some .outbound, state := st, tag, location := some 3, declared := none, window := w }

/-- A session for W1 at C03, two bags staged, the first already scanned. -/
def visit : State :=
  let s := modBag 5 (fun _ => outBag .staged (some 222) (some 1)) (modBag 4 (fun _ => outBag .staged (some 111) (some 1)) shop)
  let s := modWindow 1 (fun r => { r with state := .opened, badge := some 77, comp := some 3, staged := [4, 5] }) s
  let x : Session :=
    { window := 1, badge := 77, comp := 3, manifestSent := false, checksum := none, scanned := [4], errors := 0
      inbound := [], idle := 9 }
  { s with courier := { s.courier with session := some x } }

/-- The same session, its manifest read and every bag scanned. -/
def signedFor : State :=
  modSession (fun x => { x with manifestSent := true, checksum := some (manifestChecksum visit 1), scanned := [4, 5] }) visit

/-- The next state a command leaves. -/
def after (c : Instr) (s : State) : State :=
  match exec c s with
  | .next t => t
  | .fault _ => s
  | .refused _ => s

/-- Which of its answers an attempt gives: 0 refused, 1 parked, 2 done, 3 running, 4 queued. -/
def answerOf : Attempt → Nat
  | .refused _ _ => 0
  | .parked _ _ _ => 1
  | .done _ _ => 2
  | .running _ => 3
  | .queued _ => 4

/-- The same of a float attempt: 0 refused, 1 parked, 2 done, 5 short. -/
def floatAnswerOf : FloatTry → Nat
  | .refused _ => 0
  | .parked _ _ => 1
  | .done _ _ => 2
  | .short _ => 5

/-- A statement over the containers, kind by kind. -/
theorem every_container {p : Container → Prop} (a : ∀ i, p (.till i)) (b : ∀ i, p (.comp i)) (c : ∀ i, p (.tray i))
    (d : ∀ i, p (.bag i)) : ∀ x, p x := by
  intro x
  cases x
  · exact a _
  · exact b _
  · exact c _
  · exact d _

/-! ## Well-formed and ill-formed commands -/

theorem test_wf_takes_a_well_formed_command : (Instr.setTill desk 17 120000 1).wf = true := by decide +kernel
theorem test_wf_refuses_an_operator_number : (Instr.openDay (office 65536 0)).wf = false := by decide +kernel
theorem test_wf_refuses_one_byte : (Instr.setTill desk 256 0 0).wf = false := by decide +kernel
theorem test_wf_refuses_two_bytes :
    (Instr.setOperator desk 65536 (.ok .remove) (.ok .active)).wf = false := by decide +kernel
theorem test_wf_refuses_four_bytes : (Instr.setClock desk 4294967296).wf = false := by decide +kernel
theorem test_wf_refuses_an_optional_field :
    (Instr.setWindow desk 0 (.ok (some 4294967296)) (.ok none)).wf = false := by decide +kernel
theorem test_wf_refuses_a_count : (Instr.transfer desk 0 1 (.ok (vec [(0, 65536)]))).wf = false := by decide +kernel
theorem test_wf_refuses_a_source : (Instr.startCount desk (.ok (.pouch 3 256)) (.ok none) 0).wf = false := by decide +kernel
theorem test_wf_refuses_a_profile :
    (Instr.setFloatProfile desk 0 (.ok (some { target := 4294967296, template := .bad, mask := 0 }))).wf = false := by
  decide +kernel
theorem test_wf_refuses_a_plan_action :
    (Instr.loadPlanEntry desk 0 0 (.ok (.openRange 0 256))).wf = false := by decide +kernel
theorem test_wf_refuses_a_block : (Instr.selectReply (List.replicate 260 0#8)).wf = false := by decide +kernel
theorem test_wf_refuses_a_good_tag : (Instr.badTagFrame .office 7 0).wf = false := by decide +kernel
theorem test_wf_refuses_a_door_twice : (Instr.powerReturn [3, 3] [] 0).wf = false := by decide +kernel
theorem test_wf_refuses_a_line_twice : (Instr.coldStart [] [.till, .till]).wf = false := by decide +kernel

/-! ## Frames, written out from R202 to R207 (their CRCs worked by hand from R203) -/

theorem test_frame_setTill :
    frameCommand .office [0xA1#8, 0x08#8, 0x03#8, 0x04#8, 0x11#8, 0x00#8, 0x01#8, 0xD4#8, 0xC0#8, 0x01#8, 0xE5#8, 0xB8#8]
      = .setTill { port := .office, tag := 3, op1 := 0, op2 := 0 } 17 120000 1 := by decide +kernel
theorem test_frame_setDenomination :
    frameCommand .office
        [0xA1#8, 0x0B#8, 0x00#8, 0x01#8, 0x05#8, 0x01#8, 0x00#8, 0x64#8, 0x01#8, 0x00#8, 0x19#8, 0x02#8, 0xEE#8, 0xE0#8, 0x52#8]
      = .setDenomination desk 5 (.ok .active) 100 (.ok .coin) 25 750 := by decide +kernel
theorem test_frame_openDay :
    frameCommand .office [0xA1#8, 0x02#8, 0x01#8, 0x10#8, 0x57#8, 0x62#8]
      = .openDay { port := .office, tag := 1, op1 := 0, op2 := 0 } := by decide +kernel
theorem test_frame_issueFloat :
    frameCommand .office [0xA1#8, 0x06#8, 0x00#8, 0x20#8, 0x11#8, 0x02#8, 0x00#8, 0x0B#8, 0xEB#8, 0x8D#8]
      = .issueFloat (office 11 0) 17 2 := by decide +kernel
theorem test_frame_startCount :
    frameCommand .office
        [0xA1#8, 0x0A#8, 0x02#8, 0x30#8, 0x01#8, 0x11#8, 0x02#8, 0x01#8, 0x00#8, 0x05#8, 0x00#8, 0x0B#8, 0xD8#8, 0x7B#8]
      = .startCount { port := .office, tag := 2, op1 := 11, op2 := 0 } (.ok (.pouch 17 2)) (.ok (some 0)) 5 := by
  decide +kernel
theorem test_frame_openRange :
    frameCommand .office [0xA1#8, 0x04#8, 0x00#8, 0x40#8, 0x00#8, 0xFF#8, 0x20#8, 0xC3#8] = .openRange desk 0 255 := by
  decide +kernel
theorem test_frame_adjust :
    frameCommand .office
        [0xA1#8, 0x0B#8, 0x00#8, 0x45#8, 0x05#8, 0x01#8, 0x85#8, 0x00#8, 0x03#8, 0x00#8, 0x0C#8, 0x00#8, 0x0D#8, 0xF3#8, 0xA5#8]
      = .adjust (office 12 13) 5 (.ok (vec [(5, -3)])) := by decide +kernel
theorem test_frame_closeBag :
    frameCommand .office
        [0xA1#8, 0x07#8, 0x00#8, 0x52#8, 0x04#8, 0x00#8, 0x00#8, 0x00#8, 0x6F#8, 0xC3#8, 0x9C#8]
      = .closeBag desk 4 111 := by decide +kernel
theorem test_frame_archive :
    frameCommand .office [0xA1#8, 0x06#8, 0x00#8, 0x71#8, 0x00#8, 0x00#8, 0x08#8, 0xA5#8, 0x8A#8, 0x10#8]
      = .archive desk 2213 := by decide +kernel
theorem test_frame_readStatus :
    frameCommand .courier [0xA1#8, 0x02#8, 0x00#8, 0x80#8, 0xE7#8, 0xEA#8] = .readStatus courier := by decide +kernel
theorem test_frame_malformed_tag :
    frameCommand .till [0xA1#8, 0x02#8, 0x08#8, 0x80#8, 0x6E#8, 0x43#8] = .badTagFrame .till 8 0x80 := by decide +kernel
theorem test_frame_unknown_code :
    frameCommand .till [0xA1#8, 0x02#8, 0x02#8, 0x17#8, 0x72#8, 0xD6#8] = .unknownRequestCode .till 2 0x17 := by
  decide +kernel
theorem test_frame_too_short_for_its_fields :
    frameCommand .office [0xA1#8, 0x03#8, 0x02#8, 0x04#8, 0x11#8, 0xAA#8, 0x51#8] = .unknownRequestCode .office 2 0x04 := by
  decide +kernel
theorem test_frame_bad_crc :
    frameCommand .office [0xA1#8, 0x02#8, 0x00#8, 0x80#8, 0xE7#8, 0xEB#8] = .frameDiscarded .office .crc := by decide +kernel
theorem test_setUp_block : commandBytes (.setUp 0 0x000F 5)
    = [0xC2#8, 0x04#8, 0x00#8, 0x00#8, 0x0F#8, 0x05#8, 0xF2#8, 0xFD#8] := by decide +kernel

/-- A signed value field of −795 and an unsigned one above its range (R4, R204). -/
theorem test_value_fields :
    fieldBytes (.signed (-795)) = [0x40#8, 0x00#8, 0x03#8, 0x1B#8]
      ∧ fieldBytes (.value 1000000000) = [0xBB#8, 0x9A#8, 0xC9#8, 0xFF#8] := by decide +kernel

/-! ## The manual's worked figures -/

/-- "Conversions at the edges" (chapter 4). -/
theorem test_conversions :
    convertCoin 37680 750 = { count := 50, saturated := false, uncertain := false }
      ∧ convertCoin 38000 750 = { count := 51, saturated := false, uncertain := true }
      ∧ convertCoin 37875 750 = { count := 51, saturated := false, uncertain := true }
      ∧ convertCoin 0 750 = { count := 0, saturated := false, uncertain := false }
      ∧ convertCoin 70000 1 = { count := 65535, saturated := true, uncertain := false }
      ∧ convertCoin 16777215 2000 = { count := 8389, saturated := false, uncertain := true } := by decide +kernel

/-- "Composing the standard float" (chapter 3). -/
theorem test_composition :
    compose table stock 0xFFE (some profile.template) 20000
      = (vec [(1, 4), (2, 4), (3, 4), (5, 25), (6, 40), (7, 50), (8, 50)], 0) := by decide +kernel

/-- The top-up of 5,000 from the reserve the float leaves, and the top-up of 150 that cannot be composed (chapter 3). -/
theorem test_topups :
    compose table (vec [(1, 46), (2, 196), (4, 20), (5, 275), (6, 40), (7, 350), (8, 350)]) 0xFFE none 5000
        = (vec [(1, 2), (2, 1)], 0)
      ∧ compose table (vec [(9, 500), (10, 500)]) 0xFFE none 150 = (vec [(10, 50)], 50) := by decide +kernel

/-- ISSUE FLOAT of that float leaves the reserve as the manual gives it, and the till TRADING with F 20,000. -/
theorem test_issueFloat :
    holding (after (.issueFloat (office 11 0) 17 2) shop) (.comp 0)
        = vec [(1, 46), (2, 196), (4, 20), (5, 275), (6, 40), (7, 350), (8, 350)]
      ∧ (tillOf (after (.issueFloat (office 11 0) 17 2) shop) 17).f = 20000 := by decide +kernel

/-- "The session of till T17" (chapter 5): FINAL TAKINGS of 183,455 settles it SHORT by 250 within 291. -/
theorem test_finalTakings_settles :
    (tillOf (after (.finalTakings till 17 183455) counted) 17).last
        = some { cls := .short, variance := -250, allowance := 291, time := 40000 }
      ∧ (after (.finalTakings till 17 183455) counted).store.totals.shortTotal = 1680 := by decide +kernel

/-- "A declaration a little higher" (chapter 5): 184,000 leaves it HELD with OUTSIDE. -/
theorem test_finalTakings_holds :
    (tillOf (after (.finalTakings till 17 184000) counted) 17).hold = { HoldReasons.empty with outside := true } := by
  decide +kernel

/-- The wrap of the sequence numbers (R182). -/
theorem test_forward : forward 4294967295 1 = 1 ∧ forward 1 4294967295 = 4294967294 ∧ forward 7 7 = 0 := by decide +kernel

/-- A manifest with no bags (R166). -/
theorem test_empty_manifest : manifestChecksum shop 0 = 0xFFFF#16 := by decide +kernel

/-! ## Witnesses: states and operands that meet the hypotheses of the statements, clause by clause -/

/-- The office with main supply lost, and with the slot of tag 0 taken on the Office Port. -/
def dark : State := setSupply .cut shop
def taken : State := setSlot .office 0 .parked shop

/-- A movement of one 500 note out of the reserve. -/
def oneNote (v : Counts) : Movement :=
  { kind := .transfer, src := some (.comp 0), dst := some (.comp 2), vec := v, port := .office, ops := [11]
    flags := MoveFlags.clear, held := false }

theorem witness_StepRunsTheFrontCommand : State.reset.pending = [] ∧ shop.pending = [] := by decide +kernel

theorem witness_RequestsTurnedAway :
    requestOf (.openDay desk) = some (desk, 0x10) ∧ canReceive dark .office = false
      ∧ canReceive taken .office = true ∧ (slotOf taken .office 0).state ≠ .free
      ∧ requestOf (.openDay till) = some (till, 0x10) ∧ ready shop till = true ∧ granted 0x10 .till = false
      ∧ desk.port = .office ∧ desk.tag = 0 := by
  decide +kernel

theorem witness_CrcRule :
    payloadOf? 0xC1 [0xC1#8, 0x00#8, 0x38#8, 0x6A#8] = some [] ∧ payloadOf? 0xD3 (frameOf 0xD3 [2#8, 0#8]) = some [2#8, 0#8] := by
  decide +kernel

/-- Weights at both sides of the saturation, and a COIN index outside the mask. -/
theorem witness_CoinConversion :
    (65535 + 1 / 2) / 1 ≤ 65535 ∧ 65535 < (65536 + 1 / 2) / 1 ∧ (16777215 : Nat) ≤ 16777215 ∧ (2000 : Nat) ≤ 2000
      ∧ (0x000F#16).getLsbD 5 = false ∧ coinInUse shop 5 = true := by decide +kernel

/-- Variances at each edge of an allowance of 292. -/
theorem witness_DrawerClasses :
    (0 < |(292 : Int)| ∧ |(292 : Int)| ≤ 292) ∧ (0 < |(-292 : Int)| ∧ |(-292 : Int)| ≤ 292)
      ∧ ((292 : Int) < |(293 : Int)| ∧ |(1168 : Int)| ≤ 4 * 292) ∧ 4 * (292 : Int) < |(-1169 : Int)|
      ∧ (drawerOf (declared 183455) 17).isSome = true ∧ (tillOf (declared 183455) 17).final = some 183455 := by
  decide +kernel

/-- E, W and L of the worked case, within and beyond; the doubtful case is the first with an uncertain count. -/
theorem witness_DrawerComputation :
    (∃ d, drawerOf (declared 183455) 17 = some d ∧ d.uncertain = false ∧ d.saturated = false
        ∧ |d.counted - (25000 + 183455 - 150000)| ≤ 200 + 5 * 183455 / 10000)
      ∧ ∃ d, drawerOf (declared 184000) 17 = some d ∧ 200 + 5 * 184000 / 10000 < |d.counted - (25000 + 184000 - 150000)| :=
  ⟨⟨_, rfl, rfl, rfl, by decide +kernel⟩, ⟨_, rfl, by decide +kernel⟩⟩

theorem witness_ForwardDistanceCountsAdvances : 1 ≤ 4294967295 ∧ 4294967295 ≤ 4294967295 ∧ 4294967294 < 4294967295 := by
  decide

theorem witness_CompositionIsExact :
    (∀ i : DenomIx, 0 ≤ look stock i) ∧ (∀ i : DenomIx, 0 ≤ look profile.template i) ∧ look table 5 = coin 100 25 750
      ∧ issuable table 0xFFE = [1, 2] ++ 3 :: [4, 5, 6, 7, 8, 9, 10, 11] := by decide +kernel

/-- No two operators of the office share a number. -/
theorem shop_operators : OperatorsHold shop := by
  intro i j e f
  have h : ∀ i j : Fin 32, (look shop.store.operators i).isSome → (look shop.store.operators j).isSome →
      (look shop.store.operators i).map (·.number) = (look shop.store.operators j).map (·.number) → i = j := by decide +kernel
  intro hi hj hn
  exact h i j (by rw [hi]; rfl) (by rw [hj]; rfl) (by rw [hi, hj]; exact congrArg some hn)

theorem witness_AuthorisationLevels :
    OperatorsHold shop
      ∧ (look shop.store.operators 0 = some { number := 11, role := .clerk, standing := .active })
      ∧ (look shop.store.operators 1 = some { number := 12, role := .supervisor, standing := .active })
      ∧ (look shop.store.operators 2 = some { number := 13, role := .manager, standing := .active })
      ∧ (∀ i e, look shop.store.operators i = some e → e.number ≠ 14) := by
  refine ⟨shop_operators, by decide +kernel, by decide +kernel, by decide +kernel, ?_⟩
  intro i e he
  have h : ∀ i : Fin 32, (look shop.store.operators i).map (·.number) ≠ some 14 := by decide +kernel
  intro hn
  exact h i (by rw [he]; exact congrArg some hn)

/-- A state of each check that finds something, the checks before it finding nothing, and of each answer of the table of access. -/
def withSafe (f : SafeUnit → SafeUnit) : State := { shop with safe := f shop.safe }
def locked (frozen : Bool) : State := withSafe fun u => { u with range := { low := 1, high := 15 }, frozen }
def fullJournal : State := { shop with store := { shop.store with journal := { shop.store.journal with held := 512 } } }
def brimming : State := setHolding (.comp 2) (vec [(3, 65535)]) shop
def marked : State := setStepBits (.comp 2) { flag := true, mark := true } shop
def awayReserve : State := modComp 0 (fun r => { r with outForCount := some 1 }) shop

theorem witness_MovementPasses :
    let check := checkMovement 1 (oneNote (vec [(3, 1)]))
    check shop = .pass ∧ check { shop with retention := { shop.retention with suspect := true } } = .refused .memorySuspect
      ∧ check shut = .refused .dayNotOpen ∧ check fullJournal = .refused .journalFull
      ∧ checkMovement 1 (oneNote (vec [(3, 5)])) shop = .refused .badOperand ∧ check brimming = .refused .countRange
      ∧ check (locked false) = .refused .locked ∧ check (locked true) = .refused .frozen
      ∧ check (modComp 2 (fun r => { r with alarm := .forced }) shop) = .refused .alarmed
      ∧ check visit = .parked .session (.comp 0) ∧ check awayReserve = .parked .countOut (.comp 0)
      ∧ check marked = .parked .audit (.comp 2)
      ∧ check (modComp 2 (fun r => { r with cap := 400 }) shop) = .refused .overCap
      ∧ access awayReserve none 0 = .parked .countOut ∧ access awayReserve (some 1) 0 = .accessible := by decide +kernel

theorem witness_MovementApplied :
    formOf (oneNote (vec [(3, 1)])).kind = .transfer ∧ formOf .countResult = .replacement
      ∧ (compOf shop 0).hold = false ∧ (compOf shop 0).door = .closed
      ∧ checkMovement 1 (oneNote (vec [(3, 4)])) shop = .pass
      ∧ checkMovement 1 (oneNote (vec [(3, 5)])) shop = .refused .badOperand
      ∧ formOf (handMove visit 4).kind = .transfer ∧ (handMove visit 4).src = some (.bag 4) ∧ (handMove visit 4).dst = none
      ∧ formOf (adjustMove 0 stock .office []).kind ≠ .replacement ∧ (adjustMove 0 stock .office []).src = none
      ∧ (adjustMove 0 stock .office []).dst = some (.comp 0) := by decide +kernel

theorem witness_CloseCompletes :
    closing.day.state = .closing ∧ (∀ i, (tillOf closing i).state = .idle) ∧ (∀ i, (tillOf closing i).pouches = [])
      ∧ (∀ b, (bagOf closing b).dir = none) ∧ (∀ t, (trayOf closing t).state = .empty) ∧ closing.courier.session = none
      ∧ shop.day.state ≠ .closing := by decide +kernel

/-- The end of an event that a unit has reported, of one that has called for a pass, and of one with neither. -/
theorem witness_CloseCompletes_end :
    (report shop).event.signals = [] ∧ (report shop).event.reported = true ∧ shop.event.reported = false
      ∧ (posted 1 (loose (vec [(1, 3)]))).event.signals = .countPass :: [] := by decide +kernel

/-- A face and a mass at the ends of their ranges, at index 12, which holds nothing. -/
theorem witness_SetDenominationReplaces :
    officeReady shut desk = true ∧ shut.day.state = .closed ∧ (50000 : Nat) ≤ 50000 ∧ (2000 : Nat) ≤ 2000
      ∧ (∀ j : DenomIx, (look shut.store.denoms j).face ≠ some 50000) ∧ (∀ c, look (holding shut c) 12 = 0)
      ∧ (look shut.store.denoms 1).face = some 2000 :=
  ⟨by decide +kernel, by decide +kernel, by decide, by decide, by decide +kernel,
   every_container (by decide +kernel) (by decide +kernel) (by decide +kernel) (by decide +kernel), by decide +kernel⟩

/-- A number in the table, a new number with entry 3 the lowest empty one, and a full table. -/
def crowded : State :=
  { shop with store := { shop.store with
      operators := Vector.ofFn fun i => some { number := 100 + i.1, role := .clerk, standing := .active } } }

theorem witness_SetOperatorWrites :
    officeReady shop desk = true ∧ OperatorsHold shop
      ∧ look shop.store.operators 0 = some { number := 11, role := .clerk, standing := .active }
      ∧ look shop.store.operators 3 = none ∧ (∀ j : Fin 32, j < 3 → look shop.store.operators j ≠ none)
      ∧ officeReady crowded desk = true ∧ (∀ i, look crowded.store.operators i ≠ none) :=
  ⟨by decide +kernel, shop_operators, by decide +kernel, by decide +kernel, by decide +kernel, by decide +kernel,
   by decide +kernel⟩

theorem witness_SetFloatProfileStores :
    officeReady shop desk = true ∧ (∀ i : DenomIx, 0 ≤ look profile.template i ∧ look profile.template i ≤ 65535)
      ∧ valueOf shop profile.template = 20000
      ∧ (∀ i : DenomIx, look profile.template i ≠ 0 →
          (look shop.store.denoms i).status = .active ∧ (0xFFE#16).getLsbD i.1 = true)
      ∧ (∀ i : DenomIx, (look shop.store.denoms i).form = some .coin →
          look profile.template i % ((look shop.store.denoms i).pack.getD 1 : Int) = 0) := by decide +kernel

theorem witness_SettingsReplaced :
    officeReady shop desk = true ∧ (999999999 : Nat) ≤ 999999999 ∧ (tillOf shop 17).limit ≠ 999999999
      ∧ (100000 : Nat) ≤ 100000 ∧ (500 : Nat) ≤ 500 ∧ (1 ≤ 3600 ∧ 5 ≤ 600 ∧ 10 ≤ 600 ∧ 30 ≤ 1800) := by decide +kernel

theorem witness_CompartmentConfigured :
    officeReady shut desk = true ∧ shut.day.state = .closed ∧ some (4 : CompIx) ≠ some 5
      ∧ (∀ d : CompIx, d ≠ 0 → (compOf shut d).role ≠ .floatReserve) ∧ (compOf shut 3).role = .outbound
      ∧ (∀ b, (bagOf shut b).state = .free) ∧ (∀ w, (windowOf shut w).comp ≠ some 3)
      ∧ capLoad shut 0 = 352000 := by decide +kernel

/-- The windows of a handover: W1 OPEN under a session, W0 PLANNED, and W2 CLOSED and W3 MISSED by hand. -/
def windows : State := modWindow 3 (fun r => { r with state := .missed }) (modWindow 2 (fun r => { r with state := .closed }) visit)

theorem witness_WindowRequests :
    officeReady windows desk = true ∧ windows.day.state ≠ .closed
      ∧ (windowOf windows 0).state = .planned ∧ sessionAt windows 0 = false ∧ (windowOf windows 0).staged = []
      ∧ (compOf windows 3).role = .outbound ∧ (99999999 : Nat) ≤ 99999999
      ∧ (windowOf windows 1).state = .opened ∧ (windowOf windows 1).badge ≠ none ∧ (windowOf windows 1).comp ≠ none
      ∧ sessionAt windows 1 = true ∧ (windowOf windows 2).state = .closed ∧ (windowOf windows 3).state = .missed := by
  decide +kernel

/-- A window that stands PLANNED with its badge and compartment set. -/
theorem witness_WindowRequests_opening :
    let s := modWindow 1 (fun r => { r with state := .planned }) visit
    officeReady s desk = true ∧ (windowOf s 1).state ≠ .opened ∧ (windowOf s 1).badge ≠ none ∧ (windowOf s 1).comp ≠ none := by
  decide +kernel

theorem witness_StepsAndRouting :
    officeReady shop desk = true ∧ (stepBits shop (.till 17)).mark = false
      ∧ (stepBits (setStepBits (.comp 5) { flag := true, mark := true } shop) (.comp 5)).mark = true
      ∧ officeReady (setStepBits (.comp 5) { flag := true, mark := true } shop) desk = true ∧ (3 : Nat) ≤ 3 := by decide +kernel

/-- The office with MEMORY_SUSPECT set. -/
def suspect : State := { shop with retention := { shop.retention with suspect := true } }

theorem witness_RestoreMemoryClearsTheFlag :
    officeReady shop (office 12 12) = true ∧ authorise .dualManager (office 12 12) shop ≠ none
      ∧ authorise .dualManager (office 12 13) shop = none ∧ shop.retention.suspect = false
      ∧ officeReady suspect (office 12 13) = true ∧ authorise .dualManager (office 12 13) suspect = none
      ∧ suspect.retention.suspect = true := by decide +kernel

theorem witness_OpenDayOpens :
    officeReady shut desk = true ∧ shut.day.state = .closed ∧ (∃ i, (look shut.store.denoms i).status = .active)
      ∧ (∃ c, (compOf shut c).role = .floatReserve) ∧ (∃ c, (compOf shut c).role = .takings)
      ∧ (∃ c, (compOf shut c).role = .changeFund)
      ∧ (let late := { shut with day := { shut.day with plan := put shut.day.plan 0 { time := 40001, action := .stop } } }
         late.day.clock < (look late.day.plan 0).time) := by decide +kernel

theorem witness_CloseDayAndReopen :
    officeReady shop desk = true ∧ shop.day.state = .opened ∧ officeReady closing desk = true ∧ closing.day.state = .closing := by
  decide +kernel

theorem witness_SetClockSteps : officeReady shop desk = true ∧ officeReady shut desk = true ∧ shop.day.state ≠ .closed := by
  decide +kernel

/-- The office with its plan in a state. -/
def planned (p : PlanState) : State := { shop with day := { shop.day with planState := p, pointer := 2 } }

theorem witness_PlanRequests :
    officeReady (planned .stopped) desk = true ∧ planArg (.ok (.openRange 15 255)) = some (.openRange 15 255)
      ∧ planOrdered (put shop.day.plan 0 { time := 86399, action := .stop }) = true
      ∧ planOrdered (put (put shop.day.plan 0 { time := 5, action := .lockAll }) 1 { time := 4, action := .stop }) = false
      ∧ officeReady (planned .running) desk = true ∧ officeReady (planned .held) desk = true ∧ ¬ (2 < (planned .held).day.pointer)
      ∧ 1 < (planned .held).day.pointer ∧ 1 < (planned .running).day.pointer ∧ (planned .running).day.state ≠ .closed
      ∧ sessionAt visit 0 = false ∧ sessionAt visit 1 = true := by decide +kernel

theorem witness_FloatIssued :
    officeReady shop (office 11 0) = true ∧ authorise .one (office 11 0) shop = none ∧ tillReady shop till = true
      ∧ shop.retention.suspect = false ∧ shop.day.state = .opened ∧ (tillOf shop 17).state = .idle
      ∧ profileOk shop.store.denoms (look shop.float.profiles 2) = true ∧ reserve shop = some 0
      ∧ (compose table stock 0xFFE (some profile.template) 20000).2 = 0
      ∧ checkMovement 1 (floatMove .issue 0 17 (compose table stock 0xFFE (some profile.template) 20000).1 .office [11]) shop = .pass
      ∧ (compose table Counts.zero 0xFFE (some profile.template) 20000).2 ≠ 0
      ∧ reserve State.reset = none := by decide +kernel

theorem witness_TopupMade :
    officeReady trader (office 11 0) = true ∧ authorise .one (office 11 0) trader = none ∧ tillReady trader till = true
      ∧ (tillOf trader 17).state = .trading ∧ (tillOf trader 17).signedOff = false ∧ (tillOf trader 17).topups < 3
      ∧ reserve trader = some 0 ∧ (compose table stock (tillOf trader 17).mask none 5000).2 = 0
      ∧ checkMovement 1 (floatMove .topup 0 17 (compose table stock (tillOf trader 17).mask none 5000).1 .office [11]) trader
          = .pass := by decide +kernel

theorem witness_TakingsAndPouches :
    tillReady trader till = true ∧ (999999999 : Nat) ≤ 999999999 ∧ (tillOf trader 17).state = .trading
      ∧ openPouches (tillOf trader 17) < 4 ∧ (tillOf trader 17).pouches.length < 255
      ∧ tillReady counted till = true ∧ (tillOf counted 17).state = .held ∧ (tillOf counted 17).hold.undeclared = true
      ∧ (tillOf (heldFor true) 17).state = .held ∧ (tillOf (heldFor true) 17).hold.undeclared = false
      ∧ officeReady trader desk = true
      ∧ pouch? (tillOf trader 17) 1 = some { number := 1, declared := 500, state := .outstanding, counted := none, diff := none } := by
  decide +kernel

/-- T17 with an estimate of 18,800 against a limit at it, between it and 8/10 of it, and above both. -/
def limited (limit : Nat) (armed : Bool) : State := modTill 17 (fun r => { r with limit, armed }) trader

theorem witness_TakingsAndPouches_evaluation :
    estimate (tillOf trader 17) = 18800 ∧ (tillOf trader 17).limit = 0
      ∧ (∀ a : Bool, (tillOf (limited 18800 a) 17).state = .trading ∧ (tillOf (limited 18800 a) 17).signedOff = false
          ∧ (tillOf (limited 18800 a) 17).limit ≠ 0 ∧ (tillOf (limited 18800 a) 17).armed = a)
      ∧ 18800 < 23502 * 8 / 10 ∧ 23500 * 8 / 10 ≤ 18800 ∧ 18800 < 23500
      ∧ (tillOf counted 17).hold.pendingPickups = false
      ∧ (tillOf (modTill 17 (fun r => { r with hold := { r.hold with pendingPickups := true } }) counted) 17).hold.pendingPickups
          = true := by decide +kernel

/-- T17 signed off, and SUSPENDED. -/
def signedOff : State := modTill 17 (fun r => { r with signedOff := true }) trader
def suspended : State := modTill 17 (fun r => { r with state := .suspended }) trader

theorem witness_TillStateRequests :
    tillReady trader till = true ∧ (tillOf trader 17).state = .trading ∧ (tillOf trader 17).signedOff = false
      ∧ tillReady signedOff till = true ∧ (tillOf signedOff 17).signedOff = true
      ∧ officeReady trader desk = true ∧ trader.day.state ≠ .closed
      ∧ officeReady suspended desk = true ∧ (tillOf suspended 17).state = .suspended := by decide +kernel

/-- A till's drawer with cash, RETURNED. -/
def returned : State :=
  setHolding (.till 17) (vec [(1, 10)]) (modTill 17 (fun r => { r with state := .returned }) trader)

theorem witness_CountBegins :
    officeReady returned (office 11 0) = true ∧ authorise .one (office 11 0) returned = none ∧ returned.count.station = .idle
      ∧ sourceNamed returned (.drawer 17) = true ∧ sourceOf returned (.drawer 17) = some (.drawer 17 4)
      ∧ sourceReady returned (.drawer 17 4) = true ∧ chooseTray returned none = some 0 ∧ chooseTray returned (some 1) = some 1
      ∧ checkMovement 2 (startMove returned (.drawer 17 4) 0 (office 11 0)) returned = .pass
      ∧ allZero (sourceVector returned (.drawer 17 4)) = false
      ∧ sourceReady returned (.pouch 17 4 2) = true ∧ allZero (sourceVector returned (.pouch 17 4 2)) = true
      ∧ checkMovement 1 (startMove returned (.pouch 17 4 2) 0 (office 11 0)) returned = .pass
      ∧ (255 : Nat) ≤ 255 := by decide +kernel

/-- A source that is not named, and a last count number of the present day, at its end, of another day, and none. -/
theorem witness_CountBegins_named :
    sourceNamed returned (.drawer 64) = false ∧ sourceNamed returned (.drawer 63) = true
      ∧ sourceNamed returned (.pouch 17 3) = false ∧ sourceNamed returned (.inbound 32) = false
      ∧ sourceNamed returned (.compartment 16) = false ∧ returned.count.lastCount = none ∧ returned.day.number = 9
      ∧ (let numbered (n d : Nat) : State :=
           { returned with count := { returned.count with lastCount := some { number := n, day := d } } }
         (nextCount (numbered 65535 9)).number = 1 ∧ (nextCount (numbered 7 9)).number = 8
           ∧ (nextCount (numbered 7 8)).number = 1) := by decide +kernel

theorem witness_CountBegins_recount :
    officeReady (loose (vec [(1, 3)])) (office 11 0) = true ∧ (trayOf (loose (vec [(1, 3)])) 1).state = .counted
      ∧ sourceOpen (loose (vec [(1, 3)])) .loose = true ∧ (loose (vec [(1, 3)])).retention.suspect = false
      ∧ 1 ≤ freeEntries (loose (vec [(1, 3)])) := by decide +kernel

/-- The station RUNNING or DOWN, both trays taken, and the source compartment under a session or locked. -/
def withStation (st : StationState) (s : State) : State := { s with count := { s.count with station := st } }
def noTray : State := modTray 0 (fun r => { r with state := .invalid }) (modTray 1 (fun r => { r with state := .invalid }) returned)

/-- A waiter of the count list. -/
def countWaiter (ask : CountAsk) : CountWaiter :=
  { port := .office, tag := 2, ask, reject := 0, ops := [11], park := .counter, elapsed := 5 }

theorem witness_CountBegins_refused_or_parked :
    officeReady (withStation .running returned) (office 11 0) = true ∧ officeReady (withStation .down returned) (office 11 0) = true
      ∧ sourceNamed (withStation .running returned) (.drawer 17) = true
      ∧ sourceReady (withStation .running returned) (.drawer 17 4) = true
      ∧ sourceReady returned (.pouch 17 4 1) = false
      ∧ chooseTray noTray none = none ∧ officeReady noTray (office 11 0) = true ∧ sourceReady noTray (.drawer 17 4) = true
      ∧ officeReady visit (office 11 0) = true ∧ sourceReady visit (.compartment 0) = true
      ∧ checkMovement 2 (startMove visit (.compartment 0) 0 (office 11 0)) visit = .parked .session (.comp 0)
      ∧ sourceReady (locked false) (.compartment 0) = true
      ∧ checkMovement 2 (startMove (locked false) (.compartment 0) 0 (office 11 0)) (locked false) = .refused .locked
      ∧ (trayOf returned 0).state = .empty ∧ (trayOf noTray 0).state = .invalid := by decide +kernel

theorem witness_CountBegins_pass :
    answerOf (startTry .office 2 [11] (.drawer 17) none 0 returned) = 3
      ∧ answerOf (startTry .office 2 [11] (.drawer 18) none 0 returned) = 0
      ∧ answerOf (startTry .office 2 [11] (.compartment 0) none 0 visit) = 1
      ∧ (countWaiter (.start (.drawer 17) none)).ask = .start (.drawer 17) none ∧ visit.count.station = .idle
      ∧ answerOf (recountTry .office 2 [11] 0 0 noTray) = 3 ∧ answerOf (recountTry .office 2 [11] 0 0 returned) = 0
      ∧ (withStation .running shop).count.station ≠ .idle := by decide +kernel

/-- A tray left INVALID by a failed count of loose cash. -/
def invalid : State := withTray 0 (fun r => { r with state := .invalid, source := some .loose }) shop

theorem witness_ManualCountEnters :
    officeReady returned (office 12 13) = true ∧ authorise .dual (office 12 13) returned = none
      ∧ (∀ i : DenomIx, 0 ≤ look (vec [(1, 65535)]) i ∧ look (vec [(1, 65535)]) i ≤ Config.maxCount)
      ∧ (∀ i : DenomIx, (look returned.store.denoms i).status = .unused → look (vec [(1, 65535)]) i = 0)
      ∧ (trayOf returned 0).state = .empty ∧ sourceReady returned (.drawer 17 4) = true
      ∧ checkEvent 2 [countOutMove (.drawer 17 4) 0 .office [12, 13] true returned,
          countResultMove 0 (vec [(1, 9)]) .office [12, 13] { MoveFlags.clear with manual := true } false] returned = .pass
      ∧ checkEvent 1 [emptyStart (some .loose) .office [12, 13],
          countResultMove 0 (vec [(1, 9)]) .office [12, 13] { MoveFlags.clear with manual := true } false] returned = .pass
      ∧ officeReady invalid (office 12 13) = true ∧ (trayOf invalid 0).state = .invalid
      ∧ checkMovement 1 (countResultMove 0 (vec [(1, 9)]) .office [12, 13] { MoveFlags.clear with manual := true } false) invalid
          = .pass := by decide +kernel

/-- The station DOWN. -/
def down : State := { shop with count := { shop.count with station := .down, faults := 2 } }

theorem witness_StationAndVarianceRequests :
    officeReady down (office 12 0) = true ∧ authorise .senior (office 12 0) down = none ∧ down.count.station = .down
      ∧ shop.count.station ≠ .down ∧ authorise .senior (office 11 0) down = some .operatorRefused
      ∧ (tillOf (heldFor false) 17).state = .held ∧ (tillOf (heldFor false) 17).hold.gross = false
      ∧ (tillOf (heldFor false) 17).hold.pendingPickups = false
      ∧ (∃ d, drawerOf (heldFor false) 17 = some d ∧ d.classed.isSome = true)
      ∧ authorise .senior (office 12 0) (heldFor false) = none ∧ (tillOf (heldFor true) 17).hold.gross = true
      ∧ authorise .dualManager (office 12 13) (heldFor true) = none
      ∧ authorise .dualManager (office 11 13) (heldFor true) = some .dualRequired :=
  ⟨by decide +kernel, by decide +kernel, by decide +kernel, by decide +kernel, by decide +kernel, by decide +kernel,
   by decide +kernel, by decide +kernel, ⟨_, rfl, rfl⟩, by decide +kernel, by decide +kernel, by decide +kernel, by decide +kernel⟩

/-- A tray COUNTED whose first destination is full and links to C05, which is not; one whose destination is out for a count; and one
with an attempt owed. -/
def fullTakings : State :=
  modComp 5 (fun r => { r with cap := 50000 }) (modComp 1 (fun r => { r with cap := 10, link := some 5 }) (loose (vec [(1, 3)])))
def awayTakings : State := modComp 1 (fun r => { r with outForCount := some 0 }) (loose (vec [(1, 3)]))
def owed : State :=
  { loose (vec [(1, 3)]) with recon := { shop.recon with attemptDue := put shop.recon.attemptDue 1 true } }

theorem witness_TrayPosted :
    officeReady (loose (vec [(1, 3)])) (office 11 0) = true ∧ (trayOf (loose (vec [(1, 3)])) 1).state = .counted
      ∧ destinationOf (loose (vec [(1, 3)])) 1 = some 1
      ∧ checkMovement 1 (postMove 1 1 false .office [11] (loose (vec [(1, 3)]))) (loose (vec [(1, 3)])) = .pass
      ∧ officeReady fullTakings (office 11 0) = true
      ∧ checkMovement 1 (postMove 1 1 false .office [11] fullTakings) fullTakings = .refused .overCap
      ∧ walkOverflow 1 .office [11] fullTakings 16 [1] 1 = some 5
      ∧ officeReady awayTakings (office 11 0) = true
      ∧ checkMovement 1 (postMove 1 1 false .office [11] awayTakings) awayTakings = .parked .countOut (.comp 1)
      ∧ owed.retention.supply = .good ∧ look owed.recon.attemptDue 1 = true ∧ destinationOf owed 1 = some 1
      ∧ checkMovement 1 (postMove 1 1 false .office (look owed.recon.fillOps 1) owed) owed = .pass
      ∧ look shop.recon.attemptDue 1 = false ∧ look shop.recon.reported 1 = false := by decide +kernel

/-- The destination locked, full with no link, and the tray INVALID or EMPTY. -/
def lockedTakings : State := { loose (vec [(1, 3)]) with safe := { shop.safe with range := { low := 2, high := 15 } } }
def stuckTakings : State := modComp 1 (fun r => { r with cap := 10 }) (loose (vec [(1, 3)]))
def owing (s : State) : State := { s with recon := { s.recon with attemptDue := put s.recon.attemptDue 1 true } }
def reported : State :=
  { loose (vec [(1, 3)]) with recon := { shop.recon with
      pending := put shop.recon.pending 1 true, reported := put shop.recon.reported 1 true } }

theorem witness_TrayPosted_refused :
    officeReady lockedTakings (office 11 0) = true
      ∧ checkMovement 1 (postMove 1 1 false .office [11] lockedTakings) lockedTakings = .refused .locked
      ∧ officeReady stuckTakings (office 11 0) = true
      ∧ checkMovement 1 (postMove 1 1 false .office [11] stuckTakings) stuckTakings = .refused .overCap
      ∧ walkOverflow 1 .office [11] stuckTakings 16 [1] 1 = none
      ∧ officeReady invalid (office 11 0) = true ∧ (trayOf invalid 0).state = .invalid ∧ (trayOf shop 0).state = .empty
      ∧ (trayOf (loose (vec [(1, 3)])) 1).count ≠ some { number := 7, day := 9 }
      ∧ look reported.recon.reported 1 = true ∧ look reported.recon.pending 1 = true ∧ (trayOf reported 1).state = .counted
      ∧ reported.retention.supply = .good := by decide +kernel

theorem witness_TrayPosted_attempts :
    (∀ s ∈ [lockedTakings, stuckTakings, fullTakings, awayTakings], look (owing s).recon.attemptDue 1 = true
        ∧ (trayOf (owing s) 1).state = .counted ∧ destinationOf (owing s) 1 = some 1 ∧ (owing s).retention.supply = .good)
      ∧ checkMovement 1 (postMove 1 1 false .office [] (owing lockedTakings)) (owing lockedTakings) = .refused .locked
      ∧ walkOverflow 1 .office [] (owing stuckTakings) 16 [1] 1 = none
      ∧ walkOverflow 1 .office [] (owing fullTakings) 16 [1] 1 = some 5
      ∧ checkMovement 1 (postMove 1 1 false .office [] (owing awayTakings)) (owing awayTakings) = .parked .countOut (.comp 1)
      ∧ (trayOf (owing shop) 1).state = .empty := by decide +kernel

/-- The office frozen. -/
def frozen : State := { shop with safe := { shop.safe with frozen := true } }

theorem witness_RangeAndFreeze :
    officeReady shop (office 12 13) = true ∧ authorise .dual (office 12 13) shop = none ∧ shop.safe.frozen = false
      ∧ officeReady frozen (office 12 13) = true ∧ authorise .dual (office 12 13) frozen = none ∧ frozen.safe.frozen = true
      ∧ authorise .dual (office 11 13) frozen = some .dualRequired
      ∧ (15 ≤ 15 ∧ 255 ≤ 255) ∧ (15 < 16 ∨ 255 < 0) := by decide +kernel

theorem witness_CashMoved :
    officeReady visit (office 12 13) = true ∧ authorise .one (office 12 13) visit = none
      ∧ authorise .dual (office 12 13) visit = none
      ∧ checkMovement 1 (transferMove 0 2 (vec [(3, 1)]) .office [12]) shop = .pass
      ∧ checkMovement 1 (transferMove 0 2 (vec [(3, 1)]) .office [12]) visit = .parked .session (.comp 0)
      ∧ checkMovement 1 (transferMove 0 2 (vec [(3, 5)]) .office [12]) shop = .refused .badOperand
      ∧ checkMovement 1 (adjustMove 0 (vec [(3, -4)]) .office [12, 13]) shop = .pass
      ∧ checkMovement 1 (fillMove 4 0 (vec [(3, 4)]) .office [12])
          (modBag 4 (fun _ => outBag .opened none none) shop) = .pass
      ∧ (∃ i : DenomIx, look (vec [(3, 1)]) i ≠ 0)
      ∧ (∀ i : DenomIx, (look visit.store.denoms i).status = .unused → look (vec [(3, 1)]) i = 0) := by decide +kernel

/-- The answers of a re-try, and a waiter that is there. -/
theorem witness_CashMoved_retry :
    answerOf (accessTry .office 1 [11] (.transfer 0 2 (vec [(3, 1)])) shop) = 2
      ∧ answerOf (accessTry .office 1 [11] (.transfer 0 2 (vec [(3, 5)])) shop) = 0
      ∧ answerOf (accessTry .office 1 [11] (.transfer 0 2 (vec [(3, 1)])) visit) = 1
      ∧ answerOf (accessTry .office 1 [11] (.startCount (.compartment 0) none 0) shop) = 3
      ∧ answerOf (accessTry .office 1 [11] (.startCount (.drawer 17) none 0) noTray) = 4
      ∧ (parkAccess .office 1 [11] (.transfer 0 2 (vec [(3, 1)])) .session (.comp 0) shop).safe.waiters.length = 1
      ∧ shop.safe.waiters = [] := by decide +kernel

/-- C05 FORCED with its door closed. -/
def forced : State := modComp 5 (fun r => { r with alarm := .forced }) shop

theorem witness_ClearAlarmRule :
    officeReady forced (office 12 13) = true ∧ authorise .dual (office 11 13) forced ≠ none
      ∧ authorise .dual (office 12 13) forced = none ∧ (15 < 16)
      ∧ (compOf forced 4).alarm ≠ .forced ∧ (compOf forced 5).alarm = .forced ∧ (compOf forced 5).door = .closed
      ∧ inRange forced 5 = true ∧ forced.courier.session = none ∧ (compOf forced 5).outForCount = none := by
  decide +kernel

/-- A compartment under each condition of the door rules. -/
def withComp (f : CompRec → CompRec) : State := modComp 5 f shop

theorem witness_DoorsAndLatches :
    shop.retention.supply = .good
      ∧ (compOf (withComp fun r => { r with hold := true, latch := .released }) 5).hold = true
      ∧ (compOf (withComp fun r => { r with latch := .released, latchTimer := some 30 }) 5).latchTimer = some 30
      ∧ (compOf shop 5).latch = .engaged ∧ (compOf shop 5).door = .closed ∧ (compOf shop 5).hold = false
      ∧ (compOf (withComp fun r => { r with door := .opened, heldTimer := some 120 }) 5).heldTimer = some 120
      ∧ shop.safe.heldInForce ≤ 120 := by decide +kernel

/-- The office with a bag in a state. -/
def withBag (r : BagRec) : State := modBag 4 (fun _ => r) shop

theorem witness_BagRequests :
    officeReady shop desk = true ∧ (compOf shop 3).role = .outbound ∧ (bagOf shop 0).state = .free
      ∧ (∀ d : BagIx, d < 0 → (bagOf shop d).state ≠ .free)
      ∧ (bagOf (withBag (outBag .opened none none)) 4).state = .opened
      ∧ (∀ d, (bagOf (withBag (outBag .opened none none)) d).tag ≠ some 99999999)
      ∧ (∀ i : DenomIx, look (holding (withBag (outBag .opened none none)) (.bag 4)) i = 0)
      ∧ (bagOf (withBag (outBag .closed (some 5) none)) 4).state = .closed
      ∧ (let s := modWindow 1 (fun r => { r with comp := some 3 }) (withBag (outBag .closed (some 5) none))
         (windowOf s 1).state = .planned ∧ (windowOf s 1).comp = some 3 ∧ (bagOf s 4).location = some 3
           ∧ (windowOf s 1).staged.length < 16 ∧ officeReady s desk = true)
      ∧ (bagOf visit 4).state = .staged ∧ (bagOf visit 4).window = some 1 ∧ officeReady visit desk = true := by decide +kernel

/-- W1 open for a courier with badge 77, no session yet; and a session with two scan errors. -/
def doorstep : State := { visit with courier := { visit.courier with session := none } }
def twoErrors : State := modSession (fun x => { x with errors := 2 }) visit

theorem witness_SessionRequests :
    courierReady doorstep courier = true ∧ (windowOf doorstep 1).state = .opened ∧ doorstep.courier.session = none
      ∧ (windowOf doorstep 1).badge = some 77 ∧ (windowOf doorstep 1).comp = some 3 ∧ (windowOf doorstep 1).badge ≠ some 99999999
      ∧ courierReady visit courier = true ∧ visit.courier.session.isSome = true
      ∧ (windowOf visit 1).staged[1]? = some 5 ∧ (bagOf visit 5).tag = some 222 ∧ (bagOf visit 4).tag ≠ some 222
      ∧ (∀ d ∈ (windowOf visit 1).staged, (bagOf visit d).tag ≠ some 99999999)
      ∧ courierReady twoErrors courier = true ∧ (twoErrors.courier.session.map (·.errors)) = some 2
      ∧ (visit.courier.session.map (·.errors)) = some 0
      ∧ (compOf visit 3).door = .closed ∧ (compOf (modComp 3 (fun r => { r with door := .opened }) visit) 3).door = .opened
      ∧ (windowOf visit 1).unstagePending = false
      ∧ (windowOf (modWindow 1 (fun r => { r with unstagePending := true }) visit) 1).unstagePending = true := by
  decide +kernel

theorem witness_HandoverConfirmed :
    courierReady signedFor courier = true
      ∧ (∃ x, signedFor.courier.session = some x ∧ x.manifestSent = true ∧ x.checksum = some (manifestChecksum signedFor 1)
          ∧ x.window = 1 ∧ (∀ b ∈ (windowOf signedFor 1).staged, b ∈ x.scanned) ∧ handoverMoves x signedFor ≠ []
          ∧ checkEvent (handoverMoves x signedFor).length (handoverMoves x signedFor) signedFor = .pass
          ∧ x.inbound.length < 8 ∧ (windowOf signedFor x.window).staged.Nodup)
      ∧ (bagOf signedFor 0).state = .free ∧ (∀ d, (bagOf signedFor d).tag ≠ some 333)
      ∧ (∃ i : DenomIx, look (vec [(1, 7)]) i ≠ 0) :=
  ⟨by decide +kernel, ⟨_, rfl, by decide +kernel⟩, by decide +kernel, by decide +kernel, by decide +kernel⟩

/-- The office after one transfer, so that the journal holds entry 1. -/
def moved : State := { after (.transfer (office 11 0) 0 2 (.ok (vec [(3, 1)]))) shop with ports := shop.ports }

theorem witness_JournalRequests :
    officeReady moved desk = true ∧ moved.store.journal.entries.length = 1 ∧ (moved.store.journal.entries.map (·.seq)) = [1]
      ∧ forward 1 1 < 1 ∧ (1 ≤ forward 1 2 ∧ forward 1 2 ≤ 2147483647) ∧ 2147483647 < forward 1 4294967295
      ∧ shop.store.journal.entries = [] ∧ (255 : Nat) ≤ 255 := by decide +kernel

/-- What a read takes from the number of the entry on, from one below it, and from one beyond it; its one entry has one item and 29
bytes (R205), and eight such entries are more than a response has room for. -/
theorem witness_JournalRequests_part :
    let e := (moved.store.journal.entries.map fun e => 26 + 3 * e.items.length)
    e = [29] ∧ (e.take 1).sum ≤ 218 ∧ (1 : Nat) ≤ moved.store.journal.entries.length
      ∧ moved.store.journal.entries.length ≤ forward 1 2 ∧ moved.store.journal.entries.length ≤ forward 1 4294967295
      ∧ (List.replicate 7 29).sum ≤ 218 ∧ 218 < (List.replicate 8 29).sum
      ∧ (moved.store.journal.entries.all fun e => decide (0 ≤ e.value)) = true := by decide +kernel

theorem witness_ReadsChangeNothing :
    ready shop desk = true ∧ ready shop till = true ∧ ready shop courier = true ∧ officeReady shop desk = true
      ∧ tillReady shop till = true ∧ (look shop.float.profiles 2).defined = true
      ∧ (look shop.float.profiles 7).defined = false ∧ desk.port = .office ∧ till.port ≠ .courier ∧ courier.port ≠ .till
      ∧ ready visit courier = true ∧ visit.courier.session.isSome = true ∧ shop.courier.session = none
      ∧ (64 : Nat) ≤ 64 ∧ (4 : Nat) ≤ 255 ∧ (∀ i, Container.comp 0 ≠ .till i) := by decide +kernel

/-- A float request parked under tag 1 of the Till Port. -/
def parked : State :=
  parkFloat .till 1 [] (.float 17 2) .stock { takeSlot .till 1 0x21 shop with float := shop.float }

theorem witness_WithdrawEndsRequests :
    ready parked till = true ∧ (slotOf parked .till 1).state = .parked ∧ parked.float.waiters.length = 1 := by decide +kernel

/-- The running count with its slot RUNNING. -/
theorem witness_WithdrawEndsRequests_running :
    let s := setSlot .office 0 .running (running (some .status) false)
    (slotOf s .office 0).state = .running ∧ s.count.running.isSome = true
      ∧ (s.count.running.map fun r => (r.port, r.tag)) = some (.office, 0) := by decide +kernel

/-- A response of two frames on the Office Port's line, and a REJECT. -/
def longAnswer : Response :=
  { tag := 1, code := 0x84, outcome := .ok, detail := 0, results := List.replicate 60 (.u32 0) }
def online (f : Frame) : State := modPort .office (fun r => { r with link := .active, line := some f }) shop

theorem witness_PortEvents :
    (portOf shop .office).link ≠ .brk ∧ (portOf (modPort .office PortRec.afterBreak shop) .office).link = .brk
      ∧ lastPart longAnswer 0 = false ∧ lastPart longAnswer 1 = true
      ∧ (portOf (online (.response longAnswer 1)) .office).line = some (.response longAnswer 1)
      ∧ (portOf (online (.reject 0)) .office).line = some (.reject 0)
      ∧ ready shop courier = true ∧ canReceive shop .courier = true ∧ responseWaiting (portOf shop .courier) 8 = false
      ∧ responseWaiting (malformedTag 8 0x80 (portOf shop .courier)) 8 = true
      ∧ visit.courier.session.isSome = true ∧ shop.courier.session = none := by decide +kernel

theorem witness_StationConversation :
    (running (some .select) false).retention.supply = .good ∧ (running (some .select) false).count.running.isSome = true
      ∧ (running (some .select) false).count.exchange = some .select
      ∧ (running (some (.setUp 0 0x000F 5)) false).count.exchange = some (.setUp 0 0x000F 5)
      ∧ (running none false).count.exchange = none ∧ (running none false).count.station = .running
      ∧ ((running none false).count.running.map (·.step.isSome)) = some true
      ∧ (running (some .status) false).count.exchange = some .status
      ∧ reply? 0xD1 1 [] ≠ some [0x01#8] ∧ (3#8).getLsbD 0 = true ∧ (2#8).getLsbD 0 = false ∧ (2#8).getLsbD 1 = true
      ∧ (0#8).getLsbD 1 = false ∧ reply? 0xD3 2 [] = none ∧ (running (some .result) false).count.exchange ≠ none
      ∧ shop.count.running = none ∧ shop.count.exchange = none := by decide +kernel

theorem witness_CountCompletes :
    (running (some .result) false).count.exchange = some .result ∧ (running (some .result) false).retention.supply = .good
      ∧ ((running (some .result) true).count.running.map (·.reread)) = some true
      ∧ (resultPayload [(1, 3)] [(5, 37680)] 2).length = 99
      ∧ contentFault 0x000F (resultPayload [(1, 3)] [(5, 37680)] 2) (running (some .result) false) = false
      ∧ contentFault 0x000F (resultPayload [(4, 3)] [] 2) (running (some .result) false) = true
      ∧ reply? 0xD4 99 [0#8] = none := by decide +kernel

/-- Trays with each kind of source, open and not, for the handover of a completion. -/
theorem witness_CountCompletes_handOver :
    let drawer (f : TillRec → TillRec) := modTill 17 f trader
    sourceOpen trader (.drawer 17 4) = false ∧ sourceOpen (drawer fun r => { r with state := .counting }) (.drawer 17 4) = true
      ∧ (tillOf trader 17).final = none
      ∧ sourceOpen counted (.drawer 17 4) = true ∧ (tillOf counted 17).hold.undeclared = true
      ∧ (tillOf (heldFor false) 17).hold.undeclared = false ∧ (tillOf (heldFor false) 17).hold.pendingPickups = false
      ∧ sourceOpen trader (.pouch 17 4 2) = true ∧ sourceOpen trader (.pouch 17 3 2) = false
      ∧ ((pouch? (tillOf trader 17) 2).map (·.state)) = some .received
      ∧ (trayOf (loose Counts.zero) 1).source = some .loose ∧ (trayOf shop 1).source = none := by decide +kernel

theorem witness_CountFails :
    (running (some .abandon) false).count.exchange = some .abandon
      ∧ (running (some .status) false).count.exchange = some .status
      ∧ (running (some .result) false).count.running.isSome = true
      ∧ (∃ r x, (running none false).count.running = some r ∧ r.step = some x ∧ x.limit ≤ x.elapsed)
      ∧ FaultReason.scaleFault ≠ .jam ∧ down.count.faults = 2 ∧ shop.count.faults = 0 :=
  ⟨by decide +kernel, by decide +kernel, by decide +kernel, ⟨_, _, rfl, rfl, by decide +kernel⟩, by decide, by decide +kernel,
   by decide +kernel⟩

/-- Waiters of each list, at 300 seconds of a limit of 300 (and 900 and 600). -/
def waiting1 (e : Nat) : State :=
  { shop with
    float := { shop.float with waiters := [
      { port := .till, tag := 1, ask := .float 17 2, ops := [], park := .stock, elapsed := e, stamp := 0 }] }
    count := { shop.count with waiters := [
      { port := .office, tag := 2, ask := .recount 0, reject := 0, ops := [11], park := .counter, elapsed := e }] }
    safe := { shop.safe with waiters := [
      { port := .office, tag := 3, req := .adjust 0 Counts.zero, ops := [], reason := .session, container := .comp 0
        elapsed := e, stamp := 1 },
      { port := .office, tag := 4, req := .postTray 0 none, ops := [], reason := .session, container := .comp 0
        elapsed := e, stamp := 2 }] } }

theorem witness_WaitsExpire :
    (waiting1 900).retention.supply = .good
      ∧ ((waiting1 300).float.waiters.find? fun w => w.port == .till && w.tag == 1).isSome = true
      ∧ (waiting1 300).float.waitInForce ≤ 300 ∧ 299 < (waiting1 299).float.waitInForce
      ∧ ((waiting1 900).count.waiters.find? fun w => w.port == .office && w.tag == 2).isSome = true
      ∧ (waiting1 900).count.waitInForce ≤ 900 ∧ 899 < (waiting1 899).count.waitInForce
      ∧ (((waiting1 300).safe.waiters.find? fun w => w.port == .office && w.tag == 3).map (·.req.isPost)) = some false
      ∧ (((waiting1 600).safe.waiters.find? fun w => w.port == .office && w.tag == 4).map (·.req.isPost)) = some true
      ∧ (waiting1 300).safe.waitInForce ≤ 300 ∧ (waiting1 600).recon.destInForce ≤ 600 ∧ 599 < (waiting1 599).recon.destInForce
      ∧ (visit.courier.session.map (·.idle)) = some 9 ∧ 9 < visit.courier.idleInForce
      ∧ (oweRetry shop).float.retryDue = 1 ∧ shop.float.retryDue = 0
      ∧ ((modSession (fun x => { x with idle := 300 }) visit).courier.session.map (·.idle)) = some 300 := by decide +kernel

/-- The answers of a float attempt, and a waiter that is there. -/
theorem witness_WaitsExpire_retry :
    floatAnswerOf (floatTry .till [] (.float 17 2) shop) = 2 ∧ floatAnswerOf (floatTry .till [] (.float 17 2) visit) = 1
      ∧ floatAnswerOf (floatTry .till [] (.float 17 2) (setHolding (.comp 0) Counts.zero shop)) = 5
      ∧ floatAnswerOf (floatTry .till [] (.float 17 2) trader) = 0 ∧ (tillOf trader 17).state ≠ .idle
      ∧ profileOk shop.store.denoms (look shop.float.profiles 7) = false
      ∧ (tillOf signedOff 17).signedOff = true ∧ 3 ≤ (tillOf (modTill 17 (fun r => { r with topups := 3 }) trader) 17).topups
      ∧ suspect.retention.suspect = true ∧ shut.day.state = .closed ∧ closing.day.state = .closing
      ∧ (parked.float.waiters.any fun v => v.port == .till && v.tag == 1) = true ∧ shop.float.waiters = [] := by decide +kernel

/-- The clock at its last second, with the limit flag clear and set. -/
def midnight (st : DayState) (flag : Bool) : State :=
  { shop with day := { shop.day with state := st, clock := 86399, clockLimit := flag } }

theorem witness_SecondsAndPlan :
    shop.retention.supply = .good ∧ shop.day.clock < 86399 ∧ (midnight .closed false).day.clock = 86399
      ∧ (midnight .opened false).day.clockLimit = false ∧ (midnight .opened true).day.clockLimit = true
      ∧ (planned .running).day.state ≠ .closed ∧ (planned .running).day.planState = .running
      ∧ (planned .held).day.planState ≠ .running ∧ dark.retention.supply = .cut ∧ dark.day.clock < 86399
      ∧ (2 : PlanIx) ∈ dueSet (planned .running) ∧ visit.courier.session.isSome = true
      ∧ (setSupply .cut (midnight .closed false)).retention.supply = .cut ∧ (setSupply .dead shop).retention.supply = .dead
      ∧ ((running none false).count.running.map (·.step)) = some (some { elapsed := 90, limit := 90 }) := by decide +kernel

theorem witness_SupplyAndReturn :
    shop.retention.supply = .good ∧ dark.retention.supply = .cut ∧ (setSupply .dead shop).retention.supply = .dead
      ∧ (setSupply .cut (running (some .status) false)).retention.supply = .cut
      ∧ (setSupply .cut (running (some .status) false)).count.running.isSome = true
      ∧ (setSupply .cut visit).retention.supply = .cut ∧ (setSupply .cut visit).courier.session.isSome = true
      ∧ dark.courier.session = none := by decide +kernel

/-- The office with a transfer at the front of its queue. -/
def queued (c : Instr) : State := { shop with pending := [c] }
def aTransfer : Instr := .transfer (office 11 0) 0 2 (.ok (vec [(3, 1)]))

theorem witness_CustodyConserved :
    Balanced (queued aTransfer) ∧ EmptyBags (queued aTransfer) ∧ ∃ t, step (queued aTransfer) = .next t :=
  ⟨fun _ => by decide +kernel, by unfold EmptyBags; decide +kernel, _, rfl⟩

theorem witness_HoldingsStayInRange : RangesHold (queued aTransfer) ∧ ∃ t, step (queued aTransfer) = .next t := by
  refine ⟨⟨every_container ?_ ?_ ?_ ?_, fun w hw => absurd hw (by simp [queued, shop, State.reset, State.cold, SafeUnit.cold]), ?_⟩,
    _, rfl⟩ <;> (unfold countsInRange; decide +kernel)

theorem witness_NoticeQueuesBounded : QueuesHold (queued (.closeDay desk)) ∧ ∃ t, step (queued (.closeDay desk)) = .next t := by
  refine ⟨⟨fun p => ?_, by decide +kernel⟩, _, rfl⟩
  cases p <;> (unfold QueueOk; decide +kernel)

/-- A notice of a compartment, and a port whose queue holds one for each compartment, that of C05 of the lowest priority. -/
def doorNotice (c : CompIx) (priority : Nat) : Notice :=
  { kind := .doorHeld, subject := .comp c, priority, day := 9, time := 0, content := [] }
def crammed : PortRec :=
  { PortRec.cold false with
      link := .active, notices := (List.finRange 16).map fun c => doorNotice c (if c = 5 then 1 else 2) }

theorem witness_NoticeQueuesBounded_full :
    crammed.notices.length = 16
      ∧ crammed.notices = (crammed.notices.take 5) ++ doorNotice 5 1 :: crammed.notices.drop 6
      ∧ (∀ m ∈ crammed.notices, 1 ≤ m.priority) ∧ (∀ m ∈ crammed.notices.drop 6, m.priority ≠ 1)
      ∧ (∀ m ∈ crammed.notices, ¬ (m.kind = Notice.coldStart.kind ∧ m.subject = Notice.coldStart.subject))
      ∧ doorNotice 4 3 ∉ crammed.notices
      ∧ (∀ m ∈ crammed.notices.drop 1, m.priority ≤ (doorNotice 0 2).priority) := by decide +kernel

/-- A count under way with RESULT's reply in the queue. -/
def finishing : State :=
  { running (some .result) false with pending := [.resultReply (frameOf 0xD4 (resultPayload [(1, 3)] [] 2))] }

theorem witness_RunningCountAndJournalKept :
    StationHolds finishing ∧ JournalHolds finishing ∧ ∃ t, step finishing = .next t := by
  refine ⟨⟨by decide +kernel, ?_⟩, ⟨by decide +kernel, by decide +kernel, by decide +kernel, by decide +kernel, ?_⟩, _, rfl⟩
  · have h : ∀ t : TrayIx, (trayOf finishing t).state = .counting ↔ t = 0 := by decide +kernel
    intro t
    rw [h]
    constructor
    · rintro rfl
      exact ⟨_, rfl, rfl⟩
    · rintro ⟨r, hr, rfl⟩
      have : (finishing.count.running.map (·.tray)) = some 0 := by decide +kernel
      rw [hr] at this
      exact Option.some.inj this
  · intro e he
    have : finishing.store.journal.entries.getLast? = none := by decide +kernel
    rw [this] at he
    cases he

theorem witness_RecordLimitsKept :
    TillsHold trader ∧ DayHolds trader ∧ OperatorsHold trader
      ∧ ∃ t, step { trader with pending := [.requestPickup till 17 100] } = .next t :=
  ⟨fun i => ⟨by revert i; decide +kernel, by revert i; decide +kernel, by revert i; decide +kernel, by revert i; decide +kernel⟩,
   ⟨by decide +kernel, by decide +kernel, by decide +kernel, by decide +kernel⟩, shop_operators, _, rfl⟩

theorem witness_RecordLimitsKept_cash :
    TillCashHolds shop ∧ ∃ t, step { shop with pending := [.issueFloat (office 11 0) 17 2] } = .next t :=
  ⟨⟨by decide +kernel, by decide +kernel⟩, _, rfl⟩

theorem witness_BagRecordsKept_caps : CapsHold signedFor := by unfold CapsHold; decide +kernel

theorem witness_BagRecordsKept : BagsHold signedFor ∧ ∃ t, step { signedFor with pending := [.depart courier] } = .next t := by
  refine ⟨⟨by decide +kernel, by decide +kernel, by decide +kernel, by decide +kernel, ?_, ?_, ?_⟩, _, rfl⟩
  · intro x hx b hb
    have : (signedFor.courier.session.map (·.inbound)) = some [] := by decide +kernel
    rw [hx] at this
    have none' : x.inbound = [] := Option.some.inj this
    rw [none'] at hb
    cases hb
  all_goals
    have : ∀ t : TrayIx, (trayOf signedFor t).source = none := by decide +kernel
    intro t
    simp [this t]

theorem witness_SessionFreezesCompartments :
    let s := { visit with pending := [aTransfer] }
    ∃ t, step s = .next t ∧ s.courier.session ≠ none ∧ t.courier.session ≠ none :=
  ⟨_, rfl, by decide +kernel, by decide +kernel⟩

end Sys2Proof.Tests
end

section
/-! The part of the state that the custody, range, record and till-cash invariants read (R6, R15, R17, R24, R42 to R47): the
*books*. What a movement does to the books is said once here. -/

namespace Sys2Proof.Machine

/-! ## The books -/

/-- What the invariants of holdings, flows, tills, operators and the day read of a state. -/
structure Books where
  day : DayUnit
  denoms : Vector DenomEntry 16
  tillHold : Vector Counts 64
  compHold : Vector Counts 16
  trayHold : Vector Counts 2
  bagHold : Vector Counts 32
  base : Counts
  inflow : Counts
  outflow : Counts
  operators : Vector (Option OperatorEntry) 32
  tills : Vector TillRec 64
  profiles : Vector Profile 8

/-- The books of a state. -/
def books (s : State) : Books :=
  { day := s.day, denoms := s.store.denoms, tillHold := s.store.tillHold, compHold := s.store.compHold
    trayHold := s.store.trayHold, bagHold := s.store.bagHold, base := s.store.base, inflow := s.store.inflow
    outflow := s.store.outflow, operators := s.store.operators, tills := s.float.tills, profiles := s.float.profiles }

/-- Equal books have equal holdings. -/
theorem holding_of_books {s t : State} (h : books t = books s) (c : Container) : holding t c = holding s c := by
  simp only [books, Books.mk.injEq] at h
  cases c <;> simp [holding, h]

theorem tillOf_of_books {s t : State} (h : books t = books s) (i : TillIx) : tillOf t i = tillOf s i := by
  simp only [books, Books.mk.injEq] at h
  simp [tillOf, h]

/-! ## The invariants, record by record -/

/-- Every vector a waiting request carries is in range (R5). -/
def Waiting (s : State) : Prop := ∀ w ∈ s.safe.waiters, ∀ v, w.req.carried = some v → countsInRange v

/-- The day's numbers in range, the plan in order (R24, R33, R35). -/
def DayOk (d : DayUnit) : Prop :=
  d.number ≤ 65535 ∧ d.clock ≤ 86399 ∧ d.pointer ≤ 64 ∧ planOrdered d.plan = true

theorem dayHolds_iff (s : State) : DayHolds s ↔ DayOk s.day :=
  ⟨fun ⟨a, b, c, d⟩ => ⟨a, b, c, d⟩, fun ⟨a, b, c, d⟩ => ⟨a, b, c, d⟩⟩

/-- A vector is the cash a till with this record should hold (R43), its coins in whole rolls (R47). -/
def CashOk (denoms : Vector DenomEntry 16) (r : TillRec) (v : Counts) : Prop :=
  valueWith denoms v = tillWorth r
    ∧ ∀ d : DenomIx, (look denoms d).form = some .coin → (((look denoms d).pack.getD 1 : Nat) : Int) ∣ look v d

theorem tillCashHolds_iff (s : State) :
    TillCashHolds s ↔ ∀ i, CashOk s.store.denoms (tillOf s i) (holding s (.till i)) :=
  ⟨fun h i => ⟨h.worth i, h.rolls i⟩, fun h => ⟨fun i => (h i).1, fun i => (h i).2⟩⟩

theorem balanced_congr {s t : State} (h : books t = books s) (hs : Balanced s) : Balanced t := by
  have held := holding_of_books h
  simp only [books, Books.mk.injEq] at h
  intro hd i
  simpa only [officeSum, held, h] using hs (by rwa [← h.1]) i

theorem rangesHold_congr {s t : State} (h : books t = books s) (hw : Waiting s → Waiting t) (hs : RangesHold s) :
    RangesHold t := by
  refine ⟨fun c => holding_of_books h c ▸ hs.holdings c, hw hs.waiting, fun p => ?_⟩
  simp only [books, Books.mk.injEq] at h
  simpa only [h] using hs.templates p

theorem tillsHold_congr {s t : State} (h : books t = books s) (hs : TillsHold s) : TillsHold t :=
  fun i => tillOf_of_books h i ▸ hs i

theorem dayHolds_congr {s t : State} (h : books t = books s) (hs : DayHolds s) : DayHolds t := by
  have same : t.day = s.day := congrArg Books.day h
  rw [dayHolds_iff] at *
  rwa [same]

theorem operatorsHold_congr {s t : State} (h : books t = books s) (hs : OperatorsHold s) : OperatorsHold t := by
  have : t.store.operators = s.store.operators := congrArg Books.operators h
  simpa only [OperatorsHold, this] using hs

theorem tillCashHolds_congr {s t : State} (h : books t = books s) (hs : TillCashHolds s) : TillCashHolds t := by
  have same : t.store.denoms = s.store.denoms := congrArg Books.denoms h
  rw [tillCashHolds_iff] at *
  intro i
  rw [holding_of_books h, tillOf_of_books h, same]
  exact hs i

/-! ## Vectors -/

@[simp] theorem look_zero (i : DenomIx) : look Counts.zero i = 0 := by simp [look, Counts.zero]
@[simp] theorem look_add (a b : Counts) (i : DenomIx) : look (a.add b) i = look a i + look b i := by
  simp [look, Counts.add]
@[simp] theorem look_sub (a b : Counts) (i : DenomIx) : look (a.sub b) i = look a i - look b i := by
  simp [look, Counts.sub]
@[simp] theorem look_ofFn {α : Type} {n : Nat} (f : Fin n → α) (i : Fin n) : look (Vector.ofFn f) i = f i := by
  simp [look]
@[simp] theorem look_replicate {α : Type} {n : Nat} (x : α) (i : Fin n) : look (Vector.replicate n x) i = x := by
  simp [look]

/-- Two tables with the same entries are the same table. -/
theorem eq_of_look {α : Type} {n : Nat} {a b : Vector α n} (h : ∀ i, look a i = look b i) : a = b :=
  Vector.ext fun k hk => h ⟨k, hk⟩

theorem countsInRange_zero : countsInRange Counts.zero := fun i => by simp [Config.maxCount]

theorem allZero_iff (v : Counts) : allZero v = true ↔ v = Counts.zero := by
  simp only [allZero, List.all_eq_true, List.mem_finRange, decide_eq_true_eq, true_implies]
  exact ⟨fun h => eq_of_look (by simpa using h), fun h i => by simp [h]⟩

/-! ## Values (R3) -/

theorem valueWith_eq_sum (denoms : Vector DenomEntry 16) (v : Counts) :
    valueWith denoms v = ∑ i, look v i * faceAt denoms i := by
  rw [valueWith, Fin.sum_univ_def]

@[simp] theorem valueWith_zero (denoms : Vector DenomEntry 16) : valueWith denoms Counts.zero = 0 := by
  simp [valueWith_eq_sum]

theorem valueWith_add (denoms : Vector DenomEntry 16) (a b : Counts) :
    valueWith denoms (a.add b) = valueWith denoms a + valueWith denoms b := by
  simp [valueWith_eq_sum, add_mul, Finset.sum_add_distrib]

theorem valueWith_put (denoms : Vector DenomEntry 16) (v : Counts) (i : DenomIx) (x : Int) :
    valueWith denoms (put v i x) = valueWith denoms v + (x - look v i) * faceAt denoms i := by
  rw [valueWith_eq_sum, valueWith_eq_sum, Fintype.sum_eq_add_sum_compl i, Fintype.sum_eq_add_sum_compl i]
  have rest : ∑ j ∈ {i}ᶜ, look (put v i x) j * faceAt denoms j = ∑ j ∈ {i}ᶜ, look v j * faceAt denoms j :=
    Finset.sum_congr rfl fun j hj => by rw [look_put_ne v x (by simpa using hj)]
  rw [rest, look_put_self]
  ring

/-! ## The sum over all containers (R13) -/

theorem containers_nodup : containers.Nodup := by decide +kernel

theorem officeSum_setHolding (c : Container) (v : Counts) (s : State) (i : DenomIx) :
    officeSum (setHolding c v s) i = officeSum s i - look (holding s c) i + look v i := by
  have list (l : List Container) (hn : l.Nodup) :
      (l.map fun d => look (holding (setHolding c v s) d) i).sum
        = (l.map fun d => look (holding s d) i).sum + if c ∈ l then look v i - look (holding s c) i else 0 := by
    induction l with
    | nil => simp
    | cons d l ih =>
      obtain ⟨hd, hl⟩ := List.nodup_cons.mp hn
      rw [List.map_cons, List.sum_cons, List.map_cons, List.sum_cons, ih hl, holding_setHolding]
      by_cases h : d = c
      · subst h; simp [hd]; ring
      · simp [h, Ne.symm h]; ring
  rw [officeSum, list _ containers_nodup, if_pos (mem_containers c), officeSum]
  ring

/-! ## What a movement makes of the holdings (R7, R8) -/

theorem holding_moveHoldings (m : Movement) (s : State) (c : Container) :
    holding (moveHoldings m s) c = if c ∈ m.ends then heldAfter m s c else holding s c :=
  holding_fold_setHolding _ _ _ _

theorem mem_ends (m : Movement) (c : Container) : c ∈ m.ends ↔ m.src = some c ∨ m.dst = some c := by
  simp [Movement.ends, Option.mem_toList]

/-- Off its ends a movement leaves a holding as it was. -/
theorem heldAfter_of_not_mem (m : Movement) (s : State) (c : Container) (h : c ∉ m.ends) :
    heldAfter m s c = holding s c := by
  rw [mem_ends, not_or] at h
  unfold heldAfter
  split <;> simp [h]

theorem holding_moveHoldings_eq (m : Movement) (s : State) (c : Container) :
    holding (moveHoldings m s) c = heldAfter m s c := by
  rw [holding_moveHoldings]
  split
  · rfl
  · next h => exact (heldAfter_of_not_mem m s c h).symm

theorem heldAfter_congr {s t : State} (m : Movement) (c : Container) (h : holding t c = holding s c) :
    heldAfter m t c = heldAfter m s c := by
  simp only [heldAfter, h]

/-- Entry by entry, what a movement that is no replacement makes of a holding. -/
theorem look_heldAfter (m : Movement) (s : State) (c : Container) (i : DenomIx) (hf : formOf m.kind ≠ .replacement) :
    look (heldAfter m s c) i
      = look (holding s c) i - (if m.src = some c then look m.vec i else 0) + if m.dst = some c then look m.vec i else 0 := by
  unfold heldAfter
  split
  · contradiction
  all_goals dsimp only; split <;> split <;> simp

@[simp] theorem movePosition_holding (m : Movement) (s : State) (c : Container) :
    holding (movePosition m s) c = holding s c := by
  cases c <;> simp [holding]

/-- The books after a movement are those with its Day Position and its holdings entered. -/
theorem books_applyMove (m : Movement) (s : State) : books (applyMove m s) = books (moveHoldings m (movePosition m s)) := by
  have held : (fun c => heldAfter m (movePosition m s) c) = heldAfter m s :=
    funext fun c => heldAfter_congr m c (movePosition_holding m s c)
  have hold (c : Container) : holding (applyMove m s) c = holding (moveHoldings m (movePosition m s)) c := by
    rw [holding_moveHoldings, movePosition_holding, congrFun held c]
    trans holding (m.ends.foldl (fun acc c => setHolding c (heldAfter m s c) acc) (writeEntry m (movePosition m s))) c
    · refine (?_ : holding (applyMove m s) c = _)
      unfold applyMove
      dsimp only
      split <;> cases c <;> simp [holding, oweRetry]
    · rw [holding_fold_setHolding]
      have : holding (writeEntry m (movePosition m s)) c = holding s c := by cases c <;> simp [holding, writeEntry]
      rw [this]
  have flows : (applyMove m s).store.inflow = (movePosition m s).store.inflow
      ∧ (applyMove m s).store.outflow = (movePosition m s).store.outflow := by
    unfold applyMove
    dsimp only
    split <;> simp [oweRetry, writeEntry]
  simp only [books, Books.mk.injEq]
  refine ⟨by simp, by simp [moveHoldings], ?_, ?_, ?_, ?_, by simp [moveHoldings], by simpa [moveHoldings] using flows.1,
    by simpa [moveHoldings] using flows.2, by simp [moveHoldings], by simp, by simp⟩
  · exact eq_of_look fun i => hold (.till i)
  · exact eq_of_look fun i => hold (.comp i)
  · exact eq_of_look fun i => hold (.tray i)
  · exact eq_of_look fun i => hold (.bag i)

theorem holding_applyMove (m : Movement) (s : State) (c : Container) : holding (applyMove m s) c = heldAfter m s c := by
  rw [holding_of_books (books_applyMove m s), holding_moveHoldings_eq]
  exact heldAfter_congr m c (movePosition_holding m s c)

end Sys2Proof.Machine
end

section
/-! What a movement that the Custody Store takes does to custody, to the ranges and to the tills' cash (R6, R9, R13, R15). -/

namespace Sys2Proof.Machine

/-! ## Custody (R13, R15) -/

/-- The ends and the vector of a movement agree with its kind (R8): a COUNT_RESULT and an ADJUST name a to-container alone, a
HANDOVER_OUT a from-container alone; any other names both, or carries a zero vector. -/
def Movement.Entered (m : Movement) : Prop :=
  match m.kind with
  | .countResult | .adjust => m.src = none ∧ m.dst.isSome
  | .handoverOut => m.src.isSome ∧ m.dst = none
  | .issue | .topup | .countOut | .post | .transfer | .bagFill | .receiveIn =>
    (m.src.isSome ∧ m.dst.isSome) ∨ m.vec = Counts.zero

/-- One holding replaced by a movement's, where the movement has at most one end. -/
theorem officeSum_moveHoldings_one (m : Movement) (s : State) (c : Container) (i : DenomIx) (h : m.ends = [c]) :
    officeSum (moveHoldings m s) i = officeSum s i - look (holding s c) i + look (heldAfter m s c) i := by
  rw [moveHoldings, h]
  exact officeSum_setHolding c _ s i

theorem officeSum_moveHoldings_two (m : Movement) (s : State) (a b : Container) (i : DenomIx) (hs : m.src = some a)
    (hd : m.dst = some b) (hf : formOf m.kind ≠ .replacement) : officeSum (moveHoldings m s) i = officeSum s i := by
  have ends : m.ends = [a, b] := by simp [Movement.ends, hs, hd]
  rw [moveHoldings, ends, List.foldl_cons, List.foldl_cons, List.foldl_nil, officeSum_setHolding, officeSum_setHolding,
    holding_setHolding, look_heldAfter m s a i hf, look_heldAfter m s b i hf, hs, hd]
  by_cases h : b = a
  · subst h; simp [look_heldAfter m s b i hf, hs, hd]
  · simp [h, Ne.symm h]; ring

/-- A movement of a zero vector moves nothing. -/
theorem officeSum_moveHoldings_zero (m : Movement) (s : State) (i : DenomIx) (hv : m.vec = Counts.zero)
    (hf : formOf m.kind ≠ .replacement) : officeSum (moveHoldings m s) i = officeSum s i := by
  have same (c : Container) : look (holding (moveHoldings m s) c) i = look (holding s c) i := by
    rw [holding_moveHoldings_eq, look_heldAfter m s c i hf, hv]; simp
  simp only [officeSum, same]

theorem officeSum_movePosition (m : Movement) (s : State) (i : DenomIx) :
    officeSum (movePosition m s) i = officeSum s i := by
  simp only [officeSum, movePosition_holding]

/-- A movement whose ends agree with its kind changes the present sum by what it enters in the flows (R13, R15). -/
theorem applyMove_conserves (m : Movement) (s : State) (hm : m.Entered) (i : DenomIx) :
    officeSum (applyMove m s) i - look (applyMove m s).store.inflow i + look (applyMove m s).store.outflow i
      = officeSum s i - look s.store.inflow i + look s.store.outflow i := by
  have books := books_applyMove m s
  have sum : officeSum (applyMove m s) i = officeSum (moveHoldings m (movePosition m s)) i := by
    simp only [officeSum, holding_of_books books]
  have inflow : (applyMove m s).store.inflow = (movePosition m s).store.inflow :=
    (congrArg Books.inflow books).trans (by simp [Machine.books, moveHoldings])
  have outflow : (applyMove m s).store.outflow = (movePosition m s).store.outflow :=
    (congrArg Books.outflow books).trans (by simp [Machine.books, moveHoldings])
  rw [sum, inflow, outflow]
  have one {c : Container} (h : m.ends = [c]) : officeSum (moveHoldings m (movePosition m s)) i
      = officeSum s i - look (holding s c) i + look (heldAfter m s c) i := by
    rw [officeSum_moveHoldings_one m _ c i h, officeSum_movePosition, movePosition_holding,
      heldAfter_congr m c (movePosition_holding m s c)]
  unfold Movement.Entered at hm
  cases hk : m.kind <;> simp only [hk] at hm
  case countResult =>
    obtain ⟨hs, hd⟩ := hm
    obtain ⟨c, hc⟩ := Option.isSome_iff_exists.mp hd
    rw [one (c := c) (by simp [Movement.ends, hs, hc])]
    simp only [movePosition, hk, hc, heldAfter, formOf, look_add, look_sub, if_true]
    ring
  case adjust =>
    obtain ⟨hs, hd⟩ := hm
    obtain ⟨c, hc⟩ := Option.isSome_iff_exists.mp hd
    rw [one (c := c) (by simp [Movement.ends, hs, hc]), look_heldAfter m s c i (by simp [hk, formOf])]
    simp only [movePosition, hk, hs, hc, look_add, if_true, reduceCtorEq, if_false]
    ring
  case handoverOut =>
    obtain ⟨hs, hd⟩ := hm
    obtain ⟨c, hc⟩ := Option.isSome_iff_exists.mp hs
    rw [one (c := c) (by simp [Movement.ends, hd, hc]), look_heldAfter m s c i (by simp [hk, formOf])]
    simp only [movePosition, hk, hd, hc, look_add, if_true, reduceCtorEq, if_false]
    ring
  all_goals
    have hf : formOf m.kind ≠ .replacement := by simp [hk, formOf]
    have flows : movePosition m s = s := by simp [movePosition, hk]
    rw [flows]
    obtain ⟨hs, hd⟩ | hv := hm
    · obtain ⟨a, ha⟩ := Option.isSome_iff_exists.mp hs
      obtain ⟨b, hb⟩ := Option.isSome_iff_exists.mp hd
      rw [officeSum_moveHoldings_two m s a b i ha hb hf]
    · rw [officeSum_moveHoldings_zero m s i hv hf]

/-- A movement whose ends agree with its kind keeps custody (R15). -/
theorem applyMove_balanced (m : Movement) (s : State) (hm : m.Entered) (hs : Balanced s) : Balanced (applyMove m s) := by
  intro hd i
  have before := hs (by simpa using hd) i
  have change := applyMove_conserves m s hm i
  have base : (applyMove m s).store.base = s.store.base := by simp
  rw [base]
  omega

/-! ## Ranges (R6, R9) -/

/-- The holdings after a movement are in range again (R6). -/
def Movement.InRange (m : Movement) (s : State) : Prop := ∀ c ∈ m.ends, countsInRange (heldAfter m s c)

theorem applyMove_ranges (m : Movement) (s : State) (hm : m.InRange s) (hs : RangesHold s) :
    RangesHold (applyMove m s) := by
  refine ⟨fun c => ?_, by simpa using hs.waiting, by simpa using hs.templates⟩
  rw [holding_applyMove]
  by_cases h : c ∈ m.ends
  · exact hm c h
  · rw [heldAfter_of_not_mem m s c h]; exact hs.holdings c

theorem not_of_any {p : DenomIx → Prop} [DecidablePred p] (h : ¬ ((List.finRange 16).any fun i => decide (p i)) = true)
    (i : DenomIx) : ¬ p i := fun hp =>
  h (List.any_eq_true.mpr ⟨i, List.mem_finRange i, decide_eq_true hp⟩)

/-- Checks 4 and 5 of R9 keep the ends of a movement in range: a signed vector whatever it holds, another where its counts are in
range. -/
theorem inRange_of_bounds (m : Movement) (s : State) (hb : ¬ goesBelow m s = true) (ha : ¬ goesAbove m s = true)
    (hv : formOf m.kind = .signed ∧ m.src = none ∨ countsInRange m.vec) (hs : ∀ c, countsInRange (holding s c)) :
    m.InRange s := by
  have below {c : Container} (i : DenomIx) (h : m.src = some c ∨ m.dst = some c ∧ formOf m.kind = .signed) :
      0 ≤ look (heldAfter m s c) i := by
    simp only [goesBelow, Bool.or_eq_true, not_or] at hb
    obtain ⟨hsrc, hdst⟩ := hb
    obtain h | ⟨h, hf⟩ := h
    · simp only [h] at hsrc
      exact not_lt.mp (not_of_any hsrc i)
    · simp only [h, hf] at hdst
      exact not_lt.mp (not_of_any hdst i)
  have above {c : Container} (i : DenomIx) (h : m.dst = some c) : look (heldAfter m s c) i ≤ Config.maxCount := by
    simp only [goesAbove, h] at ha
    exact not_lt.mp (not_of_any ha i)
  intro c hc i
  have held := hs c i
  by_cases hf : formOf m.kind = .replacement
  · have hv : countsInRange m.vec := hv.resolve_left (by simp [hf])
    simp only [heldAfter, hf]
    split
    · exact hv i
    · exact held
  · have after := look_heldAfter m s c i hf
    rw [mem_ends] at hc
    obtain ⟨hsig, hsrc⟩ | hv := hv
    · have hd : m.dst = some c := hc.resolve_left (by simp [hsrc])
      exact ⟨below i (.inr ⟨hd, hsig⟩), above i hd⟩
    · have hv := hv i
      by_cases hsrc : m.src = some c <;> by_cases hd : m.dst = some c <;> simp only [hsrc, hd, if_true, if_false] at after
      · exact ⟨below i (.inl hsrc), above i hd⟩
      · exact ⟨below i (.inl hsrc), by omega⟩
      · exact ⟨by omega, above i hd⟩
      · exact absurd hc (by simp [hsrc, hd])

/-- A movement that passes its checks passed the two that bound the holdings (R9). -/
theorem bounds_of_pass {need : Nat} {m : Movement} {s : State} (h : checkMovement need m s = .pass) :
    ¬ goesBelow m s = true ∧ ¬ goesAbove m s = true := by
  unfold checkMovement at h
  split at h; · cases h
  split at h; · cases h
  split at h; · cases h
  split at h; · cases h
  next hb =>
  split at h; · cases h
  next ha => exact ⟨hb, ha⟩

theorem inRange_of_pass {need : Nat} {m : Movement} {s : State} (h : checkMovement need m s = .pass)
    (hv : formOf m.kind = .signed ∧ m.src = none ∨ countsInRange m.vec) (hs : ∀ c, countsInRange (holding s c)) :
    m.InRange s :=
  inRange_of_bounds m s (bounds_of_pass h).1 (bounds_of_pass h).2 hv hs

/-! ## Tills' cash (R43, R47) -/

/-- A movement that names no till leaves every till's cash. -/
theorem applyMove_tillCash (m : Movement) (s : State) (hm : ∀ i, .till i ∉ m.ends) (hs : TillCashHolds s) :
    TillCashHolds (applyMove m s) := by
  rw [tillCashHolds_iff] at *
  intro i
  rw [holding_applyMove, heldAfter_of_not_mem m s _ (hm i)]
  simpa [tillOf] using hs i

end Sys2Proof.Machine
end

section
/-! Every change that an event can make to the books, said once: `Reached o s` says that `s` comes from `o` by such changes. Each
invariant of holdings and records is kept by every one of them, and so by every event that consists of them. -/

namespace Sys2Proof.Machine

/-- The day as OPEN DAY leaves it before the catch-up (R26). -/
def dayOpened (s : State) : State :=
  freeHanded (takeBase (modDay (fun d => { d with number := (d.number + 1) % 65536, state := .opened, clockLimit := false }) s))

/-- The denomination table with one entry replaced (R2). -/
def putDenom (i : DenomIx) (e : DenomEntry) (s : State) : State :=
  { s with store := { s.store with denoms := put s.store.denoms i e } }

/-- A till keeps the cash it should hold under another record and another holding. -/
def KeepsCash (s : State) (r r' : TillRec) (v v' : Counts) : Prop :=
  CashOk s.store.denoms r v → CashOk s.store.denoms r' v'

/-- The states that an event beginning at `o` leads through, by the changes that the manual's rules make to the books. A range
premise refers to the state the event began in, since a pass re-tries the waiters it found. -/
inductive Reached (o : State) : State → Prop
  /-- where the event begins -/
  | origin : Reached o o
  /-- a change outside the books, which may add waiters whose vectors are in range -/
  | same {s t : State} : Reached o s → books t = books s → (RangesHold o → Waiting s → Waiting t) → Reached o t
  /-- a movement that names no till applied (R11) -/
  | moved {s : State} (m : Movement) : Reached o s → m.Entered → (RangesHold o → RangesHold s → m.InRange s) →
      (∀ i, .till i ∉ m.ends) → Reached o (applyMove m s)
  /-- a movement into or out of one till applied, with that till's record (R48, R50, R81) -/
  | drawer {s : State} (m : Movement) (i : TillIx) (f : TillRec → TillRec) : Reached o s → m.Entered →
      (RangesHold o → RangesHold s → m.InRange s) → (∀ j, .till j ∈ m.ends → j = i) →
      (TillOk (tillOf s i) → TillOk (f (tillOf s i))) →
      KeepsCash s (tillOf s i) (f (tillOf s i)) (holding s (.till i)) (heldAfter m s (.till i)) →
      Reached o (modTill i f (applyMove m s))
  /-- a till's record changed, its holding as it was -/
  | till {s : State} (i : TillIx) (f : TillRec → TillRec) : Reached o s → (TillOk (tillOf s i) → TillOk (f (tillOf s i))) →
      KeepsCash s (tillOf s i) (f (tillOf s i)) (holding s (.till i)) (holding s (.till i)) → Reached o (modTill i f s)
  /-- a denomination entry replaced, its face, form and pack kept where any container holds cash at its index (R2) -/
  | denomination {s : State} (i : DenomIx) (e : DenomEntry) : Reached o s →
      ((∃ c, look (holding s c) i ≠ 0) → e.face = (look s.store.denoms i).face ∧ e.form = (look s.store.denoms i).form
        ∧ e.pack = (look s.store.denoms i).pack) → Reached o (putDenom i e s)
  /-- an operator entry replaced (R17) -/
  | operator {s : State} (i : Fin 32) (e : Option OperatorEntry) : Reached o s →
      (OperatorsHold s → OperatorsHold (putOperator i e s)) → Reached o (putOperator i e s)
  /-- a float profile replaced (R44) -/
  | profile {s : State} (i : ProfileIx) (p : Profile) : Reached o s → countsInRange p.template → Reached o (putProfile i p s)
  /-- the Day Unit's record changed in a day that was open, or that closes (R27 to R40) -/
  | day {s : State} (f : DayUnit → DayUnit) : Reached o s → (DayOk s.day → DayOk (f s.day)) →
      ((f s.day).state ≠ .closed → s.day.state ≠ .closed) → Reached o (modDay f s)
  /-- a day opened, the bags as the event found them (R26) -/
  | opened {s : State} : Reached o s → s.courier.bags = o.courier.bags → s.store.bagHold = o.store.bagHold →
      Reached o (dayOpened s)
  /-- a cold start (R212) -/
  | cold {s : State} (doors : List CompIx) (spacing : List Port) : Reached o s → Reached o (coldStart doors spacing s)

/-! ## What each change leaves -/

theorem tillOf_modTill (i j : TillIx) (f : TillRec → TillRec) (s : State) :
    tillOf (modTill i f s) j = if j = i then f (tillOf s i) else tillOf s j := by
  simp [tillOf, modTill, look_put]

@[simp] theorem tillOf_applyMove (m : Movement) (i : TillIx) (s : State) : tillOf (applyMove m s) i = tillOf s i := by
  simp [tillOf]

theorem holding_modTill (i : TillIx) (f : TillRec → TillRec) (s : State) (c : Container) :
    holding (modTill i f s) c = holding s c :=
  holding_congr _ _ rfl c

theorem officeSum_congr {s t : State} (h : ∀ c, holding t c = holding s c) (i : DenomIx) : officeSum t i = officeSum s i := by
  simp only [officeSum, h]

/-- Opening a day leaves every holding but that of a FREE or HANDED bag, which becomes empty (R26). -/
theorem holding_dayOpened (s : State) (c : Container) :
    holding (dayOpened s) c
      = match c with
        | .bag b => if (bagOf s b).state = .handed ∨ (bagOf s b).state = .free then Counts.zero else holding s (.bag b)
        | c => holding s c := by
  cases c <;> simp [dayOpened, freeHanded, resetWindows, takeBase, modDay, holding, bagOf]
  rfl

/-- Opening a day leaves the tills, the tables and the waiting requests; of the day it sets the number and the state (R26). -/
@[simp] theorem dayOpened_frame (s : State) :
    (dayOpened s).float = s.float ∧ (dayOpened s).safe = s.safe ∧ (dayOpened s).store.denoms = s.store.denoms
      ∧ (dayOpened s).store.operators = s.store.operators
      ∧ (dayOpened s).day = { s.day with number := (s.day.number + 1) % 65536, state := .opened, clockLimit := false } := by
  simp [dayOpened, freeHanded, resetWindows, takeBase, modDay]

theorem emptyBags_congr {s t : State} (hb : t.courier.bags = s.courier.bags) (hh : t.store.bagHold = s.store.bagHold)
    (hs : EmptyBags s) : EmptyBags t := by
  simpa only [EmptyBags, bagOf, holding, hb, hh] using hs

/-- Where FREE and HANDED bags are empty, opening a day leaves every holding. -/
theorem holding_dayOpened_of_emptyBags {s : State} (hs : EmptyBags s) (c : Container) :
    holding (dayOpened s) c = holding s c := by
  rw [holding_dayOpened]
  cases c with
  | bag b =>
    dsimp only
    split
    · next h => exact (hs b h.symm).symm
    · rfl
  | _ => rfl

theorem dayOpened_balanced {s : State} (hs : EmptyBags s) : Balanced (dayOpened s) := by
  intro _ i
  rw [officeSum_congr (holding_dayOpened_of_emptyBags hs) i]
  have sums : officeSum (modDay (fun d => { d with number := (d.number + 1) % 65536, state := .opened, clockLimit := false }) s) i
      = officeSum s i := officeSum_congr (fun c => holding_congr _ _ rfl c) i
  simp [dayOpened, freeHanded, resetWindows, takeBase, officeSums, sums]

theorem dayOpened_ranges {s : State} (hs : RangesHold s) : RangesHold (dayOpened s) := by
  refine ⟨fun c => ?_, by simpa using hs.waiting, by simpa using hs.templates⟩
  rw [holding_dayOpened]
  cases c with
  | bag b =>
    dsimp only
    split
    · exact countsInRange_zero
    · exact hs.holdings _
  | _ => exact hs.holdings _

theorem cold_holding (doors : List CompIx) (spacing : List Port) (s : State) (c : Container) :
    holding (coldStart doors spacing s) c = Counts.zero := by
  cases c <;> simp [coldStart, State.cold, CustodyStore.cold, holding]

theorem cold_till (doors : List CompIx) (spacing : List Port) (s : State) (i : TillIx) :
    tillOf (coldStart doors spacing s) i = TillRec.cold := by
  simp [coldStart, State.cold, FloatUnit.cold, tillOf]

theorem tillOk_cold : TillOk TillRec.cold := ⟨by decide, by decide, by decide, rfl⟩

theorem dayOk_cold : DayOk DayUnit.cold := ⟨by decide, by decide, by decide, by decide +kernel⟩

theorem cashOk_zero {denoms : Vector DenomEntry 16} {r : TillRec} (h : tillWorth r = 0) : CashOk denoms r Counts.zero :=
  ⟨by rw [valueWith_zero, h], fun d _ => by simp⟩

/-- An entry replaced at an index where a till holds nothing, or with its face, form and pack kept, leaves the till's cash as good as
it was. -/
theorem cashOk_putDenom {denoms : Vector DenomEntry 16} {r : TillRec} {v : Counts} {i : DenomIx} {e : DenomEntry}
    (he : look v i ≠ 0 → e.face = (look denoms i).face ∧ e.form = (look denoms i).form ∧ e.pack = (look denoms i).pack)
    (h : CashOk denoms r v) : CashOk (put denoms i e) r v := by
  have term (j : DenomIx) : look v j * faceAt (put denoms i e) j = look v j * faceAt denoms j := by
    by_cases hj : j = i
    · subst hj
      by_cases hz : look v j = 0
      · simp [hz]
      · simp [faceAt, (he hz).1]
    · simp [faceAt, look_put_ne _ _ hj]
  refine ⟨?_, fun d => ?_⟩
  · rw [← h.1, valueWith_eq_sum, valueWith_eq_sum]
    exact Finset.sum_congr rfl fun j _ => term j
  · by_cases hd : d = i
    · subst hd
      by_cases hz : look v d = 0
      · simp [hz]
      · rw [look_put_self, (he hz).2.1, (he hz).2.2]
        exact h.2 d
    · rw [look_put_ne _ _ hd]
      exact h.2 d

/-! ## The invariants along an event -/

theorem Reached.ranges {o s : State} (h : Reached o s) (ho : RangesHold o) : RangesHold s := by
  induction h with
  | origin => exact ho
  | same _ hb hw ih => exact rangesHold_congr hb (hw ho) ih
  | moved m _ _ hr _ ih => exact applyMove_ranges m _ (hr ho ih) ih
  | drawer m i f _ _ hr _ _ _ ih =>
    obtain ⟨holdings, waiting, templates⟩ := applyMove_ranges m _ (hr ho ih) ih
    exact ⟨fun c => holding_modTill i f _ c ▸ holdings c, waiting, templates⟩
  | till i f _ _ _ ih => exact ⟨fun c => holding_modTill i f _ c ▸ ih.holdings c, ih.waiting, ih.templates⟩
  | denomination i e _ _ ih => exact ⟨ih.holdings, ih.waiting, ih.templates⟩
  | operator i e _ _ ih => exact ⟨ih.holdings, ih.waiting, ih.templates⟩
  | profile i p _ hp ih =>
    refine ⟨ih.holdings, ih.waiting, fun q => ?_⟩
    simp only [putProfile, look_put]
    split
    · exact hp
    · exact ih.templates q
  | day f _ _ _ ih => exact ⟨ih.holdings, ih.waiting, ih.templates⟩
  | opened _ _ _ ih => exact dayOpened_ranges ih
  | cold doors spacing _ _ =>
    refine ⟨fun c => cold_holding doors spacing _ c ▸ countsInRange_zero, ?_, fun p => ?_⟩
    · simp [coldStart, State.cold, SafeUnit.cold]
    · simpa [coldStart, State.cold, FloatUnit.cold, Profile.empty] using countsInRange_zero

theorem Reached.balanced {o s : State} (h : Reached o s) (ho : Balanced o) (he : EmptyBags o) : Balanced s := by
  induction h with
  | origin => exact ho
  | same _ hb _ ih => exact balanced_congr hb ih
  | moved m _ hm _ _ ih => exact applyMove_balanced m _ hm ih
  | drawer m i f _ hm _ _ _ _ ih =>
    intro hd j
    rw [officeSum_congr (holding_modTill i f _) j]
    exact applyMove_balanced m _ hm ih hd j
  | till i f _ _ _ ih => exact ih
  | denomination i e _ _ ih => exact ih
  | operator i e _ _ ih => exact ih
  | profile i p _ _ ih => exact ih
  | day f _ _ hd ih => exact fun opened => ih (hd opened)
  | opened _ hb hh _ => exact dayOpened_balanced (emptyBags_congr hb hh he)
  | cold doors spacing _ _ => exact fun opened => absurd rfl opened

theorem Reached.tills {o s : State} (h : Reached o s) (ho : TillsHold o) : TillsHold s := by
  have one {s : State} {i : TillIx} {f : TillRec → TillRec} (hf : TillOk (tillOf s i) → TillOk (f (tillOf s i)))
      (ih : TillsHold s) : TillsHold (modTill i f s) := by
    intro j
    rw [tillOf_modTill]
    split
    · exact hf (ih i)
    · exact ih j
  have move {s : State} (m : Movement) (ih : TillsHold s) : TillsHold (applyMove m s) :=
    fun i => tillOf_applyMove m i s ▸ ih i
  induction h with
  | origin => exact ho
  | same _ hb _ ih => exact tillsHold_congr hb ih
  | moved m _ _ _ _ ih => exact move m ih
  | drawer m i f _ _ _ _ hf _ ih => exact one (by simpa using hf) (move m ih)
  | till i f _ hf _ ih => exact one hf ih
  | denomination i e _ _ ih => exact ih
  | operator i e _ _ ih => exact ih
  | profile i p _ _ ih => exact ih
  | day f _ _ _ ih => exact ih
  | opened _ _ _ ih => simpa [TillsHold, tillOf] using ih
  | cold doors spacing _ _ => exact fun i => cold_till doors spacing _ i ▸ tillOk_cold

theorem Reached.dayHolds {o s : State} (h : Reached o s) (ho : DayHolds o) : DayHolds s := by
  rw [dayHolds_iff] at *
  induction h with
  | origin => exact ho
  | same _ hb _ ih => exact (dayHolds_iff _).mp (dayHolds_congr hb ((dayHolds_iff _).mpr ih))
  | moved m _ _ _ _ ih => simpa using ih
  | drawer m i f _ _ _ _ _ _ ih => simpa using ih
  | till i f _ _ _ ih => exact ih
  | denomination i e _ _ ih => exact ih
  | operator i e _ _ ih => exact ih
  | profile i p _ _ ih => exact ih
  | day f _ hf _ ih => exact hf ih
  | opened _ _ _ ih =>
    obtain ⟨_, hc, hp, ho⟩ := ih
    simpa [DayOk] using ⟨Nat.lt_succ_iff.mp (Nat.mod_lt _ (by decide)), hc, hp, ho⟩
  | cold doors spacing _ _ => exact dayOk_cold

theorem Reached.operators {o s : State} (h : Reached o s) (ho : OperatorsHold o) : OperatorsHold s := by
  induction h with
  | origin => exact ho
  | same _ hb _ ih => exact operatorsHold_congr hb ih
  | moved m _ _ _ _ ih => simpa [OperatorsHold] using ih
  | drawer m i f _ _ _ _ _ _ ih => simpa [OperatorsHold] using ih
  | till i f _ _ _ ih => exact ih
  | denomination i e _ _ ih => exact ih
  | operator i e _ hf ih => exact hf ih
  | profile i p _ _ ih => exact ih
  | day f _ _ _ ih => exact ih
  | opened _ _ _ ih => simpa [OperatorsHold] using ih
  | cold doors spacing _ _ =>
    intro i j e f he
    simp [coldStart, State.cold, CustodyStore.cold] at he

theorem Reached.tillCash {o s : State} (h : Reached o s) (ho : TillCashHolds o) : TillCashHolds s := by
  induction h with
  | origin => exact ho
  | same _ hb _ ih => exact tillCashHolds_congr hb ih
  | moved m _ _ _ hm ih => exact applyMove_tillCash m _ hm ih
  | drawer m i f _ _ _ hm _ hf ih =>
    rw [tillCashHolds_iff] at *
    intro j
    rw [tillOf_modTill, holding_modTill, holding_applyMove, tillOf_applyMove, tillOf_applyMove]
    by_cases hj : j = i
    · subst hj
      simpa using hf (ih j)
    · rw [if_neg hj, heldAfter_of_not_mem m _ _ fun h => hj (hm j h)]
      simpa using ih j
  | till i f _ _ hf ih =>
    rw [tillCashHolds_iff] at *
    intro j
    rw [tillOf_modTill, holding_modTill]
    by_cases hj : j = i
    · subst hj
      simpa using hf (ih j)
    · rw [if_neg hj]
      exact ih j
  | denomination i e _ he ih =>
    rw [tillCashHolds_iff] at *
    exact fun j => cashOk_putDenom (fun hz => he ⟨.till j, hz⟩) (ih j)
  | operator i e _ _ ih => exact ⟨ih.worth, ih.rolls⟩
  | profile i p _ _ ih => exact ⟨ih.worth, ih.rolls⟩
  | day f _ _ _ ih => exact ⟨ih.worth, ih.rolls⟩
  | opened _ _ _ ih =>
    rw [tillCashHolds_iff] at *
    intro i
    rw [holding_dayOpened]
    simpa [tillOf] using ih i
  | cold doors spacing _ _ =>
    rw [tillCashHolds_iff]
    intro i
    rw [cold_till, cold_holding]
    exact cashOk_zero rfl

end Sys2Proof.Machine
end

section
/-! The operations of the units change the books only as `Reached` allows: the operations outside the books, the movements of one
event, the Reconciliation Unit's computations, and the posting of a tray. -/

namespace Sys2Proof.Machine

variable {o s : State}

/-! ## Operations outside the books -/

@[simp] theorem books_raise (k : NoticeKind) (x : Subject) (l : List Field) (s : State) : books (raise k x l s) = books s := by
  simp [books]
@[simp] theorem books_answer (p : Port) (tag : Tag) (c : Code) (d : Nat) (l : List Field) (s : State) :
    books (answer p tag c d l s) = books s := by simp [books]
@[simp] theorem books_setSlot (p : Port) (tag : Tag) (st : SlotState) (s : State) : books (setSlot p tag st s) = books s := by
  simp [books]
@[simp] theorem books_modPort (p : Port) (f : PortRec → PortRec) (s : State) : books (modPort p f s) = books s := by
  simp [books]
@[simp] theorem books_rejectTag (p : Port) (tag : Tag) (s : State) : books (rejectTag p tag s) = books s := by simp [books]
@[simp] theorem books_takeSlot (p : Port) (tag : Tag) (code : Nat) (s : State) : books (takeSlot p tag code s) = books s := by
  simp [books]
@[simp] theorem books_heard (p : Port) (s : State) : books (heard p s) = books s := by simp [books]
@[simp] theorem books_startFrames (s : State) : books (startFrames s) = books s := by simp [books]
@[simp] theorem books_modSession (f : Session → Session) (s : State) : books (modSession f s) = books s := rfl
@[simp] theorem books_modBag (b : BagIx) (f : BagRec → BagRec) (s : State) : books (modBag b f s) = books s := rfl
@[simp] theorem books_modWindow (w : WindowIx) (f : WindowRec → WindowRec) (s : State) : books (modWindow w f s) = books s := rfl
@[simp] theorem books_modComp (c : CompIx) (f : CompRec → CompRec) (s : State) : books (modComp c f s) = books s := rfl
@[simp] theorem books_modTray (t : TrayIx) (f : TrayRec → TrayRec) (s : State) : books (modTray t f s) = books s := rfl
@[simp] theorem books_modCount (f : CountUnit → CountUnit) (s : State) : books (modCount f s) = books s := rfl
@[simp] theorem books_report (s : State) : books (report s) = books s := rfl
@[simp] theorem books_signal (g : Signal) (s : State) : books (signal g s) = books s := rfl
@[simp] theorem books_oweAttempt (t : TrayIx) (s : State) : books (oweAttempt t s) = books s := by simp [books]
@[simp] theorem books_setDrawer (i : TillIx) (d : Option DrawerResult) (s : State) : books (setDrawer i d s) = books s := rfl
@[simp] theorem books_enterDifference (t : TrayIx) (d : Int) (s : State) : books (enterDifference t d s) = books s := rfl
@[simp] theorem books_clearPending (t : TrayIx) (s : State) : books (clearPending t s) = books s := rfl
@[simp] theorem books_clearAutoPost (t : TrayIx) (s : State) : books (clearAutoPost t s) = books s := rfl
@[simp] theorem books_recordFill (t : TrayIx) (ops : List Nat) (s : State) : books (recordFill t ops s) = books s := rfl
@[simp] theorem books_holdEntry (s : State) : books (holdEntry s) = books s := rfl

@[simp] theorem books_journalMarks (n : Nat) (s : State) : books (journalMarks n s) = books s := by
  unfold journalMarks
  dsimp only
  split <;> split <;> simp [books]

@[simp] theorem books_releaseEntry (s : State) : books (releaseEntry s) = books s := by
  rw [releaseEntry, books_journalMarks]
  rfl

@[simp] theorem books_parkingEnded (f : CompIx → Bool) (b : Bool) (s : State) : books (parkingEnded f b s) = books s := by
  unfold parkingEnded
  dsimp only
  split <;> rfl

@[simp] theorem books_clearOut (c : CompIx) (s : State) : books (clearOut c s) = books s := by simp [clearOut]

@[simp] theorem books_event (e : Scratch) (s : State) : books { s with event := e } = books s := rfl

@[simp] theorem modComp_waiters (c : CompIx) (f : CompRec → CompRec) (s : State) :
    (modComp c f s).safe.waiters = s.safe.waiters := rfl
@[simp] theorem clearOut_waiters (c : CompIx) (s : State) : (clearOut c s).safe.waiters = s.safe.waiters := by
  simp [clearOut]

/-- A change outside the books and the waiting requests. -/
theorem Reached.frame {t : State} (h : Reached o s) (hb : books t = books s) (hw : t.safe.waiters = s.safe.waiters) :
    Reached o t :=
  h.same hb fun _ hs => by rwa [Waiting, hw]

theorem Reached.beside {t : State} (h : Reached o s) (ht : books t = books s ∧ t.safe.waiters = s.safe.waiters) : Reached o t :=
  h.frame ht.1 ht.2

theorem Reached.reported (h : Reached o s) : Reached o (report s) := h.beside (by simp)
theorem Reached.signalled (g : Signal) (h : Reached o s) : Reached o (signal g s) := h.beside (by simp)
theorem Reached.answered (p : Port) (tag : Tag) (c : Code) (d : Nat) (l : List Field) (h : Reached o s) :
    Reached o (answer p tag c d l s) := h.beside (by simp)
theorem Reached.raised (k : NoticeKind) (x : Subject) (l : List Field) (h : Reached o s) : Reached o (raise k x l s) :=
  h.beside (by simp)

/-- A change outside the books that keeps every request waiting one of those that waited. -/
theorem Reached.fewer {t : State} (h : Reached o s) (hb : books t = books s)
    (hw : ∀ w ∈ t.safe.waiters, ∃ v ∈ s.safe.waiters, w.req = v.req) : Reached o t :=
  h.same hb fun _ hs w hin v hv => by
    obtain ⟨x, hx, hreq⟩ := hw w hin
    exact hs x hx v (hreq ▸ hv)

/-! ## The movements of one event -/

theorem books_storeEvent (ms : List Movement) (hold : Bool) (s : State) :
    books (storeEvent ms hold s) = books (ms.foldl (fun acc m => applyMove m acc) s) := by
  unfold storeEvent
  dsimp only
  split <;> simp

@[simp] theorem fold_applyMove_waiters (ms : List Movement) (s : State) :
    (ms.foldl (fun acc m => applyMove m acc) s).safe.waiters = s.safe.waiters := by
  induction ms generalizing s with
  | nil => rfl
  | cons m ms ih => simp [ih]

theorem Reached.storeEvent {ms : List Movement} (hold : Bool) (h : Reached o (ms.foldl (fun acc m => applyMove m acc) s)) :
    Reached o (storeEvent ms hold s) :=
  h.frame (books_storeEvent ms hold s) (by simp)

/-- One movement that names no till, taken by the Store. -/
theorem Reached.taken {m : Movement} {need : Nat} (hold : Bool) (h : Reached o s) (pass : checkMovement need m s = .pass)
    (hm : m.Entered) (ht : ∀ i, .till i ∉ m.ends)
    (hv : RangesHold o → RangesHold s → formOf m.kind = .signed ∧ m.src = none ∨ countsInRange m.vec) :
    Reached o (Machine.storeEvent [m] hold s) :=
  .storeEvent (ms := [m]) hold (h.moved m hm (fun ho hs => inRange_of_pass pass (hv ho hs) hs.holdings) ht)

/-! ## Till records -/

theorem TillOk.of_eq {r r' : TillRec} (ht : r'.topups = r.topups) (hp : r'.pouches = r.pouches) (h : TillOk r) : TillOk r' :=
  ⟨ht ▸ h.topups, by simpa only [openPouches, hp] using h.opened, hp ▸ h.length, hp ▸ h.numbers⟩

/-- A till's record changed with its limits kept and its worth as it was. -/
theorem Reached.record (i : TillIx) (f : TillRec → TillRec) (h : Reached o s)
    (hok : TillOk (tillOf s i) → TillOk (f (tillOf s i)))
    (hw : tillWorth (f (tillOf s i)) = tillWorth (tillOf s i)) : Reached o (modTill i f s) :=
  h.till i f hok fun hc => ⟨hw ▸ hc.1, hc.2⟩

/-- A till's record changed outside its top-ups, its pouches and its worth. -/
theorem Reached.note (i : TillIx) (f : TillRec → TillRec) (h : Reached o s)
    (ht : (f (tillOf s i)).topups = (tillOf s i).topups)
    (hp : (f (tillOf s i)).pouches = (tillOf s i).pouches)
    (hw : tillWorth (f (tillOf s i)) = tillWorth (tillOf s i)) : Reached o (modTill i f s) :=
  h.record i f (.of_eq ht hp) hw

theorem Reached.evaluate (i : TillIx) (h : Reached o s) : Reached o (evaluate i s) := by
  unfold Machine.evaluate
  dsimp only
  split
  · exact Reached.note i _ (h.beside (by simp [raisePickup])) rfl rfl rfl
  · exact h.note i _ rfl rfl rfl

/-- A pouch list with one pouch changed keeps the till's limits, where the pouch was open or becomes COUNTED (R60). -/
theorem TillOk.pouchChanged {r r' : TillRec} {n : Nat} {p : Pouch} {f : Pouch → Pouch} (hp : pouch? r n = some p)
    (hr : r'.pouches = modPouch n f r.pouches) (ht : r'.topups = r.topups) (hn : ∀ q, (f q).number = q.number)
    (ho : p.state ≠ .counted ∨ ∀ q, (f q).state = .counted) (h : TillOk r) : TillOk r' := by
  have numbers : r'.pouches.map (·.number) = r.pouches.map (·.number) := by
    rw [hr, modPouch, List.map_map]
    refine List.map_congr_left fun q _ => ?_
    dsimp only [Function.comp_apply]
    split
    · exact hn q
    · rfl
  have length : r'.pouches.length = r.pouches.length := by rw [hr, modPouch, List.length_map]
  have distinct : (r.pouches.map (·.number)).Nodup := by
    rw [h.numbers]
    exact List.nodup_range.map fun a b => Nat.succ.inj
  have opened : openPouches r' ≤ openPouches r := by
    simp only [openPouches, hr, modPouch, ← List.countP_eq_length_filter, List.countP_map]
    refine List.countP_mono_left fun q hq => ?_
    dsimp only [Function.comp_apply]
    split
    · next hqn =>
      have named : p.number = n := by simpa using List.find?_some hp
      have same : q = p := List.inj_on_of_nodup_map distinct hq (List.mem_of_find?_eq_some hp) (hqn.trans named.symm)
      obtain ho | ho := ho
      · simp [same, ho]
      · simp [ho q]
    · exact id
  exact ⟨ht ▸ h.topups, opened.trans h.opened, length ▸ h.length, by rw [numbers, length]; exact h.numbers⟩

/-! ## The Reconciliation Unit (R98 to R111) -/

theorem Reached.settleTill (i : TillIx) (k : Classification) (h : Reached o s) (hw : tillWorth (tillOf s i) = 0) :
    Reached o (settleTill i k s) := by
  have settled := h.note i
    (fun r => { r with state := .idle, hold := HoldReasons.empty
                       last := some { cls := k.cls, variance := k.variance, allowance := k.allowance, time := s.day.clock } })
    rfl rfl (hw ▸ rfl)
  refine settled.frame ?_ (by simp [Machine.settleTill])
  simp only [Machine.settleTill]
  generalize List.filter _ _ = ts
  have owed (ts : List TrayIx) (u : State) : books (ts.foldl (fun acc t => oweAttempt t acc) u) = books u := by simp [books]
  rw [owed, books_report, books_raise]
  rfl

theorem Reached.holdTill (i : TillIx) (k : HoldReasons) (l : List Field) (h : Reached o s)
    (hw : tillWorth (tillOf s i) = 0) : Reached o (holdTill i k l s) :=
  (h.note i (fun r => { r with state := .held, hold := k }) rfl rfl (hw ▸ rfl)).beside (by simp [Machine.holdTill])

theorem Reached.runComputation (i : TillIx) (h : Reached o s) (hw : tillWorth (tillOf s i) = 0) :
    Reached o (runComputation i s) := by
  unfold Machine.runComputation
  dsimp only
  split
  · split
    · exact Reached.holdTill i _ _ (h.beside (by simp)) hw
    · exact Reached.settleTill i _ (h.beside (by simp)) hw
  · exact h

theorem tillWorth_held {r : TillRec} (h : r.state = .held) : tillWorth r = 0 := by simp [tillWorth, h]
theorem tillWorth_counting {r : TillRec} (h : r.state = .counting) : tillWorth r = 0 := by simp [tillWorth, h]

theorem Reached.drawerComplete (i : TillIx) (t : TrayIx) (h : Reached o s) (hw : tillWorth (tillOf s i) = 0) :
    Reached o (drawerComplete i t s) := by
  unfold Machine.drawerComplete
  dsimp only
  split
  · split
    · exact h.beside (by simp)
    · refine Reached.runComputation i (Reached.note i _ (h.beside (by simp)) rfl rfl rfl) ?_
      rw [tillOf_modTill, if_pos rfl]
      exact hw
  · split
    · exact Reached.holdTill i _ _ (h.beside (by simp)) hw
    · exact Reached.runComputation i (h.beside (by simp)) hw

theorem Reached.afterRemoval (i : TillIx) (h : Reached o s) (hw : tillWorth (tillOf s i) = 0) :
    Reached o (afterRemoval i s) := by
  unfold Machine.afterRemoval
  dsimp only
  split
  · exact h.beside (by simp)
  · exact h.runComputation i hw

theorem Reached.lateFinal (i : TillIx) (h : Reached o s) (hw : tillWorth (tillOf s i) = 0) : Reached o (lateFinal i s) := by
  refine Reached.afterRemoval i (h.note i _ rfl rfl rfl) ?_
  rw [tillOf_modTill, if_pos rfl]
  exact hw

theorem Reached.latePouch (i : TillIx) (h : Reached o s) : Reached o (latePouch i s) := by
  unfold Machine.latePouch
  dsimp only
  split
  · next hs =>
    simp only [Bool.and_eq_true, decide_eq_true_eq] at hs
    refine Reached.afterRemoval i (h.note i _ rfl rfl rfl) ?_
    rw [tillOf_modTill, if_pos rfl]
    exact tillWorth_held hs.1.1
  · exact h

theorem Reached.pouchComplete (i : TillIx) (n : Nat) (t : TrayIx) (h : Reached o s) : Reached o (pouchComplete i n t s) := by
  unfold Machine.pouchComplete
  dsimp only
  split
  · exact h
  · next p hp =>
    split
    · exact Reached.evaluate i (h.record i _ (TillOk.pouchChanged hp rfl rfl (fun _ => rfl) (.inr fun _ => rfl)) rfl)
    · exact Reached.latePouch i (Reached.evaluate i (Reached.reported
        (h.record i _ (TillOk.pouchChanged hp rfl rfl (fun _ => rfl) (.inr fun _ => rfl)) rfl)))

theorem Reached.handOver (t : TrayIx) (h : Reached o s) : Reached o (handOver t s) := by
  unfold Machine.handOver
  split
  · next src _ =>
    cases src with
    | drawer i n =>
      dsimp only [reconcile]
      split
      · next hopen =>
        refine h.drawerComplete i t ?_
        simp only [sourceOpen, Bool.and_eq_true, Bool.or_eq_true, beq_iff_eq] at hopen
        exact hopen.2.elim tillWorth_counting tillWorth_held
      · exact h
    | pouch i n k =>
      dsimp only [reconcile]
      split
      · exact (h.pouchComplete i k t).beside (by simp)
      · exact h.beside (by simp)
    | inbound b =>
      refine h.frame ?_ (by simp [reconcile])
      dsimp only [reconcile, inboundComplete]
      split <;> split <;> simp
    | compartment c =>
      refine h.frame ?_ (by simp [reconcile])
      dsimp only [reconcile, compartmentComplete]
      split <;> simp
    | loose => exact h.beside (by simp [reconcile])
  · exact h

/-! ## Posting (R114 to R119, R133, R134) -/

theorem Reached.posted (t : TrayIx) (h : Reached o s) : Reached o (posted t s) := by
  have emptied : Reached o (clearPending t { report (modTray t emptied s) with
      recon := { (report (modTray t emptied s)).recon with diffs := put (report (modTray t emptied s)).recon.diffs t none } }) :=
    h.frame rfl rfl
  unfold Machine.posted
  dsimp only
  split
  · exact emptied.beside (by simp)
  · exact emptied.beside (by simp)
  · exact emptied.beside (by simp)

theorem postMove_entered (t : TrayIx) (c : CompIx) (d : Bool) (p : Port) (ops : List Nat) (s : State) :
    (postMove t c d p ops s).Entered := .inl ⟨rfl, rfl⟩

theorem Reached.deposit {need : Nat} (t : TrayIx) (c : CompIx) (d : Bool) (p : Port) (ops : List Nat) (h : Reached o s)
    (pass : checkMovement need (postMove t c d p ops s) s = .pass) : Reached o ((deposit t c d p ops s).left s) :=
  Reached.posted t (h.taken false pass (postMove_entered t c d p ops s) (fun i => by simp [Movement.ends, postMove])
    fun _ hs => .inr (hs.holdings _))

/-- The overflow walk ends at a compartment that takes the whole tray (R133). -/
theorem walkOverflow_pass {t : TrayIx} {p : Port} {ops : List Nat} {s : State} {n : Nat} {visited : List CompIx}
    {at' c : CompIx} (h : walkOverflow t p ops s n visited at' = some c) :
    checkMovement 1 (postMove t c true p ops s) s = .pass := by
  induction n generalizing visited at' with
  | zero => cases h
  | succ n ih =>
    rw [walkOverflow] at h
    split at h
    · cases h
    · next k _ =>
      split at h
      · cases h
      · split at h
        · next here =>
          cases h
          simp only [Bool.and_eq_true, decide_eq_true_eq] at here
          exact here.2
        · exact ih h

theorem Reached.depositRule (t : TrayIx) (p : Port) (ops : List Nat) (h : Reached o s) :
    Reached o ((depositRule t p ops s).left s) := by
  unfold Machine.depositRule
  split
  · exact h
  · next first _ =>
    split
    · next pass => exact h.deposit t first false p ops pass
    · exact h
    · split
      · split
        · next c walked =>
          have made := h.deposit t c true p ops (walkOverflow_pass walked)
          dsimp only [Machine.deposit, Attempt.left] at made ⊢
          exact made.beside (by simp)
        · dsimp only [Attempt.left]
          exact h.beside (by simp)
      · exact h

theorem Attempt.left_of_left {a : Attempt} {s t : State} (h : Reached o (a.left s)) (ht : Reached o t) : Reached o (a.left t) := by
  cases a with
  | queued _ => exact ht
  | _ => exact h

theorem Reached.postTry (t : TrayIx) (n : Option (Option CountNumber)) (p : Port) (ops : List Nat) (h : Reached o s) :
    Reached o ((postTry t n p ops s).left s) := by
  unfold Machine.postTry
  dsimp only
  split
  · exact h
  · split
    · exact h
    · have rule := Attempt.left_of_left ((h.beside (by simp) : Reached o (clearPending t s)).depositRule t p ops) h
      split
      · split
        · exact h
        · exact rule
      · exact rule

theorem Reached.autoPostTry (t : TrayIx) (h : Reached o s) : Reached o (autoPostTry t s) := by
  unfold Machine.autoPostTry
  dsimp only
  split
  · have tried := (h.beside (by simp) : Reached o (clearAutoPost t s)).postTry t none .office (look s.recon.fillOps t)
    generalize Machine.postTry t none .office (look s.recon.fillOps t) (clearAutoPost t s) = a at tried
    cases a with
    | done u results => exact tried
    | refused c u =>
      dsimp only [raisePostHeld]
      split
      · exact tried
      · exact Reached.beside (s := u) tried (by simp)
    | parked r c u => exact Reached.frame (s := u) tried rfl rfl
    | running u => exact h
    | queued park => exact h
  · exact h

end Sys2Proof.Machine
end

section
/-! The Count Unit's operations change the books only as `Reached` allows: the start of a count, its end, and the manual count. -/

namespace Sys2Proof.Machine

variable {o s : State}

/-! ## Count waiters and the station's records -/

@[simp] theorem books_dismissCounts (sel : CountWaiter → Bool) (c : Code) (s : State) :
    books (dismissCounts sel c s) = books s := by simp [books]
@[simp] theorem books_discardCounts (sel : CountWaiter → Bool) (s : State) : books (discardCounts sel s) = books s := rfl
@[simp] theorem books_parkCount (p : Port) (tag : Tag) (ops : List Nat) (a : CountAsk) (n : Nat) (k : CountPark) (s : State) :
    books (parkCount p tag ops a n k s) = books s := by simp [books]
@[simp] theorem books_reparkCount (p : Port) (tag : Tag) (k : CountPark) (s : State) :
    books (reparkCount p tag k s) = books s := rfl
@[simp] theorem books_giveCount (t : TrayIx) (s : State) : books (giveCount t s) = books s := rfl
@[simp] theorem books_raiseCountDone (t : TrayIx) (s : State) : books (raiseCountDone t s) = books s := by
  simp [raiseCountDone]
@[simp] theorem books_beginRun (p : Port) (tag : Tag) (ops : List Nat) (t : TrayIx) (n : Option Nat) (s : State) :
    books (beginRun p tag ops t n s) = books s := by simp [beginRun, sendSelect]
@[simp] theorem books_invalidate (t : TrayIx) (s : State) : books (invalidate t s) = books s := by simp [invalidate]
@[simp] theorem books_sendAbandon (s : State) : books (sendAbandon s) = books s := rfl
@[simp] theorem books_sendCommand (c : LinkCommand) (s : State) : books (sendCommand c s) = books s := rfl
@[simp] theorem books_abandonOver (s : State) : books (abandonOver s) = books s := rfl

@[simp] theorem books_abandonCount (s : State) : books (abandonCount s) = books s := by
  unfold abandonCount
  split <;> simp

@[simp] theorem books_failCount (k : FaultReason) (s : State) : books (failCount k s) = books s := by
  unfold failCount
  dsimp only
  split
  · rfl
  · split_ifs <;> simp

@[simp] theorem books_resultFails (s : State) : books (resultFails s) = books s := by
  unfold resultFails
  split
  · rfl
  · split <;> simp

@[simp] theorem books_sendSetUp (s : State) : books (sendSetUp s) = books s := by
  unfold sendSetUp
  split <;> rfl

@[simp] theorem books_statusTaken (a b : Byte) (s : State) : books (statusTaken a b s) = books s := by
  unfold statusTaken
  repeat' split
  all_goals simp

/-! ## The source of a count (R81, R82) -/

theorem books_modTill (i : TillIx) (f : TillRec → TillRec) (s : State) :
    books (modTill i f s) = { books s with tills := put (books s).tills i (f (look (books s).tills i)) } := rfl

/-- What a movement makes of the books is determined by the books, and leaves the tills. -/
theorem books_applyMove_of_tills (m : Movement) {s u : State} (h : books u = { books s with tills := u.float.tills }) :
    books (applyMove m u) = { books (applyMove m s) with tills := u.float.tills } := by
  simp only [books, Books.mk.injEq] at h
  have held (c : Container) : holding u c = holding s c := by cases c <;> simp [holding, h]
  have hold (c : Container) : holding (applyMove m u) c = holding (applyMove m s) c := by
    rw [holding_applyMove, holding_applyMove]
    exact heldAfter_congr m c (held c)
  have flow (s : State) : (applyMove m s).store.inflow = (movePosition m s).store.inflow
      ∧ (applyMove m s).store.outflow = (movePosition m s).store.outflow := by
    have same := books_applyMove m s
    simp only [books, moveHoldings, fold_setHolding_store, Books.mk.injEq] at same
    simp only [same, and_self]
  have flows : (movePosition m u).store.inflow = (movePosition m s).store.inflow
      ∧ (movePosition m u).store.outflow = (movePosition m s).store.outflow := by
    unfold movePosition
    split <;> simp [held, h]
  simp only [books, Books.mk.injEq]
  refine ⟨by simp [h], by simp [h], ?_, ?_, ?_, ?_, by simp [h], ?_, ?_, by simp [h], by simp, by simp [h]⟩
  · exact eq_of_look fun k => hold (.till k)
  · exact eq_of_look fun k => hold (.comp k)
  · exact eq_of_look fun k => hold (.tray k)
  · exact eq_of_look fun k => hold (.bag k)
  · rw [(flow u).1, (flow s).1, flows.1]
  · rw [(flow u).2, (flow s).2, flows.2]

theorem books_applyMove_congr (m : Movement) {s u : State} (h : books u = books s) :
    books (applyMove m u) = books (applyMove m s) := by
  have tills : u.float.tills = (applyMove m s).float.tills := (congrArg Books.tills h).trans (by simp [books])
  have same : s.float.tills = u.float.tills := (congrArg Books.tills h).symm
  rw [books_applyMove_of_tills m (h.trans (by rw [← same]; rfl)), tills]
  rfl

/-- A till's record changed and a movement applied, in either order (R11). -/
theorem books_applyMove_modTill (m : Movement) (i : TillIx) (f : TillRec → TillRec) (s : State) :
    books (applyMove m (modTill i f s)) = books (modTill i f (applyMove m s)) := by
  have tills : (applyMove m s).float.tills = s.float.tills := by simp
  rw [books_applyMove_of_tills (s := s) (u := modTill i f s) m rfl, books_modTill]
  simp only [books, tills]
  rfl

/-- The changes to the books that marking a source makes: a till's record for a DRAWER or a POUCH, none for the others (R81). -/
theorem books_markSource (t : TrayIx) (src : Source) (s : State) :
    books (markSource t src s)
      = match src with
        | .drawer i _ => books (modTill i (fun r => { r with state := .counting }) s)
        | .pouch i _ n => books (modTill i
            (fun r => { r with pouches := modPouch n (fun p => { p with state := .counting }) r.pouches }) s)
        | .inbound _ | .compartment _ | .loose => books s := by
  cases src <;> rfl

theorem books_markSource_congr {s u : State} (h : books u = books s) (t : TrayIx) (src : Source) :
    books (markSource t src u) = books (markSource t src s) := by
  rw [books_markSource, books_markSource]
  cases src with
  | drawer i n => dsimp only; rw [books_modTill, books_modTill, h]
  | pouch i n k => dsimp only; rw [books_modTill, books_modTill, h]
  | _ => exact h

/-- A source marked and a movement applied, in either order. -/
theorem books_applyMove_markSource (m : Movement) (t : TrayIx) (src : Source) (s : State) :
    books (markSource t src (applyMove m s)) = books (applyMove m (markSource t src s)) := by
  rw [books_markSource]
  cases src with
  | drawer i n => exact (books_applyMove_modTill m i _ s).symm.trans (books_applyMove_congr m (books_report _)).symm
  | pouch i n k => exact (books_applyMove_modTill m i _ s).symm.trans (books_applyMove_congr m (books_report _)).symm
  | inbound b => exact books_applyMove_congr m rfl
  | compartment c => exact books_applyMove_congr m rfl
  | loose => exact books_applyMove_congr m rfl

theorem countOutMove_entered (src : Source) (t : TrayIx) (p : Port) (ops : List Nat) (b : Bool) (s : State) :
    (countOutMove src t p ops b s).Entered := by
  cases src with
  | pouch _ _ _ | loose => exact .inr rfl
  | _ => exact .inl ⟨rfl, rfl⟩

/-- The movements that take a source's cash into the tray: none where the source holds nothing (R82). -/
def sourceMoves (src : Source) (t : TrayIx) (p : Port) (ops : List Nat) (manual : Bool) (s : State) : List Movement :=
  if allZero (sourceVector s src) then [] else [countOutMove src t p ops manual s]

/-- A ready source's cash taken into the tray, and the source marked (R81, R82). -/
theorem Reached.sourceTaken (src : Source) (t : TrayIx) (p : Port) (ops : List Nat) (manual : Bool) (h : Reached o s)
    (ready : sourceReady s src = true)
    (pass : allZero (sourceVector s src) = false → ∃ need, checkMovement need (countOutMove src t p ops manual s) s = .pass) :
    Reached o (markSource t src ((sourceMoves src t p ops manual s).foldl (fun acc m => applyMove m acc) s)) := by
  have range (hz : allZero (sourceVector s src) = false) (hs : RangesHold s) :
      (countOutMove src t p ops manual s).InRange s := by
    obtain ⟨need, hp⟩ := pass hz
    refine inRange_of_pass hp (.inr ?_) hs.holdings
    cases src with
    | pouch _ _ _ | loose => exact countsInRange_zero
    | _ => exact hs.holdings _
  have free (hf : ∀ i n, src ≠ .drawer i n) (i : TillIx) : .till i ∉ (countOutMove src t p ops manual s).ends := by
    cases src <;> simp [Movement.ends, countOutMove, sourceContainer] at hf ⊢
  have moved (hf : ∀ i n, src ≠ .drawer i n) :
      Reached o ((sourceMoves src t p ops manual s).foldl (fun acc m => applyMove m acc) s) := by
    unfold sourceMoves
    split
    · exact h
    · next hz => exact h.moved _ (countOutMove_entered ..) (fun _ => range (by simpa using hz)) (free hf)
  cases src with
  | drawer i n =>
    have worth : tillWorth { tillOf s i with state := .counting } = 0 := rfl
    unfold sourceMoves
    split
    · next hz =>
      have empty : holding s (.till i) = Counts.zero := (allZero_iff _).mp hz
      refine (h.till i _ (.of_eq rfl rfl) fun _ => ?_).reported
      rw [empty]
      exact cashOk_zero worth
    · next hz =>
      refine (h.drawer _ i _ (countOutMove_entered ..) (fun _ => range (by simpa using hz)) ?_ (.of_eq rfl rfl)
        fun _ => ?_).reported
      · intro j; simp [Movement.ends, countOutMove, sourceContainer]
      · have empty : heldAfter (countOutMove (.drawer i n) t p ops manual s) s (.till i) = Counts.zero :=
          eq_of_look fun k => by
            rw [look_heldAfter _ _ _ _ (by simp [formOf, countOutMove])]
            simp [countOutMove, sourceContainer, sourceVector]
        rw [empty]
        exact cashOk_zero worth
  | pouch i n k =>
    have same : sourceMoves (.pouch i n k) t p ops manual s = [] :=
      if_pos ((allZero_iff _).mpr rfl)
    rw [same]
    simp only [sourceReady] at ready
    split at ready
    · next q hq =>
      have received : q.state ≠ .counted := by simp [beq_iff_eq.mp ready]
      exact (h.record i _ (TillOk.pouchChanged hq rfl rfl (by intro; rfl) (.inl received)) rfl).reported
    · cases ready
  | inbound b => exact (moved (by simp)).frame rfl rfl
  | compartment c => exact (moved (by simp)).frame rfl rfl
  | loose => exact (moved (by simp)).frame rfl rfl

/-! ## The start (R80 to R83, R93) -/

theorem books_startCount (p : Port) (tag : Tag) (ops : List Nat) (src : Source) (t : TrayIx) (v : Counts) (n : Nat)
    (k : Option Nat) (s : State) : books (startCount p tag ops src t v n k s) = books (markSource t src s) := by
  rw [startCount, books_beginRun, books_recordFill, books_giveCount]
  exact books_markSource_congr (books_modTray t _ s) t src

theorem Reached.startTry (p : Port) (tag : Tag) (ops : List Nat) (arg : SourceArg) (tray : Option TrayIx) (n : Nat)
    (h : Reached o s) : Reached o ((startTry p tag ops arg tray n s).left s) := by
  have started (src : Source) (t : TrayIx) (ready : sourceReady s src = true) (ms : List Movement) (k : Option Nat)
      (hms : ms = sourceMoves src t p ops false s)
      (pass : allZero (sourceVector s src) = false → ∃ need, checkMovement need (countOutMove src t p ops false s) s = .pass) :
      Reached o (startCount p tag ops src t (sourceVector s src) n k (Machine.storeEvent ms true s)) := by
    refine (h.sourceTaken src t p ops false ready pass).frame ?_ (by simp [startCount])
    rw [books_startCount, hms]
    exact books_markSource_congr (books_storeEvent _ _ _) t src
  unfold Machine.startTry
  dsimp only
  split
  · exact h
  · split
    · exact h
    · next src _ =>
      split
      · exact h
      · next ready =>
        split
        · exact h
        · split
          · exact h
          · next t _ =>
            split
            · exact h
            · exact h
            · next pass =>
              refine started src t (by simpa using ready) _ _ ?_ fun hz => ?_
              · unfold sourceMoves; split <;> simp_all
              · rw [hz] at pass
                exact ⟨_, pass⟩

theorem Reached.recountTry (p : Port) (tag : Tag) (ops : List Nat) (t : TrayIx) (n : Nat) (h : Reached o s) :
    Reached o ((recountTry p tag ops t n s).left s) := by
  have held : Reached o (Machine.storeEvent [] true s) := .storeEvent true h
  unfold Machine.recountTry
  dsimp only
  repeat' split
  all_goals dsimp only [Attempt.left]
  all_goals first | exact h | exact held.beside (by simp)

/-! ## The end of a count (R76, R88 to R92) -/

theorem countResultMove_entered (t : TrayIx) (v : Counts) (p : Port) (ops : List Nat) (f : MoveFlags) (b : Bool) :
    (countResultMove t v p ops f b).Entered := ⟨rfl, rfl⟩

theorem Reached.countResult (t : TrayIx) (v : Counts) (p : Port) (ops : List Nat) (f : MoveFlags) (b : Bool) (h : Reached o s)
    (hv : RangesHold o → countsInRange v) : Reached o (applyMove (countResultMove t v p ops f b) s) := by
  refine h.moved _ (countResultMove_entered ..) (fun ho hs c hc => ?_) fun i => by simp [Movement.ends, countResultMove]
  have : c = .tray t := by simpa [Movement.ends, countResultMove] using hc
  subst this
  simpa [heldAfter, countResultMove, formOf] using hv ho

theorem Reached.completeCount (v : Counts) (n : Nat) (f : TrayFlags) (h : Reached o s) (hv : countsInRange v) :
    Reached o (completeCount v n f s) := by
  unfold Machine.completeCount
  split
  · exact h
  · next r _ =>
    have stored := Reached.storeEvent (ms := [_]) false
      (h.countResult r.tray v r.port r.ops { MoveFlags.clear with uncertain := trayUncertain f, saturated := f.saturated } true
        fun _ => hv)
    refine Reached.signalled _ (Reached.handOver r.tray ?_)
    exact stored.beside (by simp)

theorem convertCoin_range (w m : Nat) : 0 ≤ (convertCoin w m).count ∧ (convertCoin w m).count ≤ Config.maxCount := by
  unfold convertCoin
  dsimp only
  split
  · simp [Config.maxCount]
  · next h => exact ⟨Int.natCast_nonneg _, by simp only [Config.maxCount]; omega⟩

theorem convertNote_range (n : Nat) : 0 ≤ (convertNote n).count ∧ (convertNote n).count ≤ Config.maxCount := by
  unfold convertNote
  split
  · simp [Config.maxCount]
  · next h => exact ⟨Int.natCast_nonneg _, by simp only [Config.maxCount]; omega⟩

/-- A counted vector is in range, saturated where a count is above 65,535 (R86, R87). -/
theorem countedVector_range (mask : BitVec 16) (bs : List Byte) (s : State) : countsInRange (countedVector mask bs s) := by
  intro i
  rw [countedVector, look_ofFn, convertIndex]
  split
  · exact convertNote_range _
  · split
    · exact convertCoin_range _ _
    · simp [Config.maxCount]

theorem Reached.resultTaken (bs : List Byte) (h : Reached o s) : Reached o (resultTaken bs s) := by
  unfold Machine.resultTaken
  dsimp only
  split
  · exact h
  · next r _ =>
    have counted : Reached o (if r.reread then modCount (fun u => { u with recovered := min 65535 (u.recovered + 1) }) s else s) := by
      split
      · exact h.beside (by simp)
      · exact h
    generalize (if r.reread then modCount (fun u => { u with recovered := min 65535 (u.recovered + 1) }) s else s) = u at counted
    split
    · exact counted.beside (by simp)
    · exact counted.completeCount _ _ _ (countedVector_range _ _ _)

/-! ## The manual count (R94) -/

theorem Reached.manualDone (t : TrayIx) (ops : List Nat) (k : Option Nat) (n : Nat) (u : State) (h : Reached o s) :
    Reached o ((manualDone t ops k n s).left u) :=
  Reached.handOver t (h.beside (by simp))

theorem Reached.manualInvalid (p : Port) (ops : List Nat) (t : TrayIx) (v : Counts) (h : Reached o s)
    (hv : RangesHold o → countsInRange v) : Reached o ((manualInvalid p ops t v s).left s) := by
  unfold Machine.manualInvalid
  dsimp only
  split
  · exact h
  · exact h
  · exact Reached.manualDone t ops _ _ s (Reached.storeEvent (ms := [_]) false (h.countResult t v p ops _ false hv))

theorem checkEvent_cons_pass {need : Nat} {m : Movement} {ms : List Movement} {s : State}
    (h : checkEvent need (m :: ms) s = .pass) :
    checkMovement need m s = .pass ∧ checkEvent need ms (moveHoldings m s) = .pass := by
  rw [checkEvent] at h
  split at h
  · next hm => exact ⟨hm, h⟩
  · cases h
  · cases h

theorem Reached.manualTry (p : Port) (ops : List Nat) (t : TrayIx) (v : Counts) (arg : SourceArg) (h : Reached o s)
    (hv : RangesHold o → countsInRange v) : Reached o ((manualTry p ops t v arg s).left s) := by
  have made (src : Source) (ready : sourceReady s src = true) (f : TrayRec → TrayRec) (ms : List Movement) (r : Movement)
      (hr : r = countResultMove t v p ops { MoveFlags.clear with manual := true } false)
      (hms : ms = sourceMoves src t p ops true s ++ [r])
      (pass : allZero (sourceVector s src) = false → ∃ need, checkMovement need (countOutMove src t p ops true s) s = .pass) :
      Reached o (modTray t f (markSource t src (Machine.storeEvent ms false s))) := by
    have taken := (h.sourceTaken src t p ops true ready pass).countResult t v p ops { MoveFlags.clear with manual := true } false hv
    refine taken.frame ?_ (by simp)
    rw [books_modTray, books_markSource_congr (books_storeEvent _ _ _), hms, List.foldl_append, List.foldl_cons, List.foldl_nil, ← hr]
    exact books_applyMove_markSource r t src _
  unfold Machine.manualTry
  dsimp only
  split
  · exact h
  · split
    · exact h
    · split
      · exact h
      · next src _ =>
        split
        · exact h
        · next ready =>
          split
          · exact h
          · exact h
          · next pass =>
            have first := (checkEvent_cons_pass pass).1
            split
            · next hz =>
              refine Reached.manualDone t ops _ _ s (made src (by simpa using ready) _ _ _ rfl ?_ fun hf => by simp [hz] at hf)
              rw [sourceMoves, if_pos hz]
              rfl
            · next hz =>
              rw [if_neg hz, if_neg hz] at first
              refine Reached.manualDone t ops _ _ s (made src (by simpa using ready) _ _ _ rfl ?_ fun _ => ⟨_, first⟩)
              rw [sourceMoves, if_neg hz]
              rfl

end Sys2Proof.Machine
end

section
/-! The Float Unit: a composed vector lies within the stock, in whole rolls, and is worth its target (R45 to R47), so a float or
top-up keeps the books as `Reached` says; the float waiters and their passes (R48 to R52). -/

namespace Sys2Proof.Machine

variable {o s : State}

/-! ## Composition (R45 to R47) -/

/-- A vector taken from a stock: nothing below zero or above the stock. -/
def Within (stock v : Counts) : Prop := ∀ i, 0 ≤ look v i ∧ look v i ≤ look stock i

/-- Coins in whole rolls (R47). -/
def InRolls (denoms : Vector DenomEntry 16) (v : Counts) : Prop :=
  ∀ i : DenomIx, (look denoms i).form = some .coin → (((look denoms i).pack.getD 1 : Nat) : Int) ∣ look v i

/-- The second stage at one index (R47). -/
def takeMore (denoms : Vector DenomEntry 16) (stock : Counts) (acc : Counts × Int) (i : DenomIx) : Counts × Int :=
  let k := stageTwo denoms stock acc.1 acc.2 i
  (put acc.1 i (look acc.1 i + k), acc.2 - k * faceAt denoms i)

/-- The first stage (R46). -/
def firstStage (denoms : Vector DenomEntry 16) (stock : Counts) : Option Counts → Counts
  | some q => Vector.ofFn fun i => stageOne denoms q stock i
  | none => Counts.zero

/-- Composition is the first stage, and the second stage index by index. -/
theorem compose_eq (denoms : Vector DenomEntry 16) (stock : Counts) (mask : BitVec 16) (template : Option Counts) (target : Int) :
    compose denoms stock mask template target
      = (issuable denoms mask).foldl (takeMore denoms stock)
          (firstStage denoms stock template, target - valueWith denoms (firstStage denoms stock template)) := by
  cases template <;> rfl

/-- What the first stage leaves and the second stage keeps holds of the composition. -/
theorem compose_induction {denoms : Vector DenomEntry 16} {stock : Counts} {mask : BitVec 16} {template : Option Counts}
    {target : Int} (P : Counts × Int → Prop)
    (first : P (firstStage denoms stock template, target - valueWith denoms (firstStage denoms stock template)))
    (second : ∀ acc i, P acc → P (takeMore denoms stock acc i)) : P (compose denoms stock mask template target) := by
  rw [compose_eq]
  generalize (firstStage denoms stock template, target - valueWith denoms (firstStage denoms stock template)) = acc at first
  induction issuable denoms mask generalizing acc with
  | nil => exact first
  | cons i l ih => exact ih _ (second acc i first)

/-- A count rounded down to whole rolls. -/
theorem rolls_le {t p : Int} (ht : 0 ≤ t) (hp : 0 ≤ p) : 0 ≤ t - t % p ∧ t - t % p ≤ t := by
  have cut : t - t % p = p * (t / p) := by have := Int.emod_add_mul_ediv t p; omega
  refine ⟨cut ▸ mul_nonneg hp (Int.ediv_nonneg ht hp), ?_⟩
  obtain rfl | hp := hp.eq_or_lt
  · simpa using ht
  · exact sub_le_self _ (Int.emod_nonneg _ hp.ne')

theorem firstStage_within (denoms : Vector DenomEntry 16) (stock : Counts) (template : Option Counts)
    (hq : ∀ q, template = some q → ∀ i, 0 ≤ look q i) (hs : ∀ i, 0 ≤ look stock i) :
    Within stock (firstStage denoms stock template) := by
  cases template with
  | none => exact fun i => by simpa [firstStage] using hs i
  | some q =>
    intro i
    have smaller : 0 ≤ min (look q i) (look stock i) := le_min (hq q rfl i) (hs i)
    have within : min (look q i) (look stock i) ≤ look stock i := min_le_right _ _
    rw [firstStage, look_ofFn, stageOne]
    dsimp only
    split
    · exact ⟨le_rfl, hs i⟩
    · split
      · have rolls := rolls_le (p := (((look denoms i).pack.getD 1 : Nat) : Int)) smaller (Int.natCast_nonneg _)
        exact ⟨rolls.1, rolls.2.trans within⟩
      · exact ⟨smaller, within⟩

theorem firstStage_inRolls (denoms : Vector DenomEntry 16) (stock : Counts) (template : Option Counts) :
    InRolls denoms (firstStage denoms stock template) := by
  intro i hf
  cases template with
  | none => simp [firstStage]
  | some q =>
    rw [firstStage, look_ofFn, stageOne]
    dsimp only
    split
    · exact dvd_zero _
    · simp only [hf]
      exact Int.dvd_self_sub_emod

/-- The second stage takes no more than is left (R47). -/
theorem stageTwo_le (denoms : Vector DenomEntry 16) (stock v : Counts) (short : Int) (i : DenomIx)
    (hl : look v i ≤ look stock i) :
    0 ≤ stageTwo denoms stock v short i ∧ stageTwo denoms stock v short i ≤ look stock i - look v i := by
  have face : 0 ≤ faceAt denoms i := Int.natCast_nonneg _
  have left : 0 ≤ look stock i - look v i := by omega
  unfold stageTwo
  dsimp only
  split
  · exact ⟨le_rfl, left⟩
  · next hs =>
    have short : 0 ≤ short := face.trans (not_lt.mp hs)
    split
    · have pack : (0 : Int) ≤ (((look denoms i).pack.getD 1 : Nat) : Int) := Int.natCast_nonneg _
      refine ⟨mul_nonneg pack (le_min (Int.ediv_nonneg left pack) (Int.ediv_nonneg short (mul_nonneg face pack))), ?_⟩
      have whole := rolls_le left pack
      have cut := Int.emod_add_mul_ediv (look stock i - look v i) (((look denoms i).pack.getD 1 : Nat) : Int)
      exact (mul_le_mul_of_nonneg_left (min_le_left _ _) pack).trans (by omega)
    · exact ⟨le_min left (Int.ediv_nonneg short face), min_le_left _ _⟩

/-- The second stage takes coins by whole rolls (R47). -/
theorem stageTwo_rolls (denoms : Vector DenomEntry 16) (stock v : Counts) (short : Int) (i : DenomIx)
    (hf : (look denoms i).form = some .coin) :
    (((look denoms i).pack.getD 1 : Nat) : Int) ∣ stageTwo denoms stock v short i := by
  unfold stageTwo
  simp only [hf]
  split
  · exact dvd_zero _
  · exact dvd_mul_right _ _

theorem compose_within (denoms : Vector DenomEntry 16) (stock : Counts) (mask : BitVec 16) (template : Option Counts)
    (target : Int) (hq : ∀ q, template = some q → ∀ i, 0 ≤ look q i) (hs : ∀ i, 0 ≤ look stock i) :
    Within stock (compose denoms stock mask template target).1 := by
  refine compose_induction (fun acc => Within stock acc.1) (firstStage_within denoms stock template hq hs) fun acc i ha j => ?_
  dsimp only [takeMore]
  by_cases hj : j = i
  · subst hj
    obtain ⟨low, high⟩ := ha j
    obtain ⟨low', high'⟩ := stageTwo_le denoms stock acc.1 acc.2 j high
    rw [look_put_self]
    exact ⟨by omega, by omega⟩
  · rw [look_put_ne _ _ hj]
    exact ha j

theorem compose_inRolls (denoms : Vector DenomEntry 16) (stock : Counts) (mask : BitVec 16) (template : Option Counts)
    (target : Int) : InRolls denoms (compose denoms stock mask template target).1 := by
  refine compose_induction (fun acc => InRolls denoms acc.1) (firstStage_inRolls denoms stock template) fun acc i ha j hf => ?_
  dsimp only [takeMore]
  by_cases hj : j = i
  · subst hj
    rw [look_put_self]
    exact dvd_add (ha j hf) (stageTwo_rolls denoms stock acc.1 acc.2 j hf)
  · rw [look_put_ne _ _ hj]
    exact ha j hf

/-- The composed vector and the shortfall together are worth the target (R46, R47). -/
theorem compose_value (denoms : Vector DenomEntry 16) (stock : Counts) (mask : BitVec 16) (template : Option Counts)
    (target : Int) :
    valueWith denoms (compose denoms stock mask template target).1 + (compose denoms stock mask template target).2 = target := by
  refine compose_induction (fun acc => valueWith denoms acc.1 + acc.2 = target) (by ring) fun acc i ha => ?_
  dsimp only [takeMore]
  rw [valueWith_put, ← ha]
  ring

/-! ## The attempt at a float or top-up (R48, R50) -/

/-- The state an attempt at a float leaves, where it leaves one. -/
def FloatTry.left (a : FloatTry) (s : State) : State :=
  match a with
  | .done t _ => t
  | .refused _ | .short _ | .parked _ _ => s

/-- A composed vector moved into a till that then is worth so much more (R43, R47). -/
theorem Reached.floatStore (kind : MoveKind) (t : TillIx) (mask : BitVec 16) (template : Option Counts) (target : Nat) (p : Port)
    (ops : List Nat) (after : State → State) (results : State → List Field) (f : TillRec → TillRec) (h : Reached o s)
    (hk : kind = .issue ∨ kind = .topup) (ha : ∀ u, books (after u) = books (modTill t f u))
    (hw : ∀ u, (after u).safe.waiters = u.safe.waiters) (hok : TillOk (tillOf s t) → TillOk (f (tillOf s t)))
    (worth : tillWorth (f (tillOf s t)) = tillWorth (tillOf s t) + target)
    (hq : ∀ q, template = some q → RangesHold s → ∀ i, 0 ≤ look q i) :
    Reached o ((floatStore kind t mask template target p ops after results s).left s) := by
  unfold Machine.floatStore
  split
  · exact h
  · next c _ =>
    dsimp only
    split
    · exact h
    · next exactly =>
      split
      · exact h
      · exact h
      · next pass =>
        set v := (compose s.store.denoms (holding s (.comp c)) mask template target).1 with hv
        have form : formOf (floatMove kind c t v p ops).kind ≠ .replacement := by
          obtain rfl | rfl := hk <;> simp [floatMove, formOf]
        have entered : (floatMove kind c t v p ops).Entered := by
          obtain rfl | rfl := hk <;> exact .inl ⟨rfl, rfl⟩
        have value : valueWith s.store.denoms v = target := by
          have := compose_value s.store.denoms (holding s (.comp c)) mask template target
          rw [not_not.mp exactly] at this
          simpa using this
        have taken (hs : RangesHold s) : Within (holding s (.comp c)) v :=
          compose_within _ _ _ _ _ (fun q e => hq q e hs) fun i => (hs.holdings _ i).1
        have after' : heldAfter (floatMove kind c t v p ops) s (.till t) = (holding s (.till t)).add v :=
          eq_of_look fun i => by rw [look_heldAfter _ _ _ _ form]; simp [floatMove]
        have stored : Reached o (modTill t f (applyMove (floatMove kind c t v p ops) s)) := by
          refine h.drawer _ t f entered (fun _ hs => inRange_of_pass pass (.inr fun i => ?_) hs.holdings) (fun j => ?_) hok
            fun hc => ?_
          · exact ⟨(taken hs i).1, (taken hs i).2.trans (hs.holdings _ i).2⟩
          · simp [Movement.ends, floatMove]
          · rw [after']
            refine ⟨by rw [valueWith_add, hc.1, value, worth], fun d hd => ?_⟩
            rw [look_add]
            exact dvd_add (hc.2 d hd) (compose_inRolls _ _ _ _ _ d hd)
        refine Reached.evaluate t (stored.frame ?_ (by simp [hw]))
        rw [ha, books_modTill, books_modTill, books_storeEvent]
        rfl

theorem Reached.floatTry (p : Port) (ops : List Nat) (ask : FloatAsk) (h : Reached o s) :
    Reached o ((floatTry p ops ask s).left s) := by
  unfold Machine.floatTry
  split_ifs
  · exact h
  · exact h
  · exact h
  · cases ask with
    | float t profile =>
      dsimp only
      split_ifs with idle fits
      · exact h
      · exact h
      · refine h.floatStore .issue t _ _ _ p ops _ _ (fun r => issuedTill r profile (look s.float.profiles profile)) (.inl rfl)
          (fun u => rfl) (fun u => rfl) (fun _ => ⟨by simp [issuedTill], by simp [issuedTill, openPouches],
            by simp [issuedTill], rfl⟩) ?_ fun q hq hs i => ?_
        · have none' : tillWorth (tillOf s t) = 0 := by simp [tillWorth, not_not.mp idle]
          rw [none', zero_add]
          rfl
        · cases hq
          exact (hs.templates profile i).1
    | topup t v =>
      dsimp only
      split_ifs with trades full
      · exact h
      · exact h
      · simp only [Bool.or_eq_true, decide_eq_true_eq, not_or, not_not] at trades
        refine h.floatStore .topup t _ _ _ p ops _ _ (fun r => { r with f := r.f + v, topups := r.topups + 1 }) (.inr rfl)
          (fun u => rfl) (fun u => rfl) (fun hr => ⟨?_, hr.opened, hr.length, hr.numbers⟩) ?_ fun q hq => nomatch hq
        · have : (tillOf s t).topups < 3 := not_le.mp full
          exact this
        · simp [tillWorth, trades.1]

/-! ## The float waiters (R51 to R54) -/

@[simp] theorem books_dismissFloats (sel : FloatWaiter → Bool) (c : Code) (s : State) :
    books (dismissFloats sel c s) = books s := by
  rw [dismissFloats]
  generalize List.filter sel s.float.waiters = l
  have answers (l : List FloatWaiter) (u : State) :
      books (l.foldl (fun acc w => answer w.port w.tag c 0 [] acc) u) = books u := by simp [books]
  rw [answers]
  rfl

@[simp] theorem books_dismissTopups (t : TillIx) (s : State) : books (dismissTopups t s) = books s := books_dismissFloats ..
@[simp] theorem books_dismissRivals (a : FloatAsk) (s : State) : books (dismissRivals a s) = books s := by
  unfold dismissRivals
  split <;> simp
@[simp] theorem books_raiseReserveLow (k : Int) (s : State) : books (raiseReserveLow k s) = books s := by simp [books]
@[simp] theorem books_parkFloat (p : Port) (tag : Tag) (ops : List Nat) (a : FloatAsk) (k : FloatPark) (s : State) :
    books (parkFloat p tag ops a k s) = books s := by
  rw [parkFloat, books_setSlot]
  rfl
@[simp] theorem books_reparkFloat (p : Port) (tag : Tag) (k : FloatPark) (s : State) :
    books (reparkFloat p tag k s) = books s := rfl
@[simp] theorem books_discardFloats (sel : FloatWaiter → Bool) (s : State) : books (discardFloats sel s) = books s := rfl

theorem Reached.floatArrival (p : Port) (tag : Tag) (ops : List Nat) (ask : FloatAsk) (h : Reached o s) :
    Reached o (floatArrival p tag ops ask s) := by
  have tried := h.floatTry p ops ask
  unfold Machine.floatArrival
  generalize Machine.floatTry p ops ask s = a at tried
  cases a with
  | refused c => exact h.beside (by simp)
  | short k => exact h.beside (by simp)
  | parked r c => exact h.beside (by simp)
  | done u results => exact Reached.beside (s := u) tried (by simp)

theorem Reached.retryFloat (w : FloatWaiter) (h : Reached o s) : Reached o (retryFloat s w) := by
  have tried := h.floatTry w.port w.ops w.ask
  unfold Machine.retryFloat
  split
  · generalize Machine.floatTry w.port w.ops w.ask s = a at tried
    cases a with
    | refused c => exact h.beside (by simp)
    | short k => exact h.beside (by simp)
    | parked r c => exact h.beside (by simp)
    | done u results => exact Reached.beside (s := u) tried (by simp)
  · exact h

/-- A fold of steps each of which `Reached` allows. -/
theorem Reached.fold {α : Type} {f : State → α → State} {l : List α} (h : Reached o s)
    (hf : ∀ a ∈ l, ∀ s, Reached o s → Reached o (f s a)) : Reached o (l.foldl f s) := by
  induction l generalizing s with
  | nil => exact h
  | cons a l ih =>
    exact ih (hf a List.mem_cons_self s h) fun b hb => hf b (List.mem_cons_of_mem a hb)

theorem Reached.floatPass (h : Reached o s) : Reached o (floatPass s) :=
  h.fold fun w _ _ hs => hs.retryFloat w

end Sys2Proof.Machine
end

section
/-! The Day Unit's operations, the handover session, the passes and the end of an event change the books only as `Reached`
allows. -/

namespace Sys2Proof.Machine

variable {o s : State}

/-! ## Windows and sessions (R151 to R158, R173, R174) -/

@[simp] theorem books_unstage (w : WindowIx) (s : State) : books (unstage w s) = books s := by simp [books]
@[simp] theorem books_closeWindowAt (w : WindowIx) (s : State) : books (closeWindowAt w s) = books s := by simp [books]
@[simp] theorem books_missWindow (w : WindowIx) (s : State) : books (missWindow w s) = books s := by simp [books]

@[simp] theorem books_endSession (x : Session) (s : State) : books (endSession x s) = books s := by
  unfold endSession
  dsimp only
  split <;> simp [liftLatch, signal] <;> rfl

@[simp] theorem endSession_waiters (x : Session) (s : State) : (endSession x s).safe.waiters = s.safe.waiters := by
  unfold endSession
  dsimp only
  split <;> simp [liftLatch]

theorem fold_freeBags_books (l : List BagIx) (s : State) :
    books (l.foldl (fun acc b => modBag b (fun _ => BagRec.free) acc) s) = books s := by simp [books]

@[simp] theorem books_abortSession (k : AbortCause) (x : Session) (s : State) : books (abortSession k x s) = books s := by
  simp [abortSession, fold_freeBags_books]

@[simp] theorem abortSession_waiters (k : AbortCause) (x : Session) (s : State) :
    (abortSession k x s).safe.waiters = s.safe.waiters := by
  simp [abortSession]

@[simp] theorem books_abortAny (k : AbortCause) (s : State) : books (abortAny k s) = books s := by
  unfold abortAny
  split <;> simp

@[simp] theorem abortAny_waiters (k : AbortCause) (s : State) : (abortAny k s).safe.waiters = s.safe.waiters := by
  unfold abortAny
  split <;> simp

/-! ## The day and its plan (R26 to R38) -/

@[simp] theorem books_raiseDayState (s : State) : books (raiseDayState s) = books s := by simp [books]
@[simp] theorem books_resetWindows (st : WindowState) (s : State) : books (resetWindows st s) = books s := rfl
@[simp] theorem books_pickupRound (s : State) : books (pickupRound s) = books s := by simp [books]
@[simp] theorem books_freezeNow (s : State) : books (freezeNow s) = books s := rfl

/-- The Day Unit's record changed outside its number, its clock, its pointer, its plan and the closing of the day. -/
theorem Reached.dayNote (f : DayUnit → DayUnit) (h : Reached o s) (hn : (f s.day).number = s.day.number)
    (hc : (f s.day).clock = s.day.clock) (hp : (f s.day).pointer = s.day.pointer)
    (hl : (f s.day).plan = s.day.plan) (hs : (f s.day).state ≠ .closed → s.day.state ≠ .closed) :
    Reached o (modDay f s) :=
  h.day f (fun hd => by simpa only [DayOk, hn, hc, hp, hl] using hd) hs

theorem Reached.completeClose (h : Reached o s) : Reached o (completeClose s) := by
  have closed := h.dayNote (fun d => { d with state := .closed, planState := .stopped }) rfl rfl rfl rfl
    fun opened => absurd rfl opened
  unfold Machine.completeClose
  refine Reached.frame closed ?_ ?_
  · rw [books_raiseDayState]; rfl
  · simp [resetWindows]

theorem Reached.completionCheck (h : Reached o s) : Reached o (completionCheck s) := by
  unfold Machine.completionCheck
  split
  · exact h.completeClose
  · exact h

theorem openWindowAt_books {w : WindowIx} {s t : State} (h : openWindowAt w s = .ok t) :
    books t = books s ∧ t.safe.waiters = s.safe.waiters := by
  unfold openWindowAt at h
  dsimp only at h
  split at h; · cases h
  split at h; · cases h
  split at h <;> cases h <;> simp

theorem openRangeTo_books {low high : Nat} {s t : State} (h : openRangeTo low high s = .ok t) :
    books t = books s ∧ t.safe.waiters = s.safe.waiters := by
  unfold openRangeTo at h
  split at h <;> cases h
  exact ⟨rfl, rfl⟩

theorem lockAllNow_books {s t : State} (h : lockAllNow s = .ok t) : books t = books s ∧ t.safe.waiters = s.safe.waiters := by
  unfold lockAllNow at h
  split at h <;> cases h
  exact ⟨rfl, rfl⟩

/-- A plan action changes nothing of the books (R37). -/
theorem planAction_books {a : PlanAction} {s t : State} (h : planAction a s = .ok t) :
    books t = books s ∧ t.safe.waiters = s.safe.waiters := by
  cases a with
  | windowOpen w => exact openWindowAt_books h
  | windowClose w => cases h; simp
  | openRange low high => exact openRangeTo_books h
  | lockAll => exact lockAllNow_books h
  | freeze => cases h; exact ⟨rfl, rfl⟩
  | pickupRound =>
    obtain rfl : pickupRound s = t := Except.ok.inj h
    exact ⟨books_pickupRound s, by simp⟩
  | stop => cases h; exact ⟨rfl, rfl⟩

theorem Reached.passEntry (i : PlanIx) (h : Reached o s) : Reached o (passEntry i s) := by
  unfold Machine.passEntry
  refine h.day _ (fun hd => ?_) id
  obtain ⟨hn, hc, -, hl⟩ := hd
  exact ⟨hn, hc, i.isLt, hl⟩

theorem Reached.executeEntry (i : PlanIx) (h : Reached o s) : Reached o (executeEntry i s) := by
  unfold Machine.executeEntry
  split
  · next hp =>
    obtain ⟨hb, hw⟩ := planAction_books hp
    exact (h.passEntry i).frame hb hw
  · exact (h.passEntry i).beside (by simp)

theorem Reached.catchUpEntry (set : List PlanIx) (i : PlanIx) (h : Reached o s) : Reached o (catchUpEntry set s i) := by
  unfold Machine.catchUpEntry
  split
  · split
    · exact (h.passEntry i).beside (by simp)
    · exact h.executeEntry i
  all_goals exact h.executeEntry i

theorem Reached.catchUp (h : Reached o s) : Reached o (catchUp s) := by
  unfold Machine.catchUp
  split
  · exact h.fold fun i _ _ hs => hs.catchUpEntry _ i
  · exact h

theorem Reached.runPlan (h : Reached o s) : Reached o (runPlan s) := by
  unfold Machine.runPlan
  split
  · exact h.fold fun i _ _ hs => hs.executeEntry i
  · exact h

/-- A day opened in an event that has left the bags as it found them (R26). -/
theorem Reached.openTheDay (h : Reached o s) (hb : s.courier.bags = o.courier.bags)
    (hh : s.store.bagHold = o.store.bagHold) : Reached o (openTheDay s) := by
  have started : Reached o (modDay (fun d => { d with planState := .running, pointer := 0 }) (dayOpened s)) :=
    (h.opened hb hh).day _ (fun ⟨hn, hc, _, hl⟩ => ⟨hn, hc, Nat.zero_le _, hl⟩) id
  exact started.catchUp.raised _ _ _

/-! ## The access waiters and their passes (R129, R130) -/

@[simp] theorem books_parkAccess (p : Port) (tag : Tag) (ops : List Nat) (r : AccessReq) (k : AccessReason) (c : Container)
    (s : State) : books (parkAccess p tag ops r k c s) = books s := by
  rw [parkAccess, books_setSlot]
  rfl
@[simp] theorem books_reparkAccess (p : Port) (tag : Tag) (k : AccessReason) (c : Container) (s : State) :
    books (reparkAccess p tag k c s) = books s := rfl
@[simp] theorem books_discardAccess (sel : AccessWaiter → Bool) (s : State) : books (discardAccess sel s) = books s := rfl
@[simp] theorem books_queueCount (p : Port) (tag : Tag) (ops : List Nat) (r : AccessReq) (k : CountPark) (s : State) :
    books (queueCount p tag ops r k s) = books s := by
  cases r <;> simp [queueCount]
@[simp] theorem queueCount_waiters (p : Port) (tag : Tag) (ops : List Nat) (r : AccessReq) (k : CountPark) (s : State) :
    (queueCount p tag ops r k s).safe.waiters = s.safe.waiters := by
  cases r <;> simp [queueCount]

/-- The vector a request carries is in range, where the event began with the ranges kept. -/
def CarriesRange (o : State) (req : AccessReq) : Prop := RangesHold o → ∀ v, req.carried = some v → countsInRange v

theorem Reached.parkAccess (p : Port) (tag : Tag) (ops : List Nat) (req : AccessReq) (k : AccessReason) (c : Container)
    (h : Reached o s) (hr : CarriesRange o req) : Reached o (parkAccess p tag ops req k c s) := by
  refine h.same (by simp) fun ho hs w hw v hv => ?_
  have : w ∈ s.safe.waiters ++ [{ port := p, tag, req, ops, reason := k, container := c, elapsed := 0, stamp := s.stamp }] := by
    simpa [Machine.parkAccess, setAccessWaiters] using hw
  obtain hw | rfl := (List.mem_append.mp this).imp_right List.mem_singleton.mp
  · exact hs w hw v hv
  · exact hr ho v hv

theorem Reached.reparkAccess (p : Port) (tag : Tag) (k : AccessReason) (c : Container) (h : Reached o s) :
    Reached o (reparkAccess p tag k c s) := by
  refine h.fewer (by simp) fun w hw => ?_
  obtain ⟨x, hx, rfl⟩ := List.mem_map.mp hw
  exact ⟨x, hx, by split <;> rfl⟩

theorem Reached.discardAccess (sel : AccessWaiter → Bool) (h : Reached o s) : Reached o (discardAccess sel s) :=
  h.fewer (by simp) fun w hw => ⟨w, (List.mem_filter.mp hw).1, rfl⟩

theorem Reached.moveTry (m : Movement) (results : State → List Field) (h : Reached o s) (hm : m.Entered)
    (ht : ∀ i, .till i ∉ m.ends) (hv : RangesHold o → formOf m.kind = .signed ∧ m.src = none ∨ countsInRange m.vec) :
    Reached o ((moveTry m results s).left s) := by
  unfold Machine.moveTry
  split
  · exact h
  · exact h
  · next pass => exact h.taken false pass hm ht fun ho _ => hv ho

theorem Reached.accessTry (p : Port) (tag : Tag) (ops : List Nat) (req : AccessReq) (h : Reached o s)
    (hr : CarriesRange o req) : Reached o ((accessTry p tag ops req s).left s) := by
  cases req with
  | startCount source tray reject => exact h.startTry p tag ops source tray reject
  | manualCount t v source => exact h.manualTry p ops t v source fun ho => hr ho v rfl
  | postTray t count => exact h.postTry t (some count) p ops
  | transfer src dst v =>
    exact h.moveTry (transferMove src dst v p ops) (fun _ => []) (.inl ⟨rfl, rfl⟩) (fun i => by simp [Movement.ends, transferMove])
      fun ho => .inr (hr ho v rfl)
  | adjust c v =>
    exact h.moveTry (adjustMove c v p ops) (fun _ => []) ⟨rfl, rfl⟩ (fun i => by simp [Movement.ends, adjustMove]) fun _ => .inl ⟨rfl, rfl⟩
  | fillBag b c v =>
    dsimp only [Machine.accessTry, fillTry]
    split
    · exact h
    · exact h.moveTry (fillMove b c v p ops) _ (.inl ⟨rfl, rfl⟩) (fun i => by simp [Movement.ends, fillMove])
        fun ho => .inr (hr ho v rfl)

theorem Reached.accessArrival (p : Port) (tag : Tag) (ops : List Nat) (req : AccessReq) (h : Reached o s)
    (hr : CarriesRange o req) : Reached o (accessArrival p tag ops req s) := by
  have tried := h.accessTry p tag ops req hr
  unfold Machine.accessArrival
  generalize Machine.accessTry p tag ops req s = a at tried
  cases a with
  | refused c t => exact Reached.answered _ _ _ _ _ tried
  | parked r c t => exact Reached.parkAccess p tag ops req r c tried hr
  | done t results => exact Reached.answered _ _ _ _ _ tried
  | running t => exact tried
  | queued park => exact h.beside (by simp)

theorem Reached.retryAccess (w : AccessWaiter) (h : Reached o s) (hr : CarriesRange o w.req) :
    Reached o (retryAccess s w) := by
  have tried := h.accessTry w.port w.tag w.ops w.req hr
  unfold Machine.retryAccess
  split
  · dsimp only
    generalize Machine.accessTry w.port w.tag w.ops w.req s = a at tried
    cases a with
    | refused c t => exact (Reached.discardAccess _ (s := t) tried).answered ..
    | parked r c t => exact Reached.reparkAccess _ _ r c (s := t) tried
    | done t results => exact (Reached.discardAccess _ (s := t) tried).answered ..
    | running t => exact Reached.discardAccess _ (s := t) tried
    | queued park => exact (h.discardAccess (isAccessWaiter w.port w.tag)).beside (by simp)
  · exact h

/-- A waiter of a state on the way carries a vector in range: a pass re-tries the waiters it found. -/
theorem Reached.carries (h : Reached o s) {w : AccessWaiter} (hw : w ∈ s.safe.waiters) : CarriesRange o w.req :=
  fun ho v hv => (h.ranges ho).waiting w hw v hv

theorem Reached.accessPass (concerned : AccessWaiter → Bool) (h : Reached o s) : Reached o (accessPass concerned s) :=
  h.fold fun w hw _ hs => hs.retryAccess w (h.carries (List.mem_filter.mp hw).1)

theorem Reached.stepPass (c : Container) (h : Reached o s) : Reached o (stepPass c s) := by
  refine h.fold fun a ha u hu => ?_
  rw [List.mem_insertionSort, List.mem_append] at ha
  obtain ⟨n, w | w⟩ := a
  · exact hu.retryFloat w
  · obtain ha | ha := ha <;> obtain ⟨x, hx, e⟩ := List.mem_map.mp ha <;> cases e
    exact hu.retryAccess w (h.carries (List.mem_filter.mp hx).1)

/-! ## The pass over the count waiters (R84) -/

theorem Reached.countTry (w : CountWaiter) (h : Reached o s) : Reached o ((countTry w s).left s) := by
  unfold Machine.countTry
  split
  · exact h.startTry ..
  · exact h.recountTry ..

theorem carriesRange_countAsk (o : State) (a : CountAsk) (n : Nat) : CarriesRange o (a.access n) := by
  cases a <;> exact fun _ v hv => nomatch hv

theorem Reached.countPassOver (ws : List CountWaiter) (h : Reached o s) : Reached o (countPassOver ws s) := by
  induction ws generalizing s with
  | nil => exact h
  | cons w ws ih =>
    have tried := h.countTry w
    unfold Machine.countPassOver
    split
    · exact ih (h.beside (by simp))
    · dsimp only
      generalize Machine.countTry w s = a at tried
      cases a with
      | running t => exact Reached.beside (s := t) tried (by simp)
      | refused c t => exact ih (Reached.beside (s := t) tried (by simp))
      | parked r c t => exact ih (Reached.parkAccess _ _ _ _ r c (Reached.beside (s := t) tried (by simp)) (carriesRange_countAsk o _ _))
      | queued park => exact ih (h.beside (by simp))
      | done t results => exact ih tried

theorem Reached.runSignal (g : Signal) (h : Reached o s) : Reached o (runSignal g s) := by
  cases g with
  | countPass => exact h.countPassOver _
  | sessionPass => exact h.accessPass _
  | countOutPass c => exact h.accessPass _

theorem Reached.runSignals (n : Nat) (h : Reached o s) : Reached o (runSignals n s) := by
  induction n generalizing s with
  | zero => exact h
  | succ n ih =>
    unfold Machine.runSignals
    split
    · exact h
    · exact ih (Reached.runSignal _ (h.beside (by simp)))

/-! ## The end of an event, and requests (R189 to R195) -/

theorem Reached.ended (h : Reached o s) : Reached o (ended s) := h.beside (by simp [Machine.ended])

theorem Reached.finish (h : Reached o s) : Reached o (finish s) := by
  have passed := h.runSignals (passFuel s)
  unfold Machine.finish
  dsimp only
  split
  · exact passed.completionCheck.ended
  · exact passed.ended

theorem Reached.happening {effect : State → State} (h : Reached o s)
    (he : ∀ u, Reached o u → books u = books s → Reached o (effect u)) : Reached o (happening effect s) := by
  unfold Machine.happening
  split
  · exact Reached.finish (he _ (h.frame rfl rfl) rfl)
  · exact h

theorem Reached.framed {p : Port} {tag : Tag} {code : Nat} {after : State → State} (h : Reached o s)
    (ha : ∀ u, Reached o u → u.courier.bags = s.courier.bags → u.store = s.store → Reached o (after u)) :
    Reached o (framed p tag code after s) := by
  have heard' : Reached o (heard p { s with event := Scratch.empty }) := h.beside (by simp)
  unfold Machine.framed
  split
  · dsimp only
    split
    · exact Reached.finish (Reached.beside heard' (by simp))
    · refine Reached.finish (ha _ (Reached.beside heard' (by simp)) ?_ (by simp))
      cases p <;> simp [heard, modSession]
  · exact h

theorem Reached.request {q : Req} {code : Nat} {owner : State → State} (h : Reached o s)
    (ho : ∀ u, Reached o u → u.courier.bags = s.courier.bags → u.store = s.store → Reached o (owner u)) :
    Reached o (request q code owner s) := by
  refine h.framed fun u hu hb hs => ?_
  split
  · exact ho u hu hb hs
  · exact hu.answered ..

theorem Reached.immediate {q : Req} {code : Nat} {owner : State → Reply} (h : Reached o s)
    (ho : ∀ u, Reached o u → u.courier.bags = s.courier.bags → u.store = s.store → Reached o (owner u).state) :
    Reached o (immediate q code owner s) :=
  h.request fun u hu hb hs => (ho u hu hb hs).answered ..

end Sys2Proof.Machine
end

section
/-! Every command changes the books only as `Reached` allows, so the invariants of custody, ranges, records and till cash are kept by
every step (R6, R15, R17, R24, R33, R35, R42, R43, R47, R60). -/

namespace Sys2Proof.Machine

variable {o s : State}

/-! ## Replies that leave the books -/

/-- A reply that leaves the books and the waiting requests. -/
def Reply.Aside (r : Reply) (s : State) : Prop := books r.state = books s ∧ r.state.safe.waiters = s.safe.waiters

theorem Reached.aside {r : Reply} (h : Reached o s) (hr : r.Aside s) : Reached o r.state := h.frame hr.1 hr.2

theorem Reply.Aside.refuse (c : Code) (s : State) : (Reply.refuse c s).Aside s := ⟨rfl, rfl⟩

theorem Reply.Aside.ok {l : List Field} {s t : State} (hb : books t = books s)
    (hw : t.safe.waiters = s.safe.waiters) : (Reply.ok l t).Aside s := ⟨hb, hw⟩

theorem authorised_aside {level : Level} {q : Req} {owner : State → Reply} (h : (owner s).Aside s) :
    (authorised level q owner s).Aside s := by
  unfold authorised
  split
  · exact .refuse _ s
  · exact h

@[simp] theorem books_setStepBits (c : Container) (b : StepBits) (s : State) : books (setStepBits c b s) = books s := by
  simp [books]

/-! ## Configuration (R21, R53, R112, R121, R122, R154, R197, R211) -/

theorem replySetToleranceClass_aside (c a p : Nat) (s : State) : (replySetToleranceClass c a p s).Aside s := by
  unfold replySetToleranceClass
  repeat' split
  all_goals exact ⟨rfl, rfl⟩

theorem replySetLimit_aside (l : Coded Limit) (v : Nat) (s : State) : (replySetLimit l v s).Aside s := by
  unfold replySetLimit
  split
  · next l =>
    split
    · cases l with
      | autoPost =>
        refine .ok ?_ ?_ <;> dsimp only [putLimit] <;> split <;> rfl
      | _ => exact ⟨rfl, rfl⟩
    · exact .refuse _ s
  · exact .refuse _ s

theorem replySetCompartment_aside (c : Nat) (r : Coded CompRole) (l : Coded (Option Nat)) (s : State) :
    (replySetCompartment c r l s).Aside s := by
  unfold replySetCompartment
  repeat' split
  all_goals exact ⟨rfl, rfl⟩

theorem replySetCap_aside (c n : Nat) (s : State) : (replySetCap c n s).Aside s := by
  unfold replySetCap
  repeat' split
  all_goals exact ⟨rfl, rfl⟩

theorem replySetWindow_aside (w : Nat) (b c : Coded (Option Nat)) (s : State) : (replySetWindow w b c s).Aside s := by
  unfold replySetWindow
  dsimp only
  repeat' split
  all_goals exact ⟨rfl, rfl⟩

theorem replySetAuditStep_aside (c : Coded Container) (b : Coded Bool) (s : State) : (replySetAuditStep c b s).Aside s := by
  unfold replySetAuditStep
  split
  · exact .ok (by simp) (by simp)
  · exact .refuse _ s

theorem replySetRouting_aside (k : Coded NoticeKind) (p : Coded PortSet) (n : Nat) (s : State) :
    (replySetRouting k p n s).Aside s := by
  unfold replySetRouting
  repeat' split
  all_goals exact ⟨rfl, rfl⟩

theorem replyRestoreMemory_aside (s : State) : (replyRestoreMemory s).Aside s := by
  unfold replyRestoreMemory
  split <;> exact ⟨rfl, rfl⟩

/-! ## The station and the safe (R77, R91, R125 to R128, R141) -/

theorem replyRestoreCounter_aside (s : State) : (replyRestoreCounter s).Aside s := by
  unfold replyRestoreCounter
  split <;> exact ⟨rfl, rfl⟩

theorem replyResetOperations_aside (s : State) : (replyResetOperations s).Aside s := by
  refine .ok ?_ ?_ <;> unfold withdrawRunning <;> split <;> simp

theorem replyOpenRange_aside (a b : Nat) (s : State) : (replyOpenRange a b s).Aside s := by
  unfold replyOpenRange
  split
  · split
    · next h => exact openRangeTo_books h
    · exact .refuse _ s
  · exact .refuse _ s

theorem replyLockAll_aside (s : State) : (replyLockAll s).Aside s := by
  unfold replyLockAll
  split
  · next h => exact lockAllNow_books h
  · exact .refuse _ s

theorem replyThaw_aside (s : State) : (replyThaw s).Aside s := by
  unfold replyThaw
  split <;> exact ⟨rfl, rfl⟩

theorem aside_replyClearAlarm (c : Nat) (s : State) : (replyClearAlarm c s).Aside s := by
  unfold replyClearAlarm
  repeat' split
  all_goals exact ⟨rfl, rfl⟩

/-! ## Bags and windows (R147 to R156) -/

theorem replyNewBag_aside (c : Nat) (s : State) : (replyNewBag c s).Aside s := by
  unfold replyNewBag
  repeat' split
  all_goals exact ⟨rfl, rfl⟩

theorem replyCloseBag_aside (b n : Nat) (s : State) : (replyCloseBag b n s).Aside s := by
  unfold replyCloseBag
  repeat' split
  all_goals exact ⟨rfl, rfl⟩

theorem replyReopenBag_aside (b : Nat) (s : State) : (replyReopenBag b s).Aside s := by
  unfold replyReopenBag
  repeat' split
  all_goals exact ⟨rfl, rfl⟩

theorem replyFreeBag_aside (b : Nat) (s : State) : (replyFreeBag b s).Aside s := by
  unfold replyFreeBag
  repeat' split
  all_goals exact ⟨rfl, rfl⟩

theorem replyStageBag_aside (b w : Nat) (s : State) : (replyStageBag b w s).Aside s := by
  unfold replyStageBag
  dsimp only
  repeat' split
  all_goals exact ⟨rfl, rfl⟩

theorem replyDropBag_aside (b : Nat) (s : State) : (replyDropBag b s).Aside s := by
  unfold replyDropBag
  repeat' split
  all_goals exact ⟨rfl, rfl⟩

theorem replyOpenWindow_aside (w : Nat) (s : State) : (replyOpenWindow w s).Aside s := by
  unfold replyOpenWindow
  split
  · split
    · next h => exact openWindowAt_books h
    · exact .refuse _ s
  · exact .refuse _ s

theorem replyCloseWindow_aside (w : Nat) (s : State) : (replyCloseWindow w s).Aside s := by
  unfold replyCloseWindow
  split
  · exact .ok (by simp) (by simp)
  · exact .refuse _ s

/-! ## The handover session (R163 to R173) -/

theorem replyArrive_aside (w b : Nat) (s : State) : (replyArrive w b s).Aside s := by
  unfold replyArrive
  dsimp only
  repeat' split
  all_goals first | exact .refuse _ s | exact ⟨rfl, rfl⟩ | exact ⟨books_raise .., by simp [Reply.refuse, raiseBadgeRefused]⟩

theorem replyReadManifest_aside (s : State) : (replyReadManifest s).Aside s := by
  unfold replyReadManifest
  split <;> exact ⟨rfl, rfl⟩

theorem scanError_aside (x : Session) (s : State) :
    books (scanError x s) = books s ∧ (scanError x s).safe.waiters = s.safe.waiters := by
  unfold scanError
  dsimp only
  split <;> simp

theorem replyScanBag_aside (n : Nat) (s : State) : (replyScanBag n s).Aside s := by
  unfold replyScanBag
  split
  · exact .refuse _ s
  · split
    · exact .refuse _ s
    · split
      · exact ⟨rfl, rfl⟩
      · exact scanError_aside _ s

theorem replyDeclareInbound_aside (n : Nat) (v : Coded Counts) (s : State) : (replyDeclareInbound n v s).Aside s := by
  unfold replyDeclareInbound
  repeat' split
  all_goals exact ⟨rfl, rfl⟩

theorem replyDepart_aside (s : State) : (replyDepart s).Aside s := by
  unfold replyDepart
  split
  · exact .refuse _ s
  · exact .ok (by simp) (by simp)

/-! ## The journal and the reads -/

theorem replyReadJournal_aside (a b : Nat) (s : State) : (replyReadJournal a b s).Aside s := by
  unfold replyReadJournal
  split <;> exact ⟨rfl, rfl⟩

theorem replyArchive_aside (n : Nat) (s : State) : (replyArchive n s).Aside s := by
  unfold replyArchive
  split
  · exact ⟨books_journalMarks .., by simp [Reply.ok]⟩
  · exact .refuse _ s

theorem replyReadHolding_aside (p : Port) (c : Coded Container) (s : State) : (replyReadHolding p c s).Aside s := by
  unfold replyReadHolding
  repeat' split
  all_goals exact ⟨rfl, rfl⟩

theorem replyReadProfile_aside (n : Nat) (s : State) : (replyReadProfile n s).Aside s := by
  unfold replyReadProfile
  split <;> exact ⟨rfl, rfl⟩

theorem replyReadTill_aside (n : Nat) (s : State) : (replyReadTill n s).Aside s := by
  unfold replyReadTill
  split <;> exact ⟨rfl, rfl⟩

theorem replyReadResult_aside (n : Nat) (s : State) : (replyReadResult n s).Aside s := by
  unfold replyReadResult
  split <;> exact ⟨rfl, rfl⟩

theorem replyReadTray_aside (n : Nat) (s : State) : (replyReadTray n s).Aside s := by
  unfold replyReadTray
  split <;> exact ⟨rfl, rfl⟩

theorem replyReadBag_aside (n : Nat) (s : State) : (replyReadBag n s).Aside s := by
  unfold replyReadBag
  split <;> exact ⟨rfl, rfl⟩

theorem replyReadWindow_aside (p : Port) (n : Nat) (s : State) : (replyReadWindow p n s).Aside s := by
  unfold replyReadWindow
  split <;> exact ⟨rfl, rfl⟩

end Sys2Proof.Machine
end

section
/-! The commands that change the books, and every step. -/

namespace Sys2Proof.Machine

variable {o s : State}

/-! ## The tables (R2, R17, R44, R67) -/

theorem Reached.replySetDenomination (i : Nat) (st : Coded DenomStatus) (face : Nat) (form : Coded Form) (pack mass : Nat)
    (h : Reached o s) : Reached o (replySetDenomination i st face form pack mass s).state := by
  unfold Machine.replySetDenomination
  split
  · exact h
  · split
    · next i e _ _ =>
      split
      · exact h
      · split
        · exact h
        · next keep =>
          refine h.denomination i e fun ⟨c, hc⟩ => ?_
          have held : heldSomewhere s i = true :=
            List.any_eq_true.mpr ⟨c, mem_containers c, by simpa using hc⟩
          simp only [held, reshapes, Bool.true_and, Bool.or_eq_true, decide_eq_true_eq, not_or, not_not] at keep
          obtain ⟨⟨⟨⟨-, face⟩, form⟩, pack⟩, -⟩ := keep
          exact ⟨face.symm, form.symm, pack.symm⟩
    · exact h

theorem operatorPlace_some {n : Nat} {i : Fin 32} (h : operatorPlace s n = some i) :
    ∃ e, look s.store.operators i = some e ∧ e.number = n := by
  simpa [Option.any_eq_true] using List.find?_some h

theorem operatorPlace_none {n : Nat} (h : operatorPlace s n = none) (i : Fin 32) (e : OperatorEntry)
    (he : look s.store.operators i = some e) : e.number ≠ n := by
  have := List.find?_eq_none.mp h i (List.mem_finRange i)
  simpa [he] using this

/-- An entry under a number that no other entry holds leaves the numbers distinct (R17). -/
theorem operatorsHold_put {i : Fin 32} {e : Option OperatorEntry}
    (he : ∀ x, e = some x → ∀ j y, look s.store.operators j = some y → y.number = x.number → j = i)
    (hs : OperatorsHold s) : OperatorsHold (putOperator i e s) := by
  intro j k x y hx hy hn
  simp only [putOperator, look_put] at hx hy
  split at hx <;> split at hy
  · simp_all
  · next hj hk => rw [hj]; exact (he x hx k y hy hn.symm).symm
  · next hj hk => rw [hk]; exact he y hy j x hx hn
  · exact hs j k x y hx hy hn

theorem Reached.replySetOperator (n : Nat) (r : Coded RoleArg) (st : Coded Standing) (h : Reached o s) :
    Reached o (replySetOperator n r st s).state := by
  unfold Machine.replySetOperator
  split
  · split
    · exact h
    · split
      · next i _ => exact h.operator i none (operatorsHold_put (by simp))
      · exact h
      · next x i hi =>
        obtain ⟨e, he, hn⟩ := operatorPlace_some hi
        refine h.operator i _ fun hs => operatorsHold_put (fun z hz j y hy hyn => ?_) hs
        cases hz
        exact hs j i y e hy he (hyn.trans hn.symm)
      · next hn =>
        split
        · refine h.operator _ _ (operatorsHold_put fun z hz j y hy hyn => ?_)
          cases hz
          exact absurd hyn (operatorPlace_none hn j y hy)
        · exact h
  · exact h

theorem countsInRange_of_unsigned {v : Counts} {a : Coded Counts} (h : unsignedArg s a = some v) : countsInRange v := by
  cases a with
  | bad => cases h
  | ok u =>
    simp only [unsignedArg] at h
    split at h
    · next ok =>
      cases h
      simp only [unsignedOk, Bool.and_eq_true, List.all_eq_true, List.mem_finRange, true_implies, decide_eq_true_eq] at ok
      exact ok.1
    · cases h

theorem Reached.replySetFloatProfile (i : Nat) (a : Coded (Option ProfileArg)) (h : Reached o s) :
    Reached o (replySetFloatProfile i a s).state := by
  unfold Machine.replySetFloatProfile
  split
  · exact h
  · split
    · exact h.profile _ _ countsInRange_zero
    · exact h
  · split
    · next hv _ =>
      split
      · exact h
      · split
        · exact h
        · exact h.profile _ _ (countsInRange_of_unsigned hv)
    · exact h

theorem Reached.replySetTill (i n k : Nat) (h : Reached o s) : Reached o (replySetTill i n k s).state := by
  unfold Machine.replySetTill
  split
  · split
    · exact h
    · next i k _ _ _ =>
      have changed : Reached o (modTill i (fun r => { r with limit := n, cls := k }) s) := h.note i _ rfl rfl rfl
      dsimp only [Reply.ok]
      split
      · exact changed
      · exact changed.evaluate i
  · exact h

theorem Reached.releaseStepOf (q : Req) (c : Container) (h : Reached o s) : Reached o (releaseStepOf q c s) := by
  unfold Machine.releaseStepOf
  split
  · have answered : Reached o (answer q.port q.tag .ok 0 [] (setStepBits c { flag := (stepBits s c).flag, mark := false } s)) :=
      h.beside (by simp)
    exact Reached.beside (answered.stepPass c) (by simp)
  · exact h.answered ..

/-! ## The day (R25 to R39) -/

theorem Reached.closeTheDay (q : Req) (h : Reached o s) (opened : s.day.state = .opened) : Reached o (closeTheDay q s) := by
  have closing := h.dayNote (fun d => { d with state := .closing }) rfl rfl rfl rfl fun _ => by simp [opened]
  exact Reached.completionCheck (Reached.beside closing (by simp))

theorem Reached.replyReopen (h : Reached o s) : Reached o (replyReopen s).state := by
  unfold Machine.replyReopen
  split
  · next closing =>
    exact (h.dayNote (fun d => { d with state := .opened }) rfl rfl rfl rfl fun _ => by simp [closing]).raised _ _ _
  · exact h

theorem Reached.replySetClock (n : Nat) (h : Reached o s) : Reached o (replySetClock n s).state := by
  have clock : clockSet s.day n ≤ 86399 := by
    unfold clockSet
    split <;> exact Nat.min_le_right _ _
  have moved : Reached o (modDay (fun d => { d with clock := clockSet s.day n }) s) :=
    h.day _ (fun ⟨hn, _, hp, hl⟩ => ⟨hn, clock, hp, hl⟩) id
  unfold Machine.replySetClock
  dsimp only [Reply.ok]
  split
  · exact moved.catchUp
  · exact moved

theorem Reached.replyLoadPlanEntry (i n : Nat) (a : Coded PlanArg) (h : Reached o s) :
    Reached o (replyLoadPlanEntry i n a s).state := by
  unfold Machine.replyLoadPlanEntry
  split
  · next i a _ _ =>
    dsimp only
    split
    · exact h
    · split
      · exact h
      · split
        · exact h
        · next ordered =>
          exact h.day (fun d => { d with plan := put s.day.plan i { time := n, action := a } })
            (fun ⟨hn, hc, hp, _⟩ => ⟨hn, hc, hp, by simpa using ordered⟩) id
  · exact h

theorem Reached.replyHoldPlan (h : Reached o s) : Reached o (replyHoldPlan s).state := by
  unfold Machine.replyHoldPlan
  split
  · exact h.dayNote (fun d => { d with planState := .held }) rfl rfl rfl rfl id
  · exact h

theorem Reached.replyResumePlan (h : Reached o s) : Reached o (replyResumePlan s).state := by
  unfold Machine.replyResumePlan
  split
  · exact (h.dayNote (fun d => { d with planState := .running }) rfl rfl rfl rfl id).catchUp
  · exact h

/-! ## Tills (R48 to R66) -/

theorem Reached.floatRequest (q : Req) (code : Nat) (level : Level) (ask : Option FloatAsk) (h : Reached o s) :
    Reached o (floatRequest q code level ask s) := by
  refine h.request fun u hu _ _ => ?_
  split
  · exact hu.answered ..
  · exact hu.answered ..
  · exact hu.floatArrival ..

theorem Reached.replyTakingsUpdate (i n : Nat) (h : Reached o s) : Reached o (replyTakingsUpdate i n s).state := by
  unfold Machine.replyTakingsUpdate
  split
  · dsimp only
    split
    · exact h
    · split
      · exact h
      · exact Reached.evaluate _ (h.note _ _ rfl rfl rfl)
  · exact h

theorem Reached.afterFinal (i : TillIx) (h : Reached o s) : Reached o (afterFinal i s) := by
  unfold Machine.afterFinal
  dsimp only
  split
  · exact h.evaluate i
  · next held =>
    split
    · exact h.lateFinal i (tillWorth_held held)
    · exact h
  all_goals exact h

theorem Reached.replyFinalTakings (i n : Nat) (h : Reached o s) : Reached o (replyFinalTakings i n s).state := by
  unfold Machine.replyFinalTakings
  split
  · split
    · exact h
    · split
      · exact h
      · exact Reached.afterFinal _ (h.note _ _ rfl rfl rfl)
  · exact h

/-- One pouch more keeps a till within its limits, where it has room (R60, R61). -/
theorem tillOk_newPouch {r : TillRec} {n : Nat} (ho : openPouches r < 4) (hl : r.pouches.length < 255) (h : TillOk r) :
    TillOk { r with pouches := r.pouches ++ [newPouch r n] } := by
  refine ⟨h.topups, ?_, ?_, ?_⟩
  · have : openPouches { r with pouches := r.pouches ++ [newPouch r n] } = openPouches r + 1 := by
      simp [openPouches, newPouch, List.filter_append]
    omega
  · simpa using hl
  · simp [h.numbers, newPouch, List.range_succ]

theorem Reached.replyRequestPickup (i n : Nat) (h : Reached o s) : Reached o (replyRequestPickup i n s).state := by
  unfold Machine.replyRequestPickup
  split
  · dsimp only
    split
    · exact h
    · split
      · exact h
      · split
        · exact h
        · next room =>
          simp only [Bool.or_eq_true, decide_eq_true_eq, not_or, not_le] at room
          exact Reached.evaluate _ (h.record _ _ (tillOk_newPouch room.1 room.2) rfl)
  · exact h

theorem Reached.replyReceivePouch (i n : Nat) (h : Reached o s) : Reached o (replyReceivePouch i n s).state := by
  unfold Machine.replyReceivePouch
  split
  · split
    · next p hp =>
      split
      · next out =>
        have received : p.state ≠ .counted := by simp [out]
        exact (h.record _ _ (TillOk.pouchChanged hp rfl rfl (by intro; rfl) (.inl received)) rfl).reported
      · exact h
    · exact h
  · exact h

theorem Reached.dismissTopups (i : TillIx) (h : Reached o s) : Reached o (dismissTopups i s) := h.beside (by simp)

theorem Reached.replySignOff (i : Nat) (h : Reached o s) : Reached o (replySignOff i s).state := by
  unfold Machine.replySignOff
  split
  · next i _ =>
    dsimp only
    split
    · exact h
    · split
      · exact h
      · exact (h.note i (fun r => { r with signedOff := true }) rfl rfl rfl).dismissTopups i
  · exact h

theorem replyWithdrawTill_aside (i : Nat) (s : State) : (replyWithdrawTill i s).Aside s := by
  unfold replyWithdrawTill
  split
  · exact .ok (by simp) (by simp)
  · exact .refuse _ s

/-- A till moved between the states in which its drawer is out (R43). -/
theorem Reached.moveTill (i : TillIx) (st : TillState) (h : Reached o s)
    (hf : (tillOf s i).state = .trading ∨ (tillOf s i).state = .suspended)
    (ht : st = .trading ∨ st = .returned ∨ st = .suspended) : Reached o (moveTill i st s) := by
  refine (h.note i (fun r => { r with state := st }) rfl rfl ?_).reported
  obtain hf | hf := hf <;> obtain rfl | rfl | rfl := ht <;> simp [tillWorth, hf]

theorem Reached.replyReturnDrawer (i : Nat) (h : Reached o s) : Reached o (replyReturnDrawer i s).state := by
  unfold Machine.replyReturnDrawer
  split
  · next i _ =>
    dsimp only
    split
    · exact h
    · split
      · exact h
      · next out =>
        have out : (tillOf s i).state = .trading ∨ (tillOf s i).state = .suspended := by
          simpa [or_iff_not_imp_left] using out
        exact (h.moveTill i .returned out (.inr (.inl rfl))).dismissTopups i
  · exact h

theorem Reached.replySuspendTill (i : Nat) (h : Reached o s) : Reached o (replySuspendTill i s).state := by
  unfold Machine.replySuspendTill
  split
  · next i _ =>
    split
    · exact h
    · next trades => exact (h.moveTill i .suspended (.inl (not_not.mp trades)) (.inr (.inr rfl))).dismissTopups i
  · exact h

theorem Reached.replyRestoreTill (i : Nat) (h : Reached o s) : Reached o (replyRestoreTill i s).state := by
  unfold Machine.replyRestoreTill
  split
  · next i _ =>
    split
    · exact h
    · split
      · exact h
      · next rests => exact (h.moveTill i .trading (.inr (not_not.mp rests)) (.inl rfl)).evaluate i
  · exact h

/-! ## Counting, posting and the safe (R80 to R136) -/

theorem Reached.accessRequest (q : Req) (level : Level) (req : Option AccessReq) (h : Reached o s)
    (hr : ∀ r, req = some r → CarriesRange o r) : Reached o (accessRequest q level req s) := by
  unfold Machine.accessRequest
  split
  · exact h.answered ..
  · exact h.answered ..
  · exact h.accessArrival _ _ _ _ (hr _ rfl)

theorem carries_startArg {u : State} {src : Coded SourceArg} {tray : Coded (Option Nat)} {n : Nat} {r : AccessReq}
    (h : startArg u src tray n = some r) : CarriesRange o r := by
  unfold startArg at h
  split at h
  · split at h <;> cases h
    exact fun _ v hv => nomatch hv
  · cases h

theorem carries_postArg {u : State} {t : Nat} {r : AccessReq} (h : postArg u t = some r) : CarriesRange o r := by
  obtain ⟨_, _, rfl⟩ := Option.map_eq_some_iff.mp h
  exact fun _ v hv => nomatch hv

theorem carries_transferArg {a b : Nat} {v : Counts} {r : AccessReq} (hv : countsInRange v)
    (h : transferArg a b v = some r) : CarriesRange o r := by
  unfold transferArg at h
  split at h
  · split at h <;> cases h
    exact fun _ w hw => by cases hw; exact hv
  · cases h

theorem carries_fillArg {a b : Nat} {v : Counts} {r : AccessReq} (hv : countsInRange v)
    (h : fillArg a b v = some r) : CarriesRange o r := by
  unfold fillArg at h
  split at h
  · split at h <;> cases h
    exact fun _ w hw => by cases hw; exact hv
  · cases h

theorem carries_adjustArg {a : Nat} {v : Counts} {r : AccessReq} (h : adjustArg a v = some r) : CarriesRange o r := by
  unfold adjustArg at h
  split at h
  · split at h <;> cases h
    exact fun _ w hw => nomatch hw
  · cases h

theorem Reached.vectorRequest (q : Req) (level : Level) (vec : Option Counts) (arg : Counts → Option AccessReq) (h : Reached o s)
    (hr : ∀ v r, vec = some v → arg v = some r → CarriesRange o r) : Reached o (vectorRequest q level vec arg s) := by
  unfold Machine.vectorRequest
  split
  · exact h.answered ..
  · next v => exact h.accessRequest _ _ _ fun r e => hr v r rfl e

theorem Reached.recountOwner (q : Req) (t n : Nat) (h : Reached o s) : Reached o (recountOwner q t n s) := by
  unfold Machine.recountOwner
  split
  · exact h.answered ..
  · exact h.answered ..
  · next t _ _ =>
    split
    · have tried := h.recountTry q.port q.tag [q.op1] t n
      unfold recountArrival
      generalize Machine.recountTry q.port q.tag [q.op1] t n s = a at tried
      cases a with
      | refused c u => exact Reached.answered _ _ _ _ _ tried
      | parked r c u => exact tried
      | done u results => exact tried
      | running u => exact tried
      | queued park => exact h.beside (by simp)
    · exact h.answered ..

theorem Reached.manualOwner (q : Req) (t : Nat) (vec : Coded Counts) (src : Coded (Option SourceArg)) (h : Reached o s) :
    Reached o (manualOwner q t vec src s) := by
  unfold Machine.manualOwner
  split
  · exact h.answered ..
  · exact h.answered ..
  · next v t src hv _ _ =>
    have range : countsInRange v := countsInRange_of_unsigned hv
    unfold manualByState
    split
    · split
      · exact h.answered ..
      · refine h.accessArrival _ _ _ _ fun _ w hw => ?_
        cases hw
        exact range
    · refine Reached.answered _ _ _ _ _ ?_
      have tried := h.manualInvalid q.port [q.op1, q.op2] t v fun _ => range
      unfold invalidReply
      generalize Machine.manualInvalid q.port [q.op1, q.op2] t v s = a at tried
      cases a with
      | queued park => exact h
      | _ => exact tried
    all_goals exact h.answered ..
  · exact h.answered ..

theorem Reached.replyAcceptVariance (q : Req) (i : Nat) (h : Reached o s) : Reached o (replyAcceptVariance q i s).state := by
  unfold Machine.replyAcceptVariance
  split
  · exact h
  · next i _ =>
    dsimp only
    split
    · split
      · split
        · exact h
        · next held =>
          split
          · exact h
          · simp only [Bool.or_eq_true, decide_eq_true_eq, not_or, not_not] at held
            exact Reached.settleTill i _ (h.beside (by simp)) (tillWorth_held held.1)
      · exact h
    · exact h

/-! ## The confirmation of a handover (R171, R172) -/

/-- Movements of one event that pass their checks, each on the holdings the earlier ones would leave (R12), applied in order. -/
theorem Reached.takenAll {need : Nat} {ms : List Movement} {u : State} (h : Reached o u)
    (same : ∀ c, holding u c = holding s c) (pass : checkEvent need ms s = .pass)
    (hm : ∀ m ∈ ms, m.Entered ∧ (∀ i, .till i ∉ m.ends) ∧ (RangesHold o → countsInRange m.vec)) :
    Reached o (ms.foldl (fun acc m => applyMove m acc) u) := by
  induction ms generalizing s u with
  | nil => exact h
  | cons m ms ih =>
    obtain ⟨first, rest⟩ := checkEvent_cons_pass pass
    obtain ⟨entered, free, range⟩ := hm m List.mem_cons_self
    have held (c : Container) : heldAfter m u c = heldAfter m s c := heldAfter_congr m c (same c)
    have moved : Reached o (applyMove m u) := by
      refine h.moved m entered (fun ho hu => ?_) free
      have before (c : Container) : countsInRange (holding s c) := same c ▸ hu.holdings c
      exact fun c hc => held c ▸ inRange_of_pass first (.inr (range ho)) before c hc
    refine ih moved (fun c => ?_) rest fun k hk => hm k (List.mem_cons_of_mem m hk)
    rw [holding_applyMove, holding_moveHoldings_eq, held]

theorem Reached.replyConfirmHandover (k : BitVec 16) (h : Reached o s) : Reached o (replyConfirmHandover k s).state := by
  unfold Machine.replyConfirmHandover
  split
  · exact h
  · next x _ =>
    split; · exact h
    split; · exact h
    split; · exact h
    split
    · exact h
    · exact h
    · next pass =>
      have applied : Reached o ((handoverMoves x s).foldl (fun acc m => applyMove m acc) s) := by
        have each : ∀ m ∈ handoverMoves x s,
            m.Entered ∧ (∀ i, .till i ∉ m.ends) ∧ (RangesHold o → countsInRange m.vec) := by
          intro m hm
          obtain hm | hm := List.mem_append.mp hm <;> obtain ⟨b, _, rfl⟩ := List.mem_map.mp hm
          · exact ⟨⟨rfl, rfl⟩, fun i => by simp [Movement.ends, handMove], fun ho => (h.ranges ho).holdings _⟩
          · exact ⟨.inr rfl, fun i => by simp [Movement.ends, receiveMove], fun _ => countsInRange_zero⟩
        unfold confirmCheck at pass
        dsimp only at pass
        split at pass
        · next none' => rw [List.isEmpty_iff.mp none']; exact h
        · exact h.takenAll (fun _ => rfl) pass each
      refine (Reached.storeEvent false applied).frame ?_ ?_
      · simp only [Reply.ok, confirmed, books_raise, books_endSession]
        simp [books]
      · simp [Reply.ok, confirmed]

/-! ## Withdrawal, frames and lines (R54, R90, R132, R190, R194) -/

theorem Reached.withdrawTag (p : Port) (tag : Tag) (h : Reached o s) : Reached o (withdrawTag p tag s) := by
  unfold Machine.withdrawTag
  split
  · split <;> exact h.beside (by simp)
  · exact (Reached.discardAccess _ (h.beside (by simp))).answered ..
  all_goals exact h

theorem Reached.replyWithdraw (p : Port) (tags : BitVec 8) (h : Reached o s) : Reached o (replyWithdraw p tags s).state :=
  h.fold fun t _ _ hu => hu.withdrawTag p t

theorem Reached.abortAny (k : AbortCause) (h : Reached o s) : Reached o (abortAny k s) := h.beside (by simp)

theorem Reached.dropRequests (p : Port) (h : Reached o s) : Reached o (dropRequests p s) := by
  have dropped (runs : Bool) : Reached o (Machine.discardAccess (fun w => w.port == p) (discardCounts (fun w => w.port == p)
      (if runs then abandonCount (discardFloats (fun w => w.port == p) s) else discardFloats (fun w => w.port == p) s))) := by
    refine Reached.discardAccess _ ?_
    split <;> exact h.beside (by simp)
  unfold Machine.dropRequests
  dsimp only
  cases p with
  | courier => exact (dropped _).abortAny _
  | _ => exact dropped _

/-! ## Timers, the supply and power return (R31, R209 to R212) -/

theorem Reached.floatExpires (p : Port) (tag : Tag) (h : Reached o s) : Reached o (floatExpires p tag s) := by
  unfold Machine.floatExpires
  split
  · split
    · exact h.beside (by simp)
    · exact h
  · exact h

theorem Reached.countExpires (p : Port) (tag : Tag) (h : Reached o s) : Reached o (countExpires p tag s) := by
  unfold Machine.countExpires
  split
  · split
    · exact h.beside (by simp)
    · exact h
  · exact h

theorem Reached.accessExpires (b : Bool) (n d : Nat) (p : Port) (tag : Tag) (h : Reached o s) :
    Reached o (accessExpires b n d p tag s) := by
  unfold Machine.accessExpires
  split
  · split
    · exact (h.discardAccess _).answered ..
    · exact h
  · exact h

theorem Reached.latchExpires (c : CompIx) (h : Reached o s) : Reached o (latchExpires c s) := by
  unfold Machine.latchExpires
  split
  · exact h.beside (by simp)
  · exact h

theorem Reached.heldExpires (c : CompIx) (h : Reached o s) : Reached o (heldExpires c s) := by
  unfold Machine.heldExpires
  dsimp only
  split
  · split
    · exact h.beside (by simp)
    · exact h
  · exact h

theorem Reached.idleExpires (h : Reached o s) : Reached o (idleExpires s) := by
  unfold Machine.idleExpires
  split
  · split
    · exact h.beside (by simp)
    · exact h
  · exact h

theorem Reached.doorOpened (c : CompIx) (h : Reached o s) : Reached o (doorOpened c s) := by
  unfold Machine.doorOpened
  dsimp only
  repeat' split
  all_goals first | exact h | exact h.beside (by simp)

theorem Reached.doorClosed (c : CompIx) (h : Reached o s) : Reached o (doorClosed c s) := h.frame rfl rfl

theorem Reached.readyTaken (h : Reached o s) : Reached o (readyTaken s) := by
  unfold Machine.readyTaken
  repeat' split
  all_goals first | exact h | exact h.beside (by simp)

theorem Reached.selectAnswered (bs : List Byte) (h : Reached o s) : Reached o (selectAnswered bs s) := by
  unfold Machine.selectAnswered
  repeat' split
  all_goals first | exact h | exact h.beside (by simp)

theorem Reached.setUpAnswered (bs : List Byte) (h : Reached o s) : Reached o (setUpAnswered bs s) := by
  unfold Machine.setUpAnswered
  repeat' split
  all_goals first | exact h | exact h.beside (by simp)

theorem Reached.statusAnswered (bs : List Byte) (h : Reached o s) : Reached o (statusAnswered bs s) := by
  unfold Machine.statusAnswered
  repeat' split
  all_goals first | exact h | exact h.beside (by simp)

theorem Reached.resultAnswered (bs : List Byte) (h : Reached o s) : Reached o (resultAnswered bs s) := by
  unfold Machine.resultAnswered
  split
  · split
    · exact h.resultTaken _
    · exact h.beside (by simp)
  · exact h

theorem Reached.abandonAnswered (h : Reached o s) : Reached o (abandonAnswered s) := by
  unfold Machine.abandonAnswered
  split
  · exact h.beside (by simp)
  · exact h

theorem Reached.exchangeFails (h : Reached o s) : Reached o (exchangeFails s) := by
  unfold Machine.exchangeFails
  repeat' split
  all_goals first | exact h | exact h.beside (by simp)

theorem Reached.stepExpires (h : Reached o s) : Reached o (stepExpires s) := by
  unfold Machine.stepExpires
  repeat' split
  all_goals first | exact h | exact h.beside (by simp)

theorem Reached.owedFloatPass (h : Reached o s) : Reached o (owedFloatPass s) := by
  unfold Machine.owedFloatPass
  split
  · exact h
  · exact Reached.floatPass (h.frame rfl rfl)

theorem tickClock_le (d : DayUnit) : tickClock d ≤ 86399 := by
  unfold tickClock
  split
  · next lt => exact lt
  · split <;> decide

theorem Reached.tickTimers (h : Reached o s) : Reached o (tickTimers s) := by
  refine h.fewer rfl fun w hw => ?_
  obtain ⟨x, hx, rfl⟩ := List.mem_map.mp hw
  exact ⟨x, hx, rfl⟩

theorem Reached.tickLimits (h : Reached o s) : Reached o (tickLimits s) := h.frame rfl rfl

theorem Reached.tickDay (h : Reached o s) : Reached o (tickDay s) := by
  have ticked := h.day (fun d => { d with clock := tickClock d, clockLimit := d.clockLimit || limitReached s.day })
    (fun ⟨hn, _, hp, hl⟩ => ⟨hn, tickClock_le _, hp, hl⟩) id
  unfold Machine.tickDay
  dsimp only
  split
  · exact ticked.raised _ _ _
  · exact ticked

theorem Reached.tickCut (h : Reached o s) : Reached o (tickCut s) := by
  unfold Machine.tickCut
  exact h.day _ (fun ⟨hn, _, hp, hl⟩ => ⟨hn, tickClock_le _, hp, hl⟩) id

theorem Reached.returnDay (h : Reached o s) : Reached o (returnDay s) := by
  unfold Machine.returnDay
  dsimp only
  split
  · exact (h.catchUp.dayNote (fun d => { d with limitOwed := false }) rfl rfl rfl rfl id).raised _ _ _
  · exact h.catchUp

theorem Reached.reportedCheck (h : Reached o s) : Reached o (reportedCheck s) := by
  unfold Machine.reportedCheck
  split
  · exact Reached.completionCheck (h.frame rfl rfl)
  · exact h

theorem Reached.compareWords (h : Reached o s) : Reached o (compareWords s) := by
  unfold Machine.compareWords
  dsimp only
  split
  · exact h
  · exact Reached.raised _ _ _ (h.frame rfl rfl)

theorem Reached.warmStart (doors : List CompIx) (spacing : List Port) (drift : BitVec 32) (h : Reached o s) :
    Reached o (warmStart doors spacing drift s) := by
  have returned (u : State) (hu : Reached o u) : Reached o (returnCount (resetPorts spacing u)) :=
    (hu.beside (by simp [resetPorts, books]) : Reached o (resetPorts spacing u)).beside
      (by simp [returnCount])
  have emptied (u : State) (hu : Reached o u) : Reached o (returnSafe doors (returnRecon (returnFloat u))) :=
    hu.fewer rfl fun w hw => nomatch hw
  unfold Machine.warmStart
  dsimp only
  refine Reached.finish (Reached.returnDay (Reached.reportedCheck (Reached.compareWords ?_)))
  have began : Reached o
      { setSupply .good { s with event := Scratch.empty } with
        retention := { (setSupply .good { s with event := Scratch.empty }).retention with
          drift := (setSupply .good { s with event := Scratch.empty }).retention.drift + drift } } := h.frame rfl rfl
  exact ((emptied _ (returned _ began)).abortAny .powerReturn).frame rfl rfl

end Sys2Proof.Machine
end

section
/-! Every command leads through changes of the books (`Reached`); the invariants of holdings and records follow for every step. -/

namespace Sys2Proof.Machine

variable {o s : State}

/-! ## Commands by the shape of their entry -/

/-- A happening reaches what its effect does. -/
theorem Reached.event {effect : State → State} (he : ∀ u, Reached s u → Reached s (effect u)) :
    Reached s (Machine.happening effect s) :=
  Reached.origin.happening fun u hu _ => he u hu

/-- A request reaches what its owner does. -/
theorem Reached.asked {q : Req} {code : Nat} {owner : State → State} (ho : ∀ u, Reached s u → Reached s (owner u)) :
    Reached s (Machine.request q code owner s) :=
  Reached.origin.request fun u hu _ _ => ho u hu

/-- A request answered at once reaches its reply's state. -/
theorem Reached.replied {q : Req} {code : Nat} {owner : State → Reply} (ho : ∀ u, Reached s u → Reached s (owner u).state) :
    Reached s (Machine.immediate q code owner s) :=
  Reached.origin.immediate fun u hu _ _ => ho u hu

/-- A request whose reply leaves the books. -/
theorem Reached.besides {q : Req} {code : Nat} {owner : State → Reply} (ho : ∀ u, (owner u).Aside u) :
    Reached s (Machine.immediate q code owner s) :=
  Reached.replied fun u hu => hu.aside (ho u)

/-! ## The commands one by one -/

theorem exec_openDay (q : Req) : Reached s (immediate q ReqCode.openDay replyOpenDay s) :=
  Reached.origin.immediate fun u hu hb hs => by
    unfold replyOpenDay
    split
    · exact hu.openTheDay hb (by rw [hs])
    · exact hu

theorem exec_closeDay (q : Req) :
    Reached s (request q ReqCode.closeDay
      (fun s => if s.day.state = .opened then closeTheDay q s else answer q.port q.tag .badState 0 [] s) s) :=
  Reached.asked fun u hu => by
    split
    · next h => exact hu.closeTheDay q h
    · exact hu.answered ..

theorem exec_releaseStep (q : Req) (a : Coded Container) :
    Reached s (request q ReqCode.releaseStep
      (fun s => match stepContainer a with
        | some c => releaseStepOf q c s
        | none => answer q.port q.tag .badOperand 0 [] s) s) :=
  Reached.asked fun u hu => by
    split
    · exact hu.releaseStepOf ..
    · exact hu.answered ..

theorem exec_badTagFrame (p : Port) (tag code : Nat) :
    Reached s (if canReceive s p && decide (7 < tag) then
      finish (modPort p (malformedTag tag code) (heard p { s with event := Scratch.empty })) else s) := by
  split
  · exact Reached.finish (Reached.beside (Reached.beside .origin (by simp) : Reached s (heard p { s with event := Scratch.empty })) (by simp))
  · exact .origin

theorem exec_linkReset (p : Port) :
    Reached s (if (portOf s p).link = .brk then s
      else happening (fun s => dropRequests p (modPort p PortRec.afterBreak s)) s) := by
  split
  · exact .origin
  · exact Reached.event fun u hu => Reached.dropRequests p (Reached.beside hu (by simp))

theorem exec_linkReturnsMarking (p : Port) :
    Reached s (if (portOf s p).link = .brk then happening (modPort p fun r => { r with link := .quiet }) s else s) := by
  split
  · exact Reached.event fun u hu => Reached.beside hu (by simp)
  · exact .origin

theorem exec_clockTick :
    Reached s (match s.retention.supply with
      | .good => happening (fun s => tickDay (tickTimers (tickLimits s))) s
      | .cut => tickCut (tickLimits s)
      | .dead => s) := by
  split
  · exact Reached.event fun u hu => hu.tickLimits.tickTimers.tickDay
  · exact Reached.origin.tickLimits.tickCut
  · exact .origin

theorem exec_mainSupplyLoss (backup : Bool) :
    Reached s (if s.retention.supply = .good then setSupply (if backup then .cut else .dead) s else s) := by
  split
  · exact Reached.origin.frame rfl rfl
  · exact .origin

theorem exec_backupSupplyLoss : Reached s (if s.retention.supply = .cut then setSupply .dead s else s) := by
  split
  · exact Reached.origin.frame rfl rfl
  · exact .origin

theorem exec_powerReturn (doors : List CompIx) (spacing : List Port) (drift : BitVec 32) :
    Reached s (match s.retention.supply with
      | .good => s
      | .cut => warmStart doors spacing drift s
      | .dead => coldStart doors spacing s) := by
  split
  · exact .origin
  · exact Reached.origin.warmStart doors spacing drift
  · exact .cold doors spacing .origin

/-- Every command leads through changes of the books. -/
theorem exec_reached (i : Instr) (s : State) : ∃ t, exec i s = .next t ∧ Reached s t := by
  cases i with
  | setDenomination h index status face form pack mass =>
    exact ⟨_, rfl, .replied fun u hu => hu.replySetDenomination index status face form pack mass⟩
  | setOperator h number role standing => exact ⟨_, rfl, .replied fun u hu => hu.replySetOperator number role standing⟩
  | setFloatProfile h index profile => exact ⟨_, rfl, .replied fun u hu => hu.replySetFloatProfile index profile⟩
  | setTill h till limit cls => exact ⟨_, rfl, .replied fun u hu => hu.replySetTill till limit cls⟩
  | setToleranceClass h cls a p => exact ⟨_, rfl, .besides (replySetToleranceClass_aside cls a p)⟩
  | setLimit h limit value => exact ⟨_, rfl, .besides (replySetLimit_aside limit value)⟩
  | setCompartment h comp role link => exact ⟨_, rfl, .besides (replySetCompartment_aside comp role link)⟩
  | setCap h comp cap => exact ⟨_, rfl, .besides (replySetCap_aside comp cap)⟩
  | setWindow h window badge comp => exact ⟨_, rfl, .besides (replySetWindow_aside window badge comp)⟩
  | setAuditStep h container on => exact ⟨_, rfl, .besides (replySetAuditStep_aside container on)⟩
  | releaseStep h container => exact ⟨_, rfl, exec_releaseStep h container⟩
  | setRouting h kind ports priority => exact ⟨_, rfl, .besides (replySetRouting_aside kind ports priority)⟩
  | restoreMemory h => exact ⟨_, rfl, .besides fun u => authorised_aside (replyRestoreMemory_aside u)⟩
  | openDay h => exact ⟨_, rfl, exec_openDay h⟩
  | closeDay h => exact ⟨_, rfl, exec_closeDay h⟩
  | reopen h => exact ⟨_, rfl, .replied fun u hu => hu.replyReopen⟩
  | setClock h time => exact ⟨_, rfl, .replied fun u hu => hu.replySetClock time⟩
  | loadPlanEntry h index time action => exact ⟨_, rfl, .replied fun u hu => hu.replyLoadPlanEntry index time action⟩
  | holdPlan h => exact ⟨_, rfl, .replied fun u hu => hu.replyHoldPlan⟩
  | resumePlan h => exact ⟨_, rfl, .replied fun u hu => hu.replyResumePlan⟩
  | issueFloat h till profile => exact ⟨_, rfl, Reached.origin.floatRequest ..⟩
  | requestFloat h till profile => exact ⟨_, rfl, Reached.origin.floatRequest ..⟩
  | requestTopup h till value => exact ⟨_, rfl, Reached.origin.floatRequest ..⟩
  | takingsUpdate h till value => exact ⟨_, rfl, .replied fun u hu => hu.replyTakingsUpdate till value⟩
  | finalTakings h till value => exact ⟨_, rfl, .replied fun u hu => hu.replyFinalTakings till value⟩
  | requestPickup h till declared => exact ⟨_, rfl, .replied fun u hu => hu.replyRequestPickup till declared⟩
  | signOff h till => exact ⟨_, rfl, .replied fun u hu => hu.replySignOff till⟩
  | withdrawTill h till => exact ⟨_, rfl, .besides (replyWithdrawTill_aside till)⟩
  | returnDrawer h till => exact ⟨_, rfl, .replied fun u hu => hu.replyReturnDrawer till⟩
  | suspendTill h till => exact ⟨_, rfl, .replied fun u hu => hu.replySuspendTill till⟩
  | restoreTill h till => exact ⟨_, rfl, .replied fun u hu => hu.replyRestoreTill till⟩
  | receivePouch h till number => exact ⟨_, rfl, .replied fun u hu => hu.replyReceivePouch till number⟩
  | startCount h source tray reject =>
    exact ⟨_, rfl, .asked fun u hu => hu.accessRequest h _ _ fun _ hr => carries_startArg hr⟩
  | recount h tray reject => exact ⟨_, rfl, .asked fun u hu => hu.recountOwner h tray reject⟩
  | manualCount h tray vec source => exact ⟨_, rfl, .asked fun u hu => hu.manualOwner h tray vec source⟩
  | restoreCounter h => exact ⟨_, rfl, .besides fun u => authorised_aside (replyRestoreCounter_aside u)⟩
  | resetOperations h => exact ⟨_, rfl, .besides replyResetOperations_aside⟩
  | postTray h tray => exact ⟨_, rfl, .asked fun u hu => hu.accessRequest h _ _ fun _ hr => carries_postArg hr⟩
  | acceptVariance h till => exact ⟨_, rfl, .replied fun u hu => hu.replyAcceptVariance h till⟩
  | openRange h low high => exact ⟨_, rfl, .besides (replyOpenRange_aside low high)⟩
  | lockAll h => exact ⟨_, rfl, .besides replyLockAll_aside⟩
  | freeze h => exact ⟨_, rfl, .besides fun _ => ⟨rfl, rfl⟩⟩
  | thaw h => exact ⟨_, rfl, .besides fun u => authorised_aside (replyThaw_aside u)⟩
  | transfer h src dst vec =>
    exact ⟨_, rfl, .asked fun u hu =>
      hu.vectorRequest h _ _ _ fun _ _ hv hr => carries_transferArg (countsInRange_of_unsigned hv) hr⟩
  | adjust h comp vec =>
    exact ⟨_, rfl, .asked fun u hu => hu.vectorRequest h _ _ _ fun _ _ _ hr => carries_adjustArg hr⟩
  | clearAlarm h comp => exact ⟨_, rfl, .besides fun u => authorised_aside (aside_replyClearAlarm comp u)⟩
  | newBag h comp => exact ⟨_, rfl, .besides (replyNewBag_aside comp)⟩
  | fillBag h bag comp vec =>
    exact ⟨_, rfl, .asked fun u hu =>
      hu.vectorRequest h _ _ _ fun _ _ hv hr => carries_fillArg (countsInRange_of_unsigned hv) hr⟩
  | closeBag h bag tagNumber => exact ⟨_, rfl, .besides (replyCloseBag_aside bag tagNumber)⟩
  | reopenBag h bag => exact ⟨_, rfl, .besides (replyReopenBag_aside bag)⟩
  | freeBag h bag => exact ⟨_, rfl, .besides (replyFreeBag_aside bag)⟩
  | stageBag h bag window => exact ⟨_, rfl, .besides (replyStageBag_aside bag window)⟩
  | dropBag h bag => exact ⟨_, rfl, .besides (replyDropBag_aside bag)⟩
  | openWindow h window => exact ⟨_, rfl, .besides (replyOpenWindow_aside window)⟩
  | closeWindow h window => exact ⟨_, rfl, .besides (replyCloseWindow_aside window)⟩
  | arrive h window badge => exact ⟨_, rfl, .besides (replyArrive_aside window badge)⟩
  | readManifest h => exact ⟨_, rfl, .besides replyReadManifest_aside⟩
  | scanBag h tagNumber => exact ⟨_, rfl, .besides (replyScanBag_aside tagNumber)⟩
  | declareInbound h tagNumber vec => exact ⟨_, rfl, .besides (replyDeclareInbound_aside tagNumber vec)⟩
  | confirmHandover h checksum => exact ⟨_, rfl, .replied fun u hu => hu.replyConfirmHandover checksum⟩
  | depart h => exact ⟨_, rfl, .besides replyDepart_aside⟩
  | readJournal h start maximum => exact ⟨_, rfl, .besides (replyReadJournal_aside start maximum)⟩
  | archive h seq => exact ⟨_, rfl, .besides (replyArchive_aside seq)⟩
  | readStatus h => exact ⟨_, rfl, .besides fun _ => ⟨rfl, rfl⟩⟩
  | withdraw h tags => exact ⟨_, rfl, .replied fun u hu => hu.replyWithdraw h.port tags⟩
  | readHolding h container => exact ⟨_, rfl, .besides (replyReadHolding_aside h.port container)⟩
  | readPosition h => exact ⟨_, rfl, .besides fun _ => ⟨rfl, rfl⟩⟩
  | readDenominations h => exact ⟨_, rfl, .besides fun _ => ⟨rfl, rfl⟩⟩
  | readPlan h => exact ⟨_, rfl, .besides fun _ => ⟨rfl, rfl⟩⟩
  | readProfile h profile => exact ⟨_, rfl, .besides (replyReadProfile_aside profile)⟩
  | readTill h till => exact ⟨_, rfl, .besides (replyReadTill_aside till)⟩
  | readResult h till => exact ⟨_, rfl, .besides (replyReadResult_aside till)⟩
  | readTray h tray => exact ⟨_, rfl, .besides (replyReadTray_aside tray)⟩
  | readTolerance h => exact ⟨_, rfl, .besides fun _ => ⟨rfl, rfl⟩⟩
  | readSafe h => exact ⟨_, rfl, .besides fun _ => ⟨rfl, rfl⟩⟩
  | readBag h bag => exact ⟨_, rfl, .besides (replyReadBag_aside bag)⟩
  | readWindow h window => exact ⟨_, rfl, .besides (replyReadWindow_aside h.port window)⟩
  | readSession h => exact ⟨_, rfl, .besides fun _ => ⟨rfl, rfl⟩⟩
  | readRouting h => exact ⟨_, rfl, .besides fun _ => ⟨rfl, rfl⟩⟩
  | frameDiscarded p cause => exact ⟨_, rfl, .event fun _ hu => hu⟩
  | unknownRequestCode p tag code => exact ⟨_, rfl, Reached.origin.framed fun u hu _ _ => hu.answered ..⟩
  | badTagFrame p tag code => exact ⟨_, rfl, exec_badTagFrame p tag code⟩
  | linkReset p => exact ⟨_, rfl, exec_linkReset p⟩
  | linkReturnsMarking p => exact ⟨_, rfl, exec_linkReturnsMarking p⟩
  | frameTransmitted p => exact ⟨_, rfl, .event fun _ hu => Reached.beside hu (by simp)⟩
  | ready => exact ⟨_, rfl, .event fun _ hu => hu.readyTaken⟩
  | selectReply block => exact ⟨_, rfl, .event fun _ hu => hu.selectAnswered block⟩
  | setUpReply block => exact ⟨_, rfl, .event fun _ hu => hu.setUpAnswered block⟩
  | statusReply block => exact ⟨_, rfl, .event fun _ hu => hu.statusAnswered block⟩
  | resultReply block => exact ⟨_, rfl, .event fun _ hu => hu.resultAnswered block⟩
  | abandonReply block => exact ⟨_, rfl, .event fun _ hu => hu.abandonAnswered⟩
  | counterReplyTimeout => exact ⟨_, rfl, .event fun _ hu => hu.exchangeFails⟩
  | stepLimitExpiry => exact ⟨_, rfl, .event fun _ hu => hu.stepExpires⟩
  | autoPostAttempt t => exact ⟨_, rfl, .event fun _ hu => hu.autoPostTry t⟩
  | floatRetryPass => exact ⟨_, rfl, .event fun _ hu => hu.owedFloatPass⟩
  | floatWaitExpiry p tag => exact ⟨_, rfl, .event fun _ hu => hu.floatExpires p tag⟩
  | counterWaitExpiry p tag => exact ⟨_, rfl, .event fun _ hu => hu.countExpires p tag⟩
  | accessWaitExpiry p tag => exact ⟨_, rfl, .event fun _ hu => hu.accessExpires _ _ _ p tag⟩
  | destinationWaitExpiry p tag => exact ⟨_, rfl, .event fun _ hu => hu.accessExpires _ _ _ p tag⟩
  | latchWindowExpiry c => exact ⟨_, rfl, .event fun _ hu => hu.latchExpires c⟩
  | doorHeldExpiry c => exact ⟨_, rfl, .event fun _ hu => hu.heldExpires c⟩
  | handoverIdleExpiry => exact ⟨_, rfl, .event fun _ hu => hu.idleExpires⟩
  | doorOpens c => exact ⟨_, rfl, .event fun _ hu => hu.doorOpened c⟩
  | doorCloses c => exact ⟨_, rfl, .event fun _ hu => hu.doorClosed c⟩
  | clockTick => exact ⟨_, rfl, exec_clockTick⟩
  | planEntryDue => exact ⟨_, rfl, .event fun _ hu => hu.runPlan⟩
  | mainSupplyLoss backup => exact ⟨_, rfl, exec_mainSupplyLoss backup⟩
  | backupSupplyLoss => exact ⟨_, rfl, exec_backupSupplyLoss⟩
  | powerReturn doors spacing drift => exact ⟨_, rfl, exec_powerReturn doors spacing drift⟩
  | coldStart doors spacing => exact ⟨_, rfl, .cold doors spacing .origin⟩

/-- A step leads through changes of the books, from the state itself or from it with the command taken off the queue. -/
theorem step_reached {s t : State} (h : step s = .next t) : ∃ rest, Reached { s with pending := rest } t := by
  unfold step at h
  split at h
  · cases h
    exact ⟨s.pending, .origin⟩
  · next c rest _ =>
    obtain ⟨u, hu, reached⟩ := exec_reached c { s with pending := rest }
    rw [hu] at h
    cases h
    exact ⟨rest, reached⟩

/-! ## The invariants of holdings and records -/

/-- Settles O54: every change of the books keeps base + inflow − outflow equal to the present sum. -/
theorem custodyConserved : Obligations.CustodyConserved := by
  intro s t balanced empty stepped
  obtain ⟨rest, reached⟩ := step_reached stepped
  exact reached.balanced (balanced_congr rfl balanced) (emptyBags_congr rfl rfl empty)

/-- Settles O55: every change of the books keeps the holdings, the waiting vectors and the templates in range. -/
theorem holdingsStayInRange : Obligations.HoldingsStayInRange := by
  intro s t ranges stepped
  obtain ⟨rest, reached⟩ := step_reached stepped
  exact reached.ranges ⟨ranges.holdings, ranges.waiting, ranges.templates⟩

/-- Settles O58: every change of the books keeps the tills, the day, the operator table and the cash of every till. -/
theorem recordLimitsKept : Obligations.RecordLimitsKept := by
  refine ⟨fun s t tills day operators stepped => ?_, fun s t cash stepped => ?_⟩
  · obtain ⟨rest, reached⟩ := step_reached stepped
    exact ⟨reached.tills tills, reached.dayHolds ((dayHolds_iff _).mpr ((dayHolds_iff s).mp day)), reached.operators operators⟩
  · obtain ⟨rest, reached⟩ := step_reached stepped
    exact reached.tillCash ⟨cash.worth, cash.rolls⟩

end Sys2Proof.Machine
end

section
/-! Requests that complete at once: the gate of the Office Port, the operator table behind the authorisation levels, and the two
requests that write the tables of denominations and operators (R2, R17 to R20). -/

namespace Sys2Proof.Machine

/-! ## A ready request answered at once -/

theorem officeReady_iff {s : State} {h : Req} : officeReady s h = true ↔ ready s h = true ∧ h.port = .office := by
  simp [officeReady]

/-- A ready request of the Office Port is answered with what its owner replies. -/
theorem office_replied {s : State} {h : Req} (code : Nat) {owner : State → Reply} (hr : officeReady s h = true)
    (hg : granted code .office = true) :
    immediate h code owner s
      = replied h (owner (accepted h code s)).code (owner (accepted h code s)).results (owner (accepted h code s)).state :=
  have ⟨isReady, port⟩ := officeReady_iff.mp hr
  immediate_ready h code owner s isReady (port ▸ hg)

/-- A ready request of the Office Port whose reply calls for no pass and reports nothing. -/
theorem office_settled {s : State} {h : Req} {code : Nat} {owner : State → Reply} {r : Reply} (hr : officeReady s h = true)
    (hg : granted code .office = true) (ho : owner (accepted h code s) = r) (he : r.state.event = Scratch.empty) :
    immediate h code owner s = settled h r.code r.results r.state := by
  rw [office_replied code hr hg, ho, replied_plain h _ _ _ he]

/-! ## The operator table (R17 to R20) -/

theorem operator?_some {s : State} {n : Nat} {e : OperatorEntry} (h : operator? s n = some e) :
    ∃ i, look s.store.operators i = some e ∧ e.number = n := by
  obtain ⟨o, mem, found⟩ := List.exists_of_findSome?_eq_some h
  obtain ⟨i, lt, rfl⟩ := List.mem_iff_getElem.mp mem
  split at found
  · next f hf =>
    split at found
    · next hn =>
      cases found
      exact ⟨⟨i, by simpa using lt⟩, by simpa [look] using hf, hn⟩
    · cases found
  · cases found

/-- On a table without two entries of one number, the lookup finds the entry of a number. -/
theorem operator?_of_look {s : State} (unique : OperatorsHold s) {i : Fin 32} {e : OperatorEntry}
    (h : look s.store.operators i = some e) : operator? s e.number = some e := by
  cases found : operator? s e.number with
  | some f =>
    obtain ⟨j, hj, hn⟩ := operator?_some found
    cases unique i j e f h hj hn.symm
    exact congrArg some (Option.some.inj (hj.symm.trans h))
  | none =>
    have absent := List.findSome?_eq_none_iff.mp found (some e) (by
      simp only [Vector.mem_toList_iff]
      exact h ▸ Vector.getElem_mem i.2)
    simp at absent

/-- An operator passes exactly where the table holds an ACTIVE entry of its number with a role that passes (R18, R19). -/
theorem operatorPasses_iff {s : State} (unique : OperatorsHold s) (n : Nat) (role : OpRole → Bool) :
    operatorPasses s n role = true ↔ n ≠ 0 ∧ hasOperator s n role := by
  constructor
  · intro h
    unfold operatorPasses at h
    split at h
    · next e found =>
      simp only [Bool.and_eq_true, decide_eq_true_eq, beq_iff_eq] at h
      obtain ⟨⟨nonzero, active⟩, passes⟩ := h
      obtain ⟨i, entry, number⟩ := operator?_some found
      exact ⟨nonzero, i, e, entry, number, active, passes⟩
    · cases h
  · rintro ⟨nonzero, i, e, entry, rfl, active, passes⟩
    simp [operatorPasses, operator?_of_look unique entry, nonzero, active, passes]

theorem seniorRole_eq : seniorRole = fun r => decide (r = .supervisor) || decide (r = .manager) := by
  funext r
  cases r <;> rfl

/-- Settles O12: each level is a decision on `operatorPasses`, which says what the table holds. -/
theorem authorisationLevels : Obligations.AuthorisationLevels := by
  intro s h unique senior dual
  have passes := fun n role => operatorPasses_iff unique n role
  have managers (n : Nat) (nonzero : n ≠ 0) :
      operatorPasses s n (· == .manager) = true ↔ hasOperator s n (· = .manager) := by
    have same : (fun r : OpRole => r == .manager) = fun r => decide (r = .manager) := by
      funext r
      cases r <;> rfl
    rw [same, passes]
    exact and_iff_right nonzero
  have both : dualPasses s h = true ↔ dual := by
    simp only [dualPasses, Bool.and_eq_true, decide_eq_true_eq, passes, seniorRole_eq, dual, senior, and_assoc]
  have withManager : (dualPasses s h && (operatorPasses s h.op1 (· == .manager) || operatorPasses s h.op2 (· == .manager))) = true
      ↔ dual ∧ (hasOperator s h.op1 (· = .manager) ∨ hasOperator s h.op2 (· = .manager)) := by
    rw [Bool.and_eq_true, both, Bool.or_eq_true]
    exact and_congr_right fun hd => or_congr (managers _ hd.2.1.1) (managers _ hd.2.2.1)
  refine ⟨rfl, fun ok => ?_, fun no => ?_, fun ok => ?_, fun no => ?_, fun ok => ?_, fun no => ?_, fun ok => ?_, fun no => ?_⟩
  · exact if_pos ((passes _ _).mpr ok)
  · exact if_neg fun p => no ((passes _ _).mp p)
  · exact if_pos (seniorRole_eq ▸ (passes _ _).mpr ok)
  · exact if_neg fun p => no ((passes _ _).mp (by rwa [seniorRole_eq] at p))
  · exact if_pos (both.mpr ok)
  · exact if_neg fun p => no (both.mp p)
  · exact if_pos (withManager.mpr ok)
  · exact if_neg fun p => no (withManager.mp p)

/-! ## SET DENOMINATION (R1, R2) -/

theorem newDenom_unused (face : Nat) (form : Coded Form) (pack mass : Nat) :
    newDenom (.ok .unused) face form pack mass = some DenomEntry.unused := rfl

theorem newDenom_note {st : DenomStatus} {face pack : Nat} (mass : Nat) (hs : st ≠ .unused) (hf : 1 ≤ face ∧ face ≤ 50000)
    (hp : 1 ≤ pack ∧ pack ≤ 1000) :
    newDenom (.ok st) face (.ok .note) pack mass
      = some { status := st, face := some face, form := some .note, pack := some pack, unitMass := none } := by
  cases st with
  | unused => exact absurd rfl hs
  | active => simp [newDenom, valueIn, hf, hp]
  | retired => simp [newDenom, valueIn, hf, hp]

theorem newDenom_coin {st : DenomStatus} {face pack mass : Nat} (hs : st ≠ .unused) (hf : 1 ≤ face ∧ face ≤ 50000)
    (hp : 1 ≤ pack ∧ pack ≤ 1000) (hm : 1 ≤ mass ∧ mass ≤ 2000) :
    newDenom (.ok st) face (.ok .coin) pack mass
      = some { status := st, face := some face, form := some .coin, pack := some pack, unitMass := some mass } := by
  cases st with
  | unused => exact absurd rfl hs
  | active => simp [newDenom, valueIn, hf, hp, hm]
  | retired => simp [newDenom, valueIn, hf, hp, hm]

theorem faceTaken_false {denoms : Vector DenomEntry 16} {i : DenomIx} {e : DenomEntry}
    (h : ∀ j, j ≠ i → (look denoms j).status ≠ .unused → e.face = none ∨ (look denoms j).face ≠ e.face) :
    faceTaken denoms i e = false := by
  simp only [faceTaken, List.any_eq_false, Bool.and_eq_true, decide_eq_true_eq, beq_iff_eq, not_and]
  rintro j _ ⟨⟨hj, hs⟩, hf⟩ same
  obtain absent | differs := h j hj hs
  · simp [absent] at hf
  · exact differs same

theorem heldSomewhere_false {s : State} {i : DenomIx} (h : ∀ c, look (holding s c) i = 0) : heldSomewhere s i = false := by
  simp [heldSomewhere, h]

/-- Settles O16: the entry described is the one the request gives, its face is free, and no cash forbids the change. -/
theorem setDenominationReplaces : Obligations.SetDenominationReplaces := by
  intro s h i st face form pack mass e hr closed described free kept
  have entry : newDenom (.ok st) face form pack mass = some e ∧ (st ≠ .unused → e.status ≠ .unused) := by
    obtain ⟨rfl, rfl⟩ | ⟨hs, f1, f2, p1, p2, ⟨rfl, rfl⟩ | ⟨rfl, m1, m2, rfl⟩⟩ := described
    · exact ⟨newDenom_unused .., fun hs => absurd rfl hs⟩
    · exact ⟨newDenom_note mass hs ⟨f1, f2⟩ ⟨p1, p2⟩, id⟩
    · exact ⟨newDenom_coin hs ⟨f1, f2⟩ ⟨p1, p2⟩ ⟨m1, m2⟩, id⟩
  have allowed : (heldSomewhere s i && reshapes (look s.store.denoms i) e) = false := by
    obtain empty | ⟨hs, face, form, pack, mass⟩ := kept
    · simp [heldSomewhere_false empty]
    · simp [reshapes, face, form, pack, mass, entry.2 hs]
  have reply : replySetDenomination i.1 (.ok st) face form pack mass (accepted h 0x01 s)
      = Reply.ok [] { accepted h 0x01 s with store := { s.store with denoms := put s.store.denoms i e } } := by
    have same : heldSomewhere (accepted h 0x01 s) i = heldSomewhere s i := by simp [heldSomewhere]
    simp [replySetDenomination, closed, entry.1, faceTaken_false free, same, allowed]
  exact congrArg Host.Outcome.next (office_settled hr rfl reply (by simp [Reply.ok]))

/-! ## SET OPERATOR (R17) -/

theorem operatorPlace_eq_some {s : State} (unique : OperatorsHold s) {i : Fin 32} {e : OperatorEntry}
    (h : look s.store.operators i = some e) : operatorPlace s e.number = some i := by
  cases found : operatorPlace s e.number with
  | some j =>
    obtain ⟨f, hf, hn⟩ := operatorPlace_some found
    exact congrArg some (unique j i f e hf h hn)
  | none => exact absurd rfl (operatorPlace_none found i e h)

theorem operatorPlace_eq_none {s : State} {n : Nat} (h : ∀ i e, look s.store.operators i = some e → e.number ≠ n) :
    operatorPlace s n = none := by
  cases found : operatorPlace s n with
  | some j =>
    obtain ⟨f, hf, hn⟩ := operatorPlace_some found
    exact absurd hn (h j f hf)
  | none => rfl

/-- The empty entry taken is the one of lowest index (log 8). -/
theorem emptyPlace_eq_some {s : State} {i : Fin 32} (h : look s.store.operators i = none)
    (lowest : ∀ j : Fin 32, j < i → look s.store.operators j ≠ none) : emptyPlace s = some i := by
  rw [emptyPlace, List.find?_eq_some_iff_getElem]
  refine ⟨by simp [h], i.1, by simp, by simp, fun j hj => ?_⟩
  have := lowest ⟨j, by omega⟩ hj
  simpa [Option.ne_none_iff_isSome] using this

theorem emptyPlace_eq_none {s : State} (h : ∀ i, look s.store.operators i ≠ none) : emptyPlace s = none := by
  simpa [emptyPlace] using h

theorem operatorPlace_accepted (h : Req) (code : Nat) (s : State) (n : Nat) :
    operatorPlace (accepted h code s) n = operatorPlace s n := by
  simp [operatorPlace]

theorem emptyPlace_accepted (h : Req) (code : Nat) (s : State) : emptyPlace (accepted h code s) = emptyPlace s := by
  simp [emptyPlace]

/-- SET OPERATOR with every field in its range is answered as its table lookup says. -/
theorem setOperator_settled {s : State} {h : Req} {n : Nat} {arg : RoleArg} {st : Standing} {r : Reply}
    (hr : officeReady s h = true) (reply : replySetOperator n (.ok arg) (.ok st) (accepted h 0x02 s) = r)
    (he : r.state.event = Scratch.empty) :
    exec (.setOperator h n (.ok arg) (.ok st)) s = .next (settled h r.code r.results r.state) :=
  congrArg Host.Outcome.next (office_settled hr rfl reply he)

/-- Settles O17, by the entry that the number's lookup finds and the one that is empty. -/
theorem setOperatorWrites : Obligations.SetOperatorWrites := by
  intro s h number st hr low high
  have inRange : valueIn 1 9999 number = true := by simp [valueIn, low, high]
  refine ⟨fun i e role unique entry hn => ?_, fun absent => ?_⟩
  · have place : operatorPlace (accepted h 0x02 s) number = some i := by
      rw [operatorPlace_accepted, ← hn, operatorPlace_eq_some unique entry]
    constructor
    · exact setOperator_settled hr (r := .ok [] _) (by simp [replySetOperator, inRange, place, putOperator]) (by simp [Reply.ok])
    · exact setOperator_settled hr (r := .ok [] _) (by simp [replySetOperator, inRange, place, putOperator]) (by simp [Reply.ok])
  · have place : operatorPlace (accepted h 0x02 s) number = none := by
      rw [operatorPlace_accepted, operatorPlace_eq_none absent]
    refine ⟨fun i role empty lowest => ?_, ?_, fun role full => ?_⟩
    · have hole : emptyPlace (accepted h 0x02 s) = some i := by rw [emptyPlace_accepted, emptyPlace_eq_some empty lowest]
      exact setOperator_settled hr (r := .ok [] _) (by simp [replySetOperator, inRange, place, hole, putOperator])
        (by simp [Reply.ok])
    · exact setOperator_settled hr (r := .ok [] (accepted h 0x02 s)) (by simp [replySetOperator, inRange, place]) (by simp [Reply.ok])
    · have hole : emptyPlace (accepted h 0x02 s) = none := by rw [emptyPlace_accepted, emptyPlace_eq_none full]
      exact setOperator_settled hr (r := .refuse .operatorLimit (accepted h 0x02 s))
        (by simp [replySetOperator, inRange, place, hole])
        (by simp [Reply.refuse])

end Sys2Proof.Machine
end

section
/-! The movement checks (R9, R10, R123): what each of the eight checks asks, and the order in which the first that fails answers. -/

namespace Sys2Proof.Machine

variable {need : Nat} {m : Movement} {s : State}

/-! ## The checks one by one -/

theorem goesBelow_iff (m : Movement) (s : State) :
    goesBelow m s = true ↔ (∃ c, m.src = some c ∧ ∃ i : DenomIx, look (heldAfter m s c) i < 0)
      ∨ ∃ c, m.dst = some c ∧ formOf m.kind = .signed ∧ ∃ i : DenomIx, look (heldAfter m s c) i < 0 := by
  unfold goesBelow
  rw [Bool.or_eq_true]
  refine or_congr ?_ ?_
  · cases m.src <;> simp
  · cases m.dst <;> cases formOf m.kind <;> simp

theorem goesAbove_iff (m : Movement) (s : State) :
    goesAbove m s = true ↔ ∃ c, m.dst = some c ∧ ∃ i : DenomIx, 65535 < look (heldAfter m s c) i := by
  unfold goesAbove
  cases m.dst with
  | none => simp
  | some c => simp only [List.any_eq_true, List.mem_finRange, true_and, decide_eq_true_eq, Option.some.injEq, exists_eq_left']; rfl

theorem overCap_iff (m : Movement) (s : State) :
    overCap m s = true
      ↔ ∃ c : CompIx, (compOf s c).cap < capLoad (moveHoldings m s) c ∧ capLoad s c < capLoad (moveHoldings m s) c := by
  simp [overCap]

theorem not_overCap_iff (m : Movement) (s : State) :
    ¬ overCap m s = true
      ↔ ∀ c : CompIx, capLoad (moveHoldings m s) c ≤ (compOf s c).cap ∨ capLoad (moveHoldings m s) c ≤ capLoad s c := by
  rw [overCap_iff]
  simp only [not_exists, not_and_or, not_lt]

/-- The code an answer of the Safe Unit refuses with. -/
def Access.refusal : Access → Option Code
  | .refused k => some k
  | _ => none

/-- The reason an answer of the Safe Unit parks for. -/
def Access.parking : Access → Option AccessReason
  | .parked r => some r
  | _ => none

/-- Check 6 as two searches of the named compartments: for a refusal, then for a parking reason (R10). -/
theorem checkAccess_eq (m : Movement) (s : State) :
    checkAccess m s = match m.named.findSome? fun c => (access s m.postOf c).refusal with
      | some k => .refused k
      | none => match m.named.findSome? fun c => (access s m.postOf c).parking.map fun r => (c, r) with
        | some (c, r) => .parked r (.comp c)
        | none => .pass := by
  have refusals : (fun c => (access s m.postOf c).refusal)
      = (fun a : CompIx × Access => match a.2 with | .refused k => some k | _ => none)
        ∘ fun c => (c, access s m.postOf c) := by
    funext c
    simp only [Function.comp_apply]
    cases access s m.postOf c <;> rfl
  have parkings : (fun c => (access s m.postOf c).parking.map fun r => (c, r))
      = (fun a : CompIx × Access => match a.2 with | .parked r => some (a.1, r) | _ => none)
        ∘ fun c => (c, access s m.postOf c) := by
    funext c
    simp only [Function.comp_apply]
    cases access s m.postOf c <;> rfl
  rw [refusals, parkings, ← List.findSome?_map, ← List.findSome?_map]
  rfl

theorem checkAccess_refused {before later : List CompIx} {c : CompIx} {k : Code} (named : m.named = before ++ c :: later)
    (refuses : access s m.postOf c = .refused k) (first : ∀ d ∈ before, ¬ ∃ k, access s m.postOf d = .refused k) :
    checkAccess m s = .refused k := by
  have none (d : CompIx) (hd : d ∈ before) : (access s m.postOf d).refusal = none := by
    cases a : access s m.postOf d with
    | refused k => exact absurd ⟨k, a⟩ (first d hd)
    | _ => rfl
  have found : m.named.findSome? (fun c => (access s m.postOf c).refusal) = some k := by
    rw [named, List.findSome?_append, List.findSome?_eq_none_iff.mpr none, List.findSome?_cons, refuses]
    rfl
  rw [checkAccess_eq, found]

theorem findSome?_refusal_none (unrefused : ∀ d ∈ m.named, ¬ ∃ k, access s m.postOf d = .refused k) :
    m.named.findSome? (fun c => (access s m.postOf c).refusal) = none := by
  refine List.findSome?_eq_none_iff.mpr fun d hd => ?_
  cases a : access s m.postOf d with
  | refused k => exact absurd ⟨k, a⟩ (unrefused d hd)
  | _ => rfl

theorem checkAccess_parked {before later : List CompIx} {c : CompIx} {r : AccessReason} (named : m.named = before ++ c :: later)
    (unrefused : ∀ d ∈ m.named, ¬ ∃ k, access s m.postOf d = .refused k) (parks : access s m.postOf c = .parked r)
    (first : ∀ d ∈ before, access s m.postOf d = .accessible) : checkAccess m s = .parked r (.comp c) := by
  have none (d : CompIx) (hd : d ∈ before) : ((access s m.postOf d).parking.map fun r => (d, r)) = none := by
    rw [first d hd]
    rfl
  have found : m.named.findSome? (fun c => (access s m.postOf c).parking.map fun r => (c, r)) = some (c, r) := by
    rw [named, List.findSome?_append, List.findSome?_eq_none_iff.mpr none, List.findSome?_cons, parks]
    rfl
  rw [checkAccess_eq, findSome?_refusal_none unrefused, found]

theorem checkAccess_pass_iff (m : Movement) (s : State) :
    checkAccess m s = .pass ↔ ∀ c ∈ m.named, access s m.postOf c = .accessible := by
  rw [checkAccess_eq]
  constructor
  · intro h
    split at h
    · cases h
    · next unrefused =>
      split at h
      · cases h
      · next unparked =>
        intro c hc
        have refusal := List.findSome?_eq_none_iff.mp unrefused c hc
        have parking := List.findSome?_eq_none_iff.mp unparked c hc
        cases a : access s m.postOf c with
        | accessible => rfl
        | refused k => simp [a, Access.refusal] at refusal
        | parked r => simp [a, Access.parking] at parking
  · intro h
    rw [findSome?_refusal_none fun d hd => by simp [h d hd],
      List.findSome?_eq_none_iff.mpr fun d hd => by simp [h d hd, Access.parking]]

/-! ## The table of checks -/

theorem refused_else_iff {p : Prop} [Decidable p] {k : Code} {c : Check} :
    (if p then Check.refused k else c) = .pass ↔ ¬ p ∧ c = .pass := by
  split
  · next h => simp [h]
  · next h => simp [h]

theorem checkMovement_pass_iff (need : Nat) (m : Movement) (s : State) :
    checkMovement need m s = .pass ↔ ¬ (s.retention.suspect = true ∧ m.kind ≠ .adjust) ∧ s.day.state ≠ .closed
      ∧ ¬ freeEntries s < need ∧ ¬ goesBelow m s = true ∧ ¬ goesAbove m s = true ∧ checkAccess m s = .pass
      ∧ m.ends.find? (fun c => (stepBits s c).mark) = none ∧ ¬ overCap m s = true := by
  unfold checkMovement
  simp only [refused_else_iff, Bool.and_eq_true, decide_eq_true_eq]
  refine and_congr_right' (and_congr_right' (and_congr_right' (and_congr_right' (and_congr_right' ?_))))
  cases checkAccess m s with
  | refused k => simp
  | parked r c => simp
  | pass =>
    cases m.ends.find? fun c => (stepBits s c).mark with
    | some c => simp
    | none => simp

/-- Where the first five checks find nothing, check 6 decides, then the marks and the caps. -/
theorem checkMovement_reaches (damaged : ¬ (s.retention.suspect = true ∧ m.kind ≠ .adjust)) (opened : s.day.state ≠ .closed)
    (free : need ≤ freeEntries s) (below : ¬ goesBelow m s = true) (above : ¬ goesAbove m s = true) :
    checkMovement need m s = match checkAccess m s with
      | .refused k => .refused k
      | .parked r c => .parked r c
      | .pass =>
        match m.ends.find? (fun c => (stepBits s c).mark) with
        | some c => .parked .audit c
        | none => if overCap m s then .refused .overCap else .pass :=
  (if_neg (by simpa using damaged)).trans <| (if_neg opened).trans <| (if_neg (Nat.not_lt.mpr free)).trans <|
    (if_neg below).trans (if_neg above)

theorem find?_marked {before later : List Container} {c : Container} (ends : m.ends = before ++ c :: later)
    (marked : (stepBits s c).mark = true) (first : ∀ d ∈ before, (stepBits s d).mark = false) :
    m.ends.find? (fun c => (stepBits s c).mark) = some c := by
  rw [ends, List.find?_append, List.find?_eq_none.mpr fun d hd => by simp [first d hd]]
  simp [marked]

/-! ## One event's movements, and what the checks read -/

theorem checkEvent_cons (need : Nat) (m : Movement) (ms : List Movement) (s : State) :
    (checkMovement need m s = .pass → checkEvent need (m :: ms) s = checkEvent need ms (moveHoldings m s))
      ∧ (checkMovement need m s ≠ .pass → checkEvent need (m :: ms) s = checkMovement need m s) := by
  rw [checkEvent]
  cases checkMovement need m s <;> simp

theorem postOf_eq_some (m : Movement) (t : TrayIx) : m.postOf = some t ↔ m.kind = .post ∧ m.src = some (.tray t) := by
  unfold Movement.postOf
  split
  · simp [*]
  · next none =>
    constructor
    · intro h
      cases h
    · rintro ⟨kind, src⟩
      exact absurd src (none t kind)

theorem moveHoldings_eq (m : Movement) (s : State) :
    let t := moveHoldings m s
    t = { s with store := { s.store with
        tillHold := t.store.tillHold, compHold := t.store.compHold, trayHold := t.store.trayHold, bagHold := t.store.bagHold } } := by
  unfold moveHoldings
  generalize heldAfter m s = g
  generalize m.ends = l
  induction l generalizing s with
  | nil => rfl
  | cons c l ih =>
    have one : ∃ v w x y, setHolding c (g c) s
        = { s with store := { s.store with tillHold := v, compHold := w, trayHold := x, bagHold := y } } := by
      cases c <;> exact ⟨_, _, _, _, rfl⟩
    obtain ⟨v, w, x, y, he⟩ := one
    rw [List.foldl_cons, he]
    exact ih _

/-! ## Access (R123) -/

theorem access_outside {c : CompIx} (post : Option TrayIx) (h : inRange s c = false) :
    access s post c = .refused (if s.safe.frozen then .frozen else .locked) := by
  simp [access, h]

/-- Inside the range and without a forced alarm, a session parks before a count that has the compartment's cash. -/
theorem access_inside {c : CompIx} (post : Option TrayIx) (inside : inRange s c = true) (alarm : (compOf s c).alarm ≠ .forced) :
    access s post c = if s.courier.session.isSome then .parked .session
      else match (compOf s c).outForCount with
        | some t => if post = some t then .accessible else .parked .countOut
        | none => .accessible := by
  simp only [access, inside, alarm]
  rfl

theorem inRange_iff (s : State) (c : CompIx) : inRange s c = true ↔ s.safe.range.low ≤ c.1 ∧ c.1 ≤ s.safe.range.high := by
  simp [inRange]

/-! ## The statement's parts -/

theorem movement_passes_iff (need : Nat) (m : Movement) (s : State) :
    checkMovement need m s = .pass ↔
      (s.retention.suspect = true → m.kind = .adjust) ∧ s.day.state ≠ .closed ∧ need ≤ freeEntries s
      ∧ (∀ c, m.src = some c → ∀ i : DenomIx, 0 ≤ look (heldAfter m s c) i)
      ∧ (∀ c, m.dst = some c → formOf m.kind = .signed → ∀ i : DenomIx, 0 ≤ look (heldAfter m s c) i)
      ∧ (∀ c, m.dst = some c → ∀ i : DenomIx, look (heldAfter m s c) i ≤ 65535)
      ∧ (∀ c ∈ m.named, access s m.postOf c = .accessible) ∧ (∀ c ∈ m.ends, (stepBits s c).mark = false)
      ∧ ∀ c : CompIx, capLoad (moveHoldings m s) c ≤ (compOf s c).cap ∨ capLoad (moveHoldings m s) c ≤ capLoad s c := by
  rw [checkMovement_pass_iff, goesBelow_iff, goesAbove_iff, not_overCap_iff, checkAccess_pass_iff, List.find?_eq_none]
  rw [not_or]
  simp only [not_exists, not_and, not_lt, ne_eq, not_not, Bool.not_eq_true, and_assoc]

theorem movement_first_failure (need : Nat) (m : Movement) (s : State) :
    let answers (x : Check) := checkMovement need m s = x
    let damaged := s.retention.suspect = true ∧ m.kind ≠ .adjust
    let below := (∃ c, m.src = some c ∧ ∃ i : DenomIx, look (heldAfter m s c) i < 0)
      ∨ ∃ c, m.dst = some c ∧ formOf m.kind = .signed ∧ ∃ i : DenomIx, look (heldAfter m s c) i < 0
    let above := ∃ c, m.dst = some c ∧ ∃ i : DenomIx, 65535 < look (heldAfter m s c) i
    (damaged → answers (.refused .memorySuspect))
    ∧ (¬ damaged → s.day.state = .closed → answers (.refused .dayNotOpen))
    ∧ (¬ damaged → s.day.state ≠ .closed → freeEntries s < need → answers (.refused .journalFull))
    ∧ (¬ damaged → s.day.state ≠ .closed → need ≤ freeEntries s → below → answers (.refused .badOperand))
    ∧ (¬ damaged → s.day.state ≠ .closed → need ≤ freeEntries s → ¬ below → above → answers (.refused .countRange)) := by
  intro answers damaged below above
  dsimp only [answers, damaged, below, above]
  rw [← goesBelow_iff, ← goesAbove_iff]
  unfold checkMovement
  simp only [Bool.and_eq_true, decide_eq_true_eq]
  refine ⟨fun d => if_pos d, fun d c => ?_, fun d c f => ?_, fun d c f b => ?_, fun d c f b a => ?_⟩
  · rw [if_neg d, if_pos c]
  · rw [if_neg d, if_neg c, if_pos f]
  · rw [if_neg d, if_neg c, if_neg (Nat.not_lt.mpr f), if_pos b]
  · rw [if_neg d, if_neg c, if_neg (Nat.not_lt.mpr f), if_neg b, if_pos a]

theorem access_table (s : State) (postOf : Option TrayIx) (c : CompIx) :
    let r := compOf s c
    let inside := s.safe.range.low ≤ c.1 ∧ c.1 ≤ s.safe.range.high
    let is (x : Access) := access s postOf c = x
    (¬ inside → s.safe.frozen = false → is (.refused .locked))
    ∧ (¬ inside → s.safe.frozen = true → is (.refused .frozen))
    ∧ (inside → r.alarm = .forced → is (.refused .alarmed))
    ∧ (inside → r.alarm ≠ .forced → s.courier.session ≠ none → is (.parked .session))
    ∧ (inside → r.alarm ≠ .forced → s.courier.session = none → ∀ t, r.outForCount = some t →
        (postOf ≠ some t → is (.parked .countOut)) ∧ (postOf = some t → is .accessible))
    ∧ (inside → r.alarm ≠ .forced → s.courier.session = none → r.outForCount = none → is .accessible) := by
  intro r inside is
  dsimp only [is, inside, r]
  rw [← inRange_iff]
  refine ⟨fun o f => ?_, fun o f => ?_, fun i a => ?_, fun i a x => ?_, fun i a x t out => ⟨fun p => ?_, fun p => ?_⟩,
    fun i a x out => ?_⟩
  · rw [access_outside _ (by simpa using o), f]
    rfl
  · rw [access_outside _ (by simpa using o), f]
    rfl
  · simp [access, i, a]
  · rw [access_inside _ i a, if_pos (Option.isSome_iff_ne_none.mpr x)]
  · rw [access_inside _ i a, x, out]
    exact if_neg p
  · rw [access_inside _ i a, x, out]
    exact if_pos p
  · rw [access_inside _ i a, x, out]
    rfl

/-- Settles O13, check by check in the order of R9. -/
theorem movementPasses : Obligations.MovementPasses := by
  refine ⟨movement_passes_iff, fun need m s => ?_, postOf_eq_some, fun s c v => ⟨rfl, rfl, rfl⟩,
    fun m s => ⟨holding_moveHoldings_eq m s, moveHoldings_eq m s⟩, fun need m ms s => ⟨rfl, checkEvent_cons need m ms s⟩,
    access_table⟩
  intro answers damaged below above refuses
  obtain ⟨suspect, closed, full, negative, excess⟩ := movement_first_failure need m s
  refine ⟨suspect, closed, full, negative, excess, fun hd ho hf hb ha => ?_⟩
  have reaches := checkMovement_reaches hd ho hf (mt (goesBelow_iff m s).mp hb) (mt (goesAbove_iff m s).mp ha)
  dsimp only [answers]
  refine ⟨fun before c later k named refused first => ?_, fun unrefused =>
    ⟨fun before c later r named parked first => ?_, fun accessible =>
      ⟨fun before c later ends marked first => ?_, fun unmarked exceeds => ?_⟩⟩⟩
  · rw [reaches, checkAccess_refused named refused first]
  · rw [reaches, checkAccess_parked named unrefused parked first]
  · rw [reaches, (checkAccess_pass_iff m s).mpr accessible]
    dsimp only
    rw [find?_marked ends marked first]
  · rw [reaches, (checkAccess_pass_iff m s).mpr accessible]
    dsimp only
    rw [List.find?_eq_none.mpr fun c hc => by simp [unmarked c hc]]
    exact if_pos ((overCap_iff m s).mpr exceeds)

end Sys2Proof.Machine
end

section
/-! What an applied movement does (R11, R13, R22, R52, R137), part by part of the state. -/

namespace Sys2Proof.Machine

variable {s t : State}

/-! ## Step-pending marks and their notices (R22) -/

theorem stepBits_congr (ht : t.store.tillStep = s.store.tillStep) (hc : t.store.compStep = s.store.compStep) (c : Container) :
    stepBits t c = stepBits s c := by
  cases c <;> simp [stepBits, ht, hc]

theorem stepBits_setStepBits (d : Container) (b : StepBits) (s : State) (c : Container)
    (hd : (∀ i, d ≠ .tray i) ∧ ∀ i, d ≠ .bag i) :
    stepBits (setStepBits d b s) c = if c = d then b else stepBits s c := by
  cases d with
  | till i => cases c <;> simp [stepBits, setStepBits, look_put]
  | comp i => cases c <;> simp [stepBits, setStepBits, look_put]
  | tray i => exact absurd rfl (hd.1 i)
  | bag i => exact absurd rfl (hd.2 i)

/-- The subject of a notice about a container. -/
def subjectOf : Container → Subject
  | .till i => .till i
  | .comp i => .comp i
  | .tray i => .tray i
  | .bag i => .bag i

/-- A container with its flag on gets its mark and raises AUDIT_STEP; the others are left (R22). -/
theorem markStep_eq (n : Nat) (s : State) (c : Container) :
    markStep n s c = if (stepBits s c).flag then
      raise .auditStep (subjectOf c) [.u32 n] (setStepBits c { flag := true, mark := true } s) else s := by
  cases c <;> rfl

theorem stepBits_markStep (n : Nat) (s : State) (d c : Container) :
    stepBits (markStep n s d) c
      = if c = d ∧ (stepBits s c).flag = true then { flag := true, mark := true } else stepBits s c := by
  rw [markStep_eq]
  by_cases flagged : (stepBits s d).flag = true
  · rw [if_pos flagged, stepBits_congr (s := setStepBits d { flag := true, mark := true } s) (by simp) (by simp)]
    have steps : (∀ i, d ≠ .tray i) ∧ ∀ i, d ≠ .bag i := by
      constructor <;> rintro i rfl <;> exact absurd flagged (by simp [stepBits])
    rw [stepBits_setStepBits d _ s c steps]
    by_cases same : c = d
    · subst same
      simp [flagged]
    · simp [same]
  · rw [if_neg flagged, if_neg]
    rintro ⟨rfl, on⟩
    exact flagged on

theorem stepBits_fold_markStep (n : Nat) (l : List Container) (s : State) (c : Container) :
    stepBits (l.foldl (markStep n) s) c
      = if c ∈ l ∧ (stepBits s c).flag = true then { flag := true, mark := true } else stepBits s c := by
  induction l generalizing s with
  | nil => simp
  | cons d l ih =>
    rw [List.foldl_cons, ih, stepBits_markStep]
    by_cases on : (stepBits s c).flag = true
    · by_cases here : c = d
      · subst here
        simp [on]
      · simp [here, on]
    · simp [on]

theorem flag_markStep (n : Nat) (s : State) (d c : Container) : (stepBits (markStep n s d) c).flag = (stepBits s c).flag := by
  rw [stepBits_markStep]
  split
  · next h => exact h.2.symm
  · rfl

/-- What a notice does to the ports depends on the ports and the day alone (R196). -/
theorem raise_ports_congr (hp : t.ports = s.ports) (hd : t.day = s.day) (k : NoticeKind) (x : Subject) (l : List Field) :
    (raise k x l t).ports = (raise k x l s).ports := by
  unfold raise
  rw [hp, hd]
  dsimp only
  split <;> split <;> split <;> simp [modPort, hp]

theorem fold_markStep_ports (n : Nat) (l : List Container) (hp : t.ports = s.ports) (hd : t.day = s.day)
    (flags : Container → Bool) (hf : ∀ c, (stepBits t c).flag = flags c) :
    (l.foldl (markStep n) t).ports
      = ((l.filter flags).foldl (fun acc c => raise .auditStep (subjectOf c) [.u32 n] acc) s).ports := by
  induction l generalizing s t with
  | nil => exact hp
  | cons c l ih =>
    have later (d : Container) : (stepBits (markStep n t c) d).flag = flags d := by rw [flag_markStep, hf]
    rw [List.foldl_cons]
    by_cases on : flags c = true
    · rw [List.filter_cons_of_pos on, List.foldl_cons]
      refine ih ?_ (by simp [hd]) later
      rw [markStep_eq, if_pos (by rw [hf, on])]
      exact raise_ports_congr (by simp [hp]) (by simp [hd]) _ _ _
    · rw [List.filter_cons_of_neg on]
      refine ih ?_ (by simp [hd]) later
      rw [markStep_eq, if_neg (by rwa [hf])]
      exact hp

/-! ## Latches (R137) -/

/-- The record of a compartment whose latch a movement releases, the latch window restarted while the door is closed. -/
def CompRec.released (r : CompRec) : CompRec :=
  { r with latch := .released, latchTimer := if r.door = .closed then some 0 else r.latchTimer }

theorem released_eq (r : CompRec) :
    (if r.hold then r
      else match r.door with
        | .closed => { r with latch := .released, latchTimer := some 0 }
        | .opened => { r with latch := .released }) = if r.hold = false then r.released else r := by
  cases held : r.hold <;> cases door : r.door <;> simp [CompRec.released, held, door]

theorem compOf_modComp (d : CompIx) (f : CompRec → CompRec) (s : State) (c : CompIx) :
    compOf (modComp d f s) c = if c = d then f (compOf s d) else compOf s c := by
  simp [compOf, modComp, look_put]

theorem compOf_releaseLatch (s : State) (d c : CompIx) :
    compOf (releaseLatch s d) c = if c = d ∧ (compOf s c).hold = false then (compOf s c).released else compOf s c := by
  rw [releaseLatch, compOf_modComp]
  by_cases same : c = d
  · subst same
    rw [if_pos rfl]
    exact (released_eq _).trans (by simp)
  · simp [same]

theorem compOf_fold_releaseLatch (l : List CompIx) (s : State) (c : CompIx) :
    compOf (l.foldl releaseLatch s) c
      = if c ∈ l ∧ (compOf s c).hold = false then (compOf s c).released else compOf s c := by
  have again (r : CompRec) : r.released.released = r.released := by
    unfold CompRec.released
    split <;> simp_all
  have hold (r : CompRec) : r.released.hold = r.hold := rfl
  induction l generalizing s with
  | nil => simp
  | cons d l ih =>
    rw [List.foldl_cons, ih, compOf_releaseLatch]
    by_cases free : (compOf s c).hold = false
    · by_cases here : c = d
      · subst here
        simp [free, again, hold]
      · simp [here, free]
    · simp [free]

theorem fold_releaseLatch_safe (l : List CompIx) (s : State) :
    (l.foldl releaseLatch s).safe = { s.safe with comps := (l.foldl releaseLatch s).safe.comps } := by
  induction l generalizing s with
  | nil => rfl
  | cons c l ih =>
    rw [List.foldl_cons, ih]
    rfl

/-! ## The stages of an applied movement -/

/-- The state of an applied movement before the latches: the entry written, the holdings and the marks set. -/
def marked (m : Movement) (s : State) : State :=
  m.ends.foldl (markStep s.store.journal.nextSeq)
    (m.ends.foldl (fun acc c => setHolding c (heldAfter m s c) acc) (writeEntry m (movePosition m s)))

theorem applyMove_eq (m : Movement) (s : State) :
    applyMove m s = if raisesReserve m s then oweRetry (m.named.foldl releaseLatch (marked m s))
      else m.named.foldl releaseLatch (marked m s) := rfl

theorem raisesReserve_iff (m : Movement) (s : State) :
    raisesReserve m s = true ↔ ∃ c, reserve s = some c
      ∧ ∃ i : DenomIx, look (holding s (.comp c)) i < look (heldAfter m s (.comp c)) i := by
  unfold raisesReserve
  cases reserve s <;> simp

theorem entryOf_movePosition (m : Movement) (s : State) : entryOf m (movePosition m s) = entryOf m s := by
  have bits (c : Container) : stepBits (movePosition m s) c = stepBits s c := stepBits_congr (by simp) (by simp) c
  simp [entryOf, valueOf, bits]

theorem applyMove_journal (m : Movement) (s : State) :
    (applyMove m s).store.journal = { s.store.journal with
      entries := s.store.journal.entries ++ [entryOf m s], nextSeq := seqAfter s.store.journal.nextSeq
      held := if m.held then s.store.journal.held - 1 else s.store.journal.held } := by
  have written : (writeEntry m (movePosition m s)).store.journal = { s.store.journal with
      entries := s.store.journal.entries ++ [entryOf m s], nextSeq := seqAfter s.store.journal.nextSeq
      held := if m.held then s.store.journal.held - 1 else s.store.journal.held } := by
    simp [writeEntry, entryOf_movePosition]
  rw [← written, applyMove_eq]
  split <;> simp [marked]

theorem applyMove_flows (m : Movement) (s : State) :
    (applyMove m s).store.inflow = (movePosition m s).store.inflow
      ∧ (applyMove m s).store.outflow = (movePosition m s).store.outflow := by
  rw [applyMove_eq]
  split <;> simp [marked, writeEntry]

theorem stepBits_applyMove (m : Movement) (s : State) (c : Container) :
    stepBits (applyMove m s) c
      = if c ∈ m.ends ∧ (stepBits s c).flag = true then { flag := true, mark := true } else stepBits s c := by
  have before : stepBits (m.ends.foldl (fun acc c => setHolding c (heldAfter m s c) acc) (writeEntry m (movePosition m s))) c
      = stepBits s c := stepBits_congr (by simp [writeEntry]) (by simp [writeEntry]) c
  rw [stepBits_congr (s := marked m s) (by rw [applyMove_eq]; split <;> simp) (by rw [applyMove_eq]; split <;> simp) c, marked,
    stepBits_fold_markStep, before]

theorem compOf_applyMove (m : Movement) (s : State) (c : CompIx) :
    compOf (applyMove m s) c
      = if c ∈ m.named ∧ (compOf s c).hold = false then (compOf s c).released else compOf s c := by
  have before : compOf (marked m s) c = compOf s c := by simp [compOf, marked]
  rw [← before, ← compOf_fold_releaseLatch, applyMove_eq]
  split <;> rfl

theorem applyMove_safe (m : Movement) (s : State) :
    (applyMove m s).safe = { s.safe with comps := (applyMove m s).safe.comps } := by
  have before : (marked m s).safe = s.safe := by simp [marked]
  have latched : (applyMove m s).safe = (m.named.foldl releaseLatch (marked m s)).safe := by
    rw [applyMove_eq]
    split <;> rfl
  rw [latched]
  exact (fold_releaseLatch_safe _ _).trans (by rw [before])

theorem applyMove_float (m : Movement) (s : State) :
    (applyMove m s).float = { s.float with retryDue := s.float.retryDue
      + (if ∃ c, reserve s = some c ∧ ∃ i : DenomIx, look (holding s (.comp c)) i < look (heldAfter m s (.comp c)) i then 1
         else 0) } := by
  rw [applyMove_eq]
  by_cases rises : raisesReserve m s = true
  · rw [if_pos rises, if_pos ((raisesReserve_iff m s).mp rises)]
    simp [oweRetry, marked]
  · rw [if_neg rises, if_neg (mt (raisesReserve_iff m s).mpr rises)]
    simp [marked]

theorem applyMove_ports (m : Movement) (s : State) :
    (applyMove m s).ports = ((m.ends.filter fun c => (stepBits s c).flag).foldl
      (fun acc c => raise .auditStep (subjectOf c) [.u32 s.store.journal.nextSeq] acc) s).ports := by
  have latched : (applyMove m s).ports = (marked m s).ports := by
    rw [applyMove_eq]
    split <;> simp
  rw [latched, marked]
  refine fold_markStep_ports _ _ (by simp) (by simp) _ fun c => ?_
  rw [stepBits_congr (s := s) (by simp [writeEntry]) (by simp [writeEntry])]

/-! ## The vector forms (R7, R8) -/

theorem look_heldAfter_src {m : Movement} {a : Container} (form : formOf m.kind = .transfer) (src : m.src = some a)
    (dst : m.dst ≠ some a) (i : DenomIx) : look (heldAfter m s a) i = look (holding s a) i - look m.vec i := by
  simp [heldAfter, form, src, dst]

theorem look_heldAfter_dst {m : Movement} {b : Container} (form : formOf m.kind ≠ .replacement) (src : m.src ≠ some b)
    (dst : m.dst = some b) (i : DenomIx) : look (heldAfter m s b) i = look (holding s b) i + look m.vec i := by
  cases f : formOf m.kind with
  | replacement => exact absurd f form
  | transfer => simp [heldAfter, f, src, dst]
  | signed => simp [heldAfter, f, src, dst]

theorem heldAfter_replacement {m : Movement} {b : Container} (form : formOf m.kind = .replacement) (dst : m.dst = some b) :
    heldAfter m s b = m.vec := by
  simp [heldAfter, form, dst]

theorem itemsOf_eq (v : Counts) :
    itemsOf v = ((List.finRange 16).filter fun i => look v i ≠ 0).map fun i => (i, look v i) := by
  rw [itemsOf, List.filter_map]
  rfl

theorem entryOf_eq (m : Movement) (s : State) :
    entryOf m s =
      { seq := s.store.journal.nextSeq, day := s.day.number, time := s.day.clock, kind := m.kind, src := m.src, dst := m.dst
        value := valueOf s m.vec
        items := ((List.finRange 16).filter fun i => look m.vec i ≠ 0).map fun i => (i, look m.vec i)
        port := m.port, ops := m.ops, flags := m.flags
        audit := decide (∃ c, c ∈ m.ends ∧ (stepBits s c).flag = true) } := by
  have audit : (m.ends.any fun c => (stepBits s c).flag) = decide (∃ c, c ∈ m.ends ∧ (stepBits s c).flag = true) := by
    rw [Bool.eq_iff_iff]
    simp
  rw [entryOf, itemsOf_eq, audit]

/-! ## The Day Position (R13) -/

theorem movePosition_adjust {m : Movement} (h : m.kind = .adjust) :
    (movePosition m s).store.inflow = s.store.inflow.add m.vec ∧ (movePosition m s).store.outflow = s.store.outflow := by
  simp [movePosition, h]

theorem movePosition_handoverOut {m : Movement} (h : m.kind = .handoverOut) :
    (movePosition m s).store.outflow = s.store.outflow.add m.vec ∧ (movePosition m s).store.inflow = s.store.inflow := by
  simp [movePosition, h]

theorem movePosition_countResult {m : Movement} (h : m.kind = .countResult) {c : Container} (dst : m.dst = some c) :
    (movePosition m s).store.inflow = s.store.inflow.add (m.vec.sub (holding s c))
      ∧ (movePosition m s).store.outflow = s.store.outflow := by
  simp [movePosition, h, dst]

theorem movePosition_other {m : Movement} (ha : m.kind ≠ .adjust) (hh : m.kind ≠ .handoverOut) (hc : m.kind ≠ .countResult) :
    movePosition m s = s := by
  unfold movePosition
  split
  · exact absurd ‹_› hc
  · exact absurd ‹_› ha
  · exact absurd ‹_› hh
  · rfl

/-! ## The statement -/

/-- Settles O14, part by part of the state. -/
theorem movementApplied : Obligations.MovementApplied := by
  refine ⟨fun ms s => ⟨rfl, rfl⟩, fun k => by cases k <;> rfl, fun m s => ?_⟩
  intro t subject
  have named : subject = subjectOf := by
    funext c
    cases c <;> rfl
  have flows := applyMove_flows m s
  have tables := applyMove_tables m s
  refine ⟨holding_applyMove m s, fun c hs hd => heldAfter_of_not_mem m s c fun h => ((mem_ends m c).mp h).elim hs hd,
    fun a b hab form src dst i => ⟨look_heldAfter_src form src (by simp [dst, Ne.symm hab]) i,
      look_heldAfter_dst (by simp [form]) (by simp [src, hab]) dst i⟩,
    fun a form src dst i => look_heldAfter_src form src (by simp [dst]) i,
    fun b form src dst i => look_heldAfter_dst form (by simp [src]) dst i,
    fun b form dst => heldAfter_replacement form dst, entryOf_eq m s, applyMove_journal m s, by simp [t], fun h => ?_, fun h => ?_,
    fun h c dst => ?_, fun ha hh hc => ?_, stepBits_applyMove m s, compOf_applyMove m s, applyMove_safe m s, applyMove_float m s,
    ?_, by simp [t], by simp [t], by simp [t], by simp [t], by simp [t], by simp [t], by simp [t], by simp [t], by simp [t],
    by simp [t], by simp [t], by simp [t], by simp [t]⟩
  · exact ⟨flows.1.trans (movePosition_adjust h).1, flows.2.trans (movePosition_adjust h).2⟩
  · exact ⟨flows.2.trans (movePosition_handoverOut h).1, flows.1.trans (movePosition_handoverOut h).2⟩
  · exact ⟨flows.1.trans (movePosition_countResult h dst).1, flows.2.trans (movePosition_countResult h dst).2⟩
  · rw [movePosition_other ha hh hc] at flows
    exact flows
  · rw [named]
    exact applyMove_ports m s

end Sys2Proof.Machine
end

section
/-! The computation of a drawer (R101 to R104): the class of a variance, what settling and holding a till do, and the attempts that a
settlement leaves owed (R118). -/

namespace Sys2Proof.Machine

variable {s : State}

/-! ## The class of a variance (R102) -/

theorem beyond_classify {w l : Int} (hl : 0 ≤ l) : beyond (classify w l) = true ↔ l < |w| := by
  unfold classify
  split
  · next zero => simp [beyond, zero, hl]
  · split
    · next within => split <;> simp [beyond, within]
    · next past => split <;> simpa [beyond] using past

theorem classify_outside {w l : Int} (hl : 0 ≤ l) : (classify w l == .outside) = decide (l < |w| ∧ |w| ≤ 4 * l) := by
  unfold classify
  split
  · next zero => simp [zero, Int.not_lt.mpr hl]
  · split
    · next within => split <;> simp [Int.not_lt.mpr within]
    · next past =>
      have exceeds : l < |w| := Int.not_le.mp past
      split
      · next near => simp [exceeds, near]
      · next far =>
        rw [decide_eq_false fun h => far h.2]
        rfl

theorem classify_gross {w l : Int} (hl : 0 ≤ l) : (classify w l == .gross) = decide (l < |w| ∧ 4 * l < |w|) := by
  unfold classify
  split
  · next zero => simp [zero, Int.not_lt.mpr hl]
  · split
    · next within => split <;> simp [Int.not_lt.mpr within]
    · next past =>
      have exceeds : l < |w| := Int.not_le.mp past
      split
      · next near =>
        rw [decide_eq_false fun h => Int.not_lt.mpr near h.2]
        rfl
      · next far => simp [exceeds, Int.not_le.mp far]

theorem allowance_nonneg (c : TolClass) (final : Nat) : 0 ≤ allowance c final := by
  unfold allowance
  omega

/-! ## The attempts owed (R118) -/

theorem oweAttempt_autoPost (t : TrayIx) (s : State) : (oweAttempt t s).recon.autoPost = s.recon.autoPost := by
  unfold oweAttempt
  split <;> rfl

theorem look_oweAttempt (t y : TrayIx) (s : State) :
    look (oweAttempt t s).recon.attemptDue y = (look s.recon.attemptDue y || (s.recon.autoPost && decide (y = t))) := by
  unfold oweAttempt
  split
  · next on => by_cases same : y = t <;> simp [look_put, same, on]
  · next off => simp [off]

theorem look_fold_oweAttempt (l : List TrayIx) (y : TrayIx) (s : State) :
    look (l.foldl (fun acc t => oweAttempt t acc) s).recon.attemptDue y
      = (look s.recon.attemptDue y || (s.recon.autoPost && decide (y ∈ l))) := by
  induction l generalizing s with
  | nil => simp
  | cons t l ih =>
    rw [List.foldl_cons, ih, look_oweAttempt, oweAttempt_autoPost, Bool.or_assoc, ← Bool.and_or_distrib_left]
    simp [List.mem_cons]

/-! ## Settling and holding (R99, R103, R104) -/

theorem settleTotals_eq (k : Classification) (t : DayTotals) :
    settleTotals k t = { t with
      overTotal := t.overTotal + max k.variance 0, shortTotal := t.shortTotal + max (-k.variance) 0
      settled := settledIn t.settled k.cls } := by
  have surplus : (if 0 < k.variance then t.overTotal + k.variance else t.overTotal) = t.overTotal + max k.variance 0 := by
    split <;> omega
  have shortage : (if k.variance < 0 then t.shortTotal + |k.variance| else t.shortTotal) = t.shortTotal + max (-k.variance) 0 := by
    split
    · next neg => rw [abs_of_neg neg]; omega
    · omega
  rw [settleTotals, surplus, shortage]

theorem tillOf_settleTill (i j : TillIx) (k : Classification) (s : State) :
    tillOf (settleTill i k s) j = if j = i then { tillOf s i with
        state := .idle, hold := HoldReasons.empty
        last := some { cls := k.cls, variance := k.variance, allowance := k.allowance, time := s.day.clock } }
      else tillOf s j := by
  refine Eq.trans ?_ (tillOf_modTill i j (fun r => { r with
    state := .idle, hold := HoldReasons.empty
    last := some { cls := k.cls, variance := k.variance, allowance := k.allowance, time := s.day.clock } }) s)
  simp [settleTill, tillOf]

theorem settleTill_totals (i : TillIx) (k : Classification) (s : State) :
    (settleTill i k s).store.totals = settleTotals k s.store.totals := by
  simp [settleTill]

theorem settleTill_ports (i : TillIx) (k : Classification) (s : State) :
    (settleTill i k s).ports
      = (raise .tillSettled (.till i) [.u8 (position classNames k.cls), .signed k.variance, .value k.allowance] s).ports := by
  simp only [settleTill, fold_oweAttempt_frame, report_ports]
  refine raise_ports_congr ?_ ?_ _ _ _ <;> rfl

theorem settleTill_attemptDue (i : TillIx) (k : Classification) (s : State) (y : TrayIx) :
    look (settleTill i k s).recon.attemptDue y = (look s.recon.attemptDue y
      || (s.recon.autoPost && decide ((trayOf s y).state = .counted
        ∧ (trayOf s y).source = some (.drawer i (tillOf s i).session)))) := by
  have drawer (u : State) (trays : u.count = s.count) (session : (tillOf u i).session = (tillOf s i).session) :
      decide (y ∈ (List.finRange 2).filter (holdsDrawer u i))
        = decide ((trayOf s y).state = .counted ∧ (trayOf s y).source = some (.drawer i (tillOf s i).session)) := by
    rw [Bool.eq_iff_iff, decide_eq_true_iff, decide_eq_true_iff]
    simp [holdsDrawer, trayOf, trays, session]
  simp only [settleTill, look_fold_oweAttempt]
  rw [drawer _ (by simp) (by simp [tillOf, modTill])]
  simp

theorem settleTill_reported (i : TillIx) (k : Classification) (s : State) : (settleTill i k s).event.reported = true := by
  simp [settleTill, report]

theorem settleTill_holdings (i : TillIx) (k : Classification) (s : State) (c : Container) :
    holding (settleTill i k s) c = holding s c := by
  cases c <;> simp [settleTill, holding]

theorem tillOf_holdTill (i j : TillIx) (h : HoldReasons) (l : List Field) (s : State) :
    tillOf (holdTill i h l s) j = if j = i then { tillOf s i with state := .held, hold := h } else tillOf s j := by
  refine Eq.trans ?_ (tillOf_modTill i j (fun r => { r with state := .held, hold := h }) s)
  simp [holdTill, tillOf]

theorem holdTill_ports (i : TillIx) (h : HoldReasons) (l : List Field) (s : State) :
    (holdTill i h l s).ports = (raise .tillHeld (.till i) (.u8 (holdBits h) :: l) s).ports := by
  refine raise_ports_congr ?_ ?_ _ _ _ <;> rfl

/-! ## The computation (R101, R103) -/

/-- The figures of the computation that a till's present records make. -/
def figures (i : TillIx) (s : State) (d : DrawerResult) (final : Nat) : Classification :=
  computeDrawer d.counted (tillOf s i).f final (tillOf s i).p (look s.recon.classes (tillOf s i).cls)

/-- The state with the figures entered in the drawer result. -/
def classedDrawer (i : TillIx) (s : State) (d : DrawerResult) (final : Nat) : State :=
  setDrawer i (some { d with classed := some (figures i s d final) }) s

theorem runComputation_settles {i : TillIx} {d : DrawerResult} {final : Nat} (hd : drawerOf s i = some d)
    (hf : (tillOf s i).final = some final) (within : beyond (figures i s d final).cls = false)
    (clear : (d.uncertain || d.saturated) = false) :
    runComputation i s = settleTill i (figures i s d final) (classedDrawer i s d final) := by
  simp only [runComputation, hd, hf]
  exact if_neg (by rw [clear, Bool.or_false]; exact Bool.not_eq_true _ ▸ within)

theorem runComputation_holds {i : TillIx} {d : DrawerResult} {final : Nat} (hd : drawerOf s i = some d)
    (hf : (tillOf s i).final = some final)
    (held : beyond (figures i s d final).cls = true ∨ (d.uncertain || d.saturated) = true) :
    runComputation i s = holdTill i (holdOf (figures i s d final).cls (d.uncertain || d.saturated))
      [.signed (figures i s d final).expected, .signed (figures i s d final).variance, .value (figures i s d final).allowance,
        .u8 (position classNames (figures i s d final).cls)] (classedDrawer i s d final) := by
  simp only [runComputation, hd, hf]
  exact if_pos (Bool.or_eq_true_iff.mpr held)

/-- The parts that settling and holding share. -/
theorem runComputation_rest {i : TillIx} {d : DrawerResult} {final : Nat} (hd : drawerOf s i = some d)
    (hf : (tillOf s i).final = some final) :
    (∀ j, j ≠ i → tillOf (runComputation i s) j = tillOf s j) ∧ (∀ c, holding (runComputation i s) c = holding s c)
      ∧ (runComputation i s).event.reported = true := by
  by_cases held : beyond (figures i s d final).cls = true ∨ (d.uncertain || d.saturated) = true
  · rw [runComputation_holds hd hf held]
    refine ⟨fun j hj => ?_, fun c => ?_, rfl⟩
    · rw [tillOf_holdTill, if_neg hj]
      rfl
    · exact holding_congr _ _ (by simp [classedDrawer, setDrawer]) c
  · obtain ⟨within, clear⟩ := not_or.mp held
    rw [runComputation_settles hd hf (Bool.eq_false_iff.mpr within) (Bool.eq_false_iff.mpr clear)]
    refine ⟨fun j hj => ?_, fun c => ?_, settleTill_reported ..⟩
    · rw [tillOf_settleTill, if_neg hj]
      rfl
    · rw [settleTill_holdings]
      exact holding_congr _ _ rfl c

/-- Settles O9: within its allowance and undoubtful the drawer settles, else the till is held. -/
theorem drawerComputation : Obligations.DrawerComputation := by
  intro i s d final hd hf r tol e w l doubtful t
  have nonneg : 0 ≤ l := allowance_nonneg tol final
  have cls : (figures i s d final).cls = classify w l := rfl
  refine ⟨fun within clear => ?_, fun held => ?_, runComputation_rest hd hf⟩
  · have settles : t = settleTill i (figures i s d final) (classedDrawer i s d final) :=
      runComputation_settles hd hf (Bool.eq_false_iff.mpr fun b => Int.not_lt.mpr within ((beyond_classify nonneg).mp b)) clear
    rw [settles]
    refine ⟨?_, ?_, ?_, fun y => ?_⟩
    · rw [tillOf_settleTill, if_pos rfl]
      rfl
    · rw [settleTill_totals, settleTotals_eq]
      refine congrArg (fun n => { s.store.totals with
        overTotal := s.store.totals.overTotal + max w 0, shortTotal := s.store.totals.shortTotal + max (-w) 0, settled := n }) ?_
      rw [cls]
      cases classify w l <;> rfl
    · rw [settleTill_ports]
      refine raise_ports_congr ?_ ?_ _ _ _ <;> rfl
    · exact settleTill_attemptDue ..
  · have holds := runComputation_holds hd hf (held.imp_left (cls ▸ (beyond_classify nonneg).mpr))
    have reasons : holdOf (classify w l) doubtful
        = { undeclared := false, pendingPickups := false
            outside := decide (l < |w| ∧ |w| ≤ 4 * l), gross := decide (l < |w| ∧ 4 * l < |w|), uncertain := doubtful } := by
      rw [holdOf, classify_outside nonneg, classify_gross nonneg]
    rw [show t = _ from holds]
    refine ⟨?_, by simp [classedDrawer, setDrawer], by simp [classedDrawer, setDrawer], ?_⟩
    · rw [tillOf_holdTill, if_pos rfl, cls, reasons]
      rfl
    · rw [holdTill_ports, cls, reasons]
      refine raise_ports_congr ?_ ?_ _ _ _ <;> rfl

end Sys2Proof.Machine
end

section
/-! SET AUDIT STEP, RELEASE STEP and SET ROUTING (R21, R23, R197), the one pass of RELEASE STEP, and the report that a parking condition
has ended (R52, R119, R130). -/

namespace Sys2Proof.Machine

variable {s : State}

/-! ## The requests -/

@[simp] theorem accepted_routing (h : Req) (code : Nat) (s : State) :
    (accepted h code s).ports.routing = s.ports.routing := by
  unfold accepted
  cases h.port <;> simp [heard, takeSlot, modPort, modSession]

theorem stepContainer_eq {c : Container} (hc : (∃ i, c = .till i) ∨ ∃ i, c = .comp i) : stepContainer (.ok c) = some c := by
  obtain ⟨i, rfl⟩ | ⟨i, rfl⟩ := hc <;> rfl

theorem setAuditStep_settled {h : Req} {c : Container} (on : Bool) (hr : officeReady s h = true)
    (hc : stepContainer (.ok c) = some c) :
    exec (.setAuditStep h (.ok c) (.ok on)) s
      = .next (settled h .ok [] (setStepBits c { flag := on, mark := (stepBits s c).mark } (accepted h 0x0A s))) := by
  have reply : replySetAuditStep (.ok c) (.ok on) (accepted h 0x0A s)
      = Reply.ok [] (setStepBits c { flag := on, mark := (stepBits s c).mark } (accepted h 0x0A s)) := by
    simp [replySetAuditStep, hc]
  exact congrArg Host.Outcome.next (office_settled hr rfl reply (by simp [Reply.ok]))

theorem releaseStep_taken {h : Req} {c : Container} (hr : officeReady s h = true)
    (hc : (∃ i, c = .till i) ∨ ∃ i, c = .comp i) :
    exec (.releaseStep h (.ok c)) s = .next (finish (releaseStepOf h c (accepted h 0x0B s))) := by
  obtain ⟨ready, port⟩ := officeReady_iff.mp hr
  obtain ⟨i, rfl⟩ | ⟨i, rfl⟩ := hc
  · exact congrArg Host.Outcome.next (request_ready h _ _ s ready (port ▸ rfl))
  · exact congrArg Host.Outcome.next (request_ready h _ _ s ready (port ▸ rfl))

theorem releaseStepOf_unmarked (h : Req) {c : Container} (code : Nat) (unmarked : (stepBits s c).mark = false) :
    finish (releaseStepOf h c (accepted h code s)) = settled h .ok [] (accepted h code s) := by
  have mark : ¬ (stepBits (accepted h code s) c).mark = true := by simp [unmarked]
  rw [releaseStepOf, if_neg mark]
  exact replied_plain h .ok [] _ (by simp)

theorem releaseStepOf_marked (h : Req) {c : Container} (code : Nat) (marked : (stepBits s c).mark = true) :
    releaseStepOf h c (accepted h code s)
      = parkingEnded (isComp c) false (stepPass c (answer h.port h.tag .ok 0 []
          (setStepBits c { flag := (stepBits s c).flag, mark := false } (accepted h code s)))) := by
  have mark : (stepBits (accepted h code s) c).mark = true := by simp [marked]
  rw [releaseStepOf, if_pos mark, stepBits_accepted]

theorem newRoute_office (k : NoticeKind) (ps : PortSet) (priority : Nat) :
    newRoute k ps priority
      = { ports := { ps with office := ps.office || k == .doorForced || k == .powerReturn || k == .memorySuspect }
          priority } := by
  have always : officeAlways k = (k == .doorForced || k == .powerReturn || k == .memorySuspect) := by cases k <;> rfl
  simp [newRoute, always, Bool.or_assoc]

theorem setRouting_settled {h : Req} {priority : Nat} (k : NoticeKind) (ps : PortSet) (hr : officeReady s h = true)
    (hp : priority ≤ 3) :
    exec (.setRouting h (.ok k) (.ok ps) priority) s
      = .next (settled h .ok (routeFields (newRoute k ps priority)) { accepted h 0x0C s with
          ports := { (accepted h 0x0C s).ports with
            routing := put s.ports.routing (kindIx k) (newRoute k ps priority) } }) := by
  have reply : replySetRouting (.ok k) (.ok ps) priority (accepted h 0x0C s)
      = Reply.ok (routeFields (newRoute k ps priority)) { accepted h 0x0C s with
          ports := { (accepted h 0x0C s).ports with
            routing := put s.ports.routing (kindIx k) (newRoute k ps priority) } } := by
    simp [replySetRouting, valueIn, hp]
  exact congrArg Host.Outcome.next (office_settled hr rfl reply (by simp [Reply.ok]))

/-! ## The pass of RELEASE STEP (R23) -/

/-- The stamp under which a waiter entered its list. -/
def stampOf : FloatWaiter ⊕ AccessWaiter → Nat := Sum.elim (·.stamp) (·.stamp)

/-- A waiter of either list re-tried. -/
def retryEither (acc : State) (v : FloatWaiter ⊕ AccessWaiter) : State :=
  Sum.elim (fun w => retryFloat acc w) (fun w => retryAccess acc w) v

/-- Sorting pairs of a stamp and its waiter by the stamp leaves the waiters in the order of their stamps. -/
theorem sorted_waiters (l : List (FloatWaiter ⊕ AccessWaiter)) :
    let order := ((l.map fun v => (stampOf v, v)).insertionSort fun a b => a.1 ≤ b.1).map (·.2)
    order.Perm l ∧ order.Pairwise fun v w => stampOf v ≤ stampOf w := by
  intro order
  have perm := List.perm_insertionSort (fun a b : Nat × (FloatWaiter ⊕ AccessWaiter) => a.1 ≤ b.1) (l.map fun v => (stampOf v, v))
  constructor
  · simpa [Function.comp_def] using perm.map (·.2)
  · have sorted := List.pairwise_insertionSort (fun a b : Nat × (FloatWaiter ⊕ AccessWaiter) => a.1 ≤ b.1)
      (l.map fun v => (stampOf v, v))
    refine List.pairwise_map.mpr (sorted.imp_of_mem fun {a b} ha hb le => ?_)
    have stamped (x : Nat × (FloatWaiter ⊕ AccessWaiter))
        (hx : x ∈ (l.map fun v => (stampOf v, v)).insertionSort fun a b => a.1 ≤ b.1) : stampOf x.2 = x.1 := by
      obtain ⟨v, _, rfl⟩ := List.mem_map.mp (perm.mem_iff.mp hx)
      rfl
    rwa [stamped a ha, stamped b hb]

/-- The one pass takes the float and access waiters parked AUDIT for the container in the order of their stamps. -/
theorem stepPass_order (s : State) (c : Container) : ∃ order : List (FloatWaiter ⊕ AccessWaiter),
    order.Perm ((s.float.waiters.filter fun w => w.park == .access .audit c).map .inl
        ++ (s.safe.waiters.filter fun w => w.reason == .audit && w.container == c).map .inr)
    ∧ order.Pairwise (fun v w => stampOf v ≤ stampOf w) ∧ stepPass c s = order.foldl retryEither s := by
  obtain ⟨perm, sorted⟩ := sorted_waiters ((s.float.waiters.filter fun w => w.park == .access .audit c).map .inl
    ++ (s.safe.waiters.filter fun w => w.reason == .audit && w.container == c).map .inr)
  refine ⟨_, perm, sorted, ?_⟩
  rw [List.foldl_map, List.map_append, List.map_map, List.map_map]
  unfold stepPass
  refine congrArg (fun f => List.foldl f s _) ?_
  funext acc v
  obtain ⟨n, v⟩ := v
  cases v <;> rfl

/-! ## The report that a parking condition has ended (R52, R119, R130) -/

/-- A tray whose pending auto-post is for one of the compartments reported. -/
def reportedFor (among : CompIx → Bool) (s : State) (y : TrayIx) : Prop :=
  look s.recon.pending y = true ∧ (trayOf s y).state = .counted ∧ ∃ c, destinationOf s y = some c ∧ among c = true

/-- The marks of the reports given, once a report is made. -/
def reportedMarks (among : CompIx → Bool) (s : State) : Vector Bool 2 :=
  Vector.ofFn fun t => look s.recon.reported t || (look s.recon.pending t && (trayOf s t).state == .counted
    && (match destinationOf s t with | some c => among c | none => false))

theorem look_reportedMarks (among : CompIx → Bool) (s : State) (y : TrayIx) :
    look (reportedMarks among s) y = true ↔ look s.recon.reported y = true ∨ reportedFor among s y := by
  cases dest : destinationOf s y <;> simp [reportedMarks, reportedFor, dest, and_assoc]

theorem parkingEnded_eq (among : CompIx → Bool) (toFloat : Bool) (s : State) :
    parkingEnded among toFloat s = { s with
      recon := { s.recon with reported := reportedMarks among s }
      float := { s.float with retryDue := s.float.retryDue
        + (if toFloat = true ∧ ∃ c, reserve s = some c ∧ among c = true then 1 else 0) } } := by
  have told : (toFloat && (match reserve s with | some c => among c | none => false)) = true
      ↔ toFloat = true ∧ ∃ c, reserve s = some c ∧ among c = true := by
    cases reserve s <;> simp
  by_cases owed : toFloat = true ∧ ∃ c, reserve s = some c ∧ among c = true
  · rw [if_pos owed]
    exact if_pos (told.mpr owed)
  · rw [if_neg owed]
    exact if_neg (mt told.mp owed)

/-- Settles O22: the three requests, the one pass, and the report. -/
theorem stepsAndRouting : Obligations.StepsAndRouting := by
  refine ⟨fun s h hr => ⟨fun c on hc => ?_, fun k ps priority hp => ?_⟩, stepPass_order, fun among toFloat s => ?_⟩
  · have step := stepContainer_eq hc
    refine ⟨setAuditStep_settled on hr step, fun unmarked => ?_, fun marked => ?_⟩
    · rw [releaseStep_taken hr hc, releaseStepOf_unmarked h _ unmarked]
    · rw [releaseStep_taken hr hc, releaseStepOf_marked h _ marked]
  · have entry := setRouting_settled k ps hr hp
    rw [newRoute_office] at entry
    exact entry
  · dsimp only
    rw [parkingEnded_eq]
    exact ⟨look_reportedMarks among s, rfl⟩

end Sys2Proof.Machine
end

section
/-! RESTORE COUNTER, RESET OPERATIONS and ACCEPT VARIANCE (R77, R91, R107): the abandonment of the running count (R90), the answers to
the waiters of a list, and a settlement in every class (R104). -/

namespace Sys2Proof.Machine

variable {s t : State}

/-! ## The ports (R193, R196) -/

theorem portOf_modPort (p q : Port) (f : PortRec → PortRec) (s : State) :
    portOf (modPort p f s) q = if q = p then f (portOf s p) else portOf s q := by
  cases p <;> cases q <;> rfl

theorem modPort_eq (p : Port) (f : PortRec → PortRec) (s : State) :
    modPort p f s = { s with ports := (modPort p f s).ports } := by
  cases p <;> rfl

theorem modPort_routing (p : Port) (f : PortRec → PortRec) (s : State) :
    (modPort p f s).ports.routing = s.ports.routing := by
  cases p <;> rfl

theorem answer_eq (p : Port) (tag : Tag) (c : Code) (d : Nat) (l : List Field) (s : State) :
    answer p tag c d l s = { s with ports := (answer p tag c d l s).ports } := modPort_eq ..

/-- A notice raised changes the ports alone (R196). -/
theorem raise_eq (k : NoticeKind) (x : Subject) (l : List Field) (s : State) :
    raise k x l s = { s with ports := (raise k x l s).ports } := by
  unfold raise
  dsimp only
  generalize look s.ports.routing (kindIx k) = route
  generalize ({ kind := k, subject := x, priority := route.priority, day := s.day.number, time := s.day.clock, content := l }
    : Notice) = n
  have entered (b : Bool) (p : Port) (u : State) :
      ∃ r, (if b = true then modPort p (enqueue n) u else u) = { u with ports := r } := by
    cases b
    · exact ⟨u.ports, rfl⟩
    · exact ⟨_, modPort_eq p (enqueue n) u⟩
  obtain ⟨a, ha⟩ := entered (route.ports.office || officeAlways k) .office s
  obtain ⟨b, hb⟩ := entered route.ports.till .till { s with ports := a }
  obtain ⟨c, hc⟩ := entered route.ports.courier .courier { s with ports := b }
  rw [ha, hb, hc]

/-! ## Waiters answered (R193, R205) -/

/-- The waiters of a list answered in its order. -/
def answerEach (ws : List (Port × Tag)) (c : Code) (s : State) : State :=
  ws.foldl (fun acc w => answer w.1 w.2 c 0 [] acc) s

theorem answerEach_eq (ws : List (Port × Tag)) (c : Code) (s : State) :
    answerEach ws c s = { s with ports := (answerEach ws c s).ports } := by
  induction ws generalizing s with
  | nil => rfl
  | cons w ws ih =>
    rw [answerEach, List.foldl_cons]
    refine (ih _).trans ?_
    rw [answer_eq]
    rfl

theorem portOf_answer (p q : Port) (tag : Tag) (c : Code) (s : State) :
    portOf (answer p tag c 0 [] s) q = if q = p then { portOf s p with
      slots := put (portOf s p).slots tag { slotOf s p tag with state := .answered }
      responses := (portOf s p).responses
        ++ framesOf { tag := tag.1, code := (slotOf s p tag).code, outcome := c, detail := 0, results := [] } }
      else portOf s q := portOf_modPort ..

theorem slotOf_answer (p q : Port) (tag u : Tag) (c : Code) (s : State) :
    slotOf (answer p tag c 0 [] s) q u
      = if (q, u) = (p, tag) then { slotOf s q u with state := .answered } else slotOf s q u := by
  rw [slotOf, portOf_answer]
  by_cases port : q = p
  · subst port
    by_cases slot : u = tag
    · subst slot
      simp
    · simp [look_put, slot, slotOf]
  · simp [port, slotOf]

/-- Answering leaves the code that a slot's answer echoes. -/
theorem slotOf_answer_code (p q : Port) (tag u : Tag) (c : Code) (s : State) :
    (slotOf (answer p tag c 0 [] s) q u).code = (slotOf s q u).code := by
  rw [slotOf_answer]
  split <;> rfl

theorem answersEach (ws : List (Port × Tag)) (c : Code) (s : State) : AnswersEach ws c s (answerEach ws c s) := by
  induction ws generalizing s with
  | nil => exact ⟨by simp [answerEach], by simp [answerEach], by simp [answerEach], rfl⟩
  | cons w ws ih =>
    obtain ⟨responses, slots, rest, routing⟩ := ih (answer w.1 w.2 c 0 [] s)
    have step : answerEach (w :: ws) c s = answerEach ws c (answer w.1 w.2 c 0 [] s) := rfl
    rw [step]
    refine ⟨fun p => ?_, fun p tag => ?_, fun p => ?_, ?_⟩
    · rw [responses, portOf_answer]
      simp only [slotOf_answer_code]
      by_cases here : p = w.1
      · subst here
        simp
      · rw [if_neg here, List.filter_cons_of_neg (by simpa using Ne.symm here)]
    · rw [slots, slotOf_answer]
      by_cases later : (p, tag) ∈ ws <;> by_cases here : (p, tag) = w <;> simp [later, here]
    · obtain ⟨link, notices, dropped, line⟩ := rest p
      rw [link, notices, dropped, line, portOf_answer]
      split
      · next here => subst here; exact ⟨rfl, rfl, rfl, rfl⟩
      · exact ⟨rfl, rfl, rfl, rfl⟩
    · rw [routing]
      exact modPort_routing ..

theorem AnswersEach.of_ports {ws : List (Port × Tag)} {c : Code} {u : State} (h : AnswersEach ws c u t) (hp : u.ports = s.ports) :
    AnswersEach ws c s t := by
  have ports (p : Port) : portOf u p = portOf s p := by cases p <;> simp [portOf, hp]
  obtain ⟨responses, slots, rest, routing⟩ := h
  simp only [slotOf, ports] at responses slots rest
  exact ⟨responses, slots, rest, routing.trans (by rw [hp])⟩

theorem dismissCounts_eq (sel : CountWaiter → Bool) (c : Code) (s : State) :
    dismissCounts sel c s
      = answerEach ((s.count.waiters.filter sel).map fun w => (w.port, w.tag)) c (discardCounts sel s) := by
  rw [answerEach, List.foldl_map]
  rfl

/-! ## The running count abandoned (R90, R183) -/

/-- Where the occupancy has not risen, no mark is reached, and each stays only while its level is still met (R184). -/
theorem journalMarks_of_le {before : Nat} (h : occupancy s ≤ before) :
    journalMarks before s = { s with store := { s.store with journal := { s.store.journal with
      high := s.store.journal.high && decide (Config.journalHigh ≤ occupancy s)
      full := s.store.journal.full && decide (Config.journalSize ≤ occupancy s) } } } := by
  have unreached (level : Nat) (b : Bool) : (decide (before < level) && decide (level ≤ occupancy s) && !b) = false := by
    rw [Bool.and_eq_false_iff]
    refine .inl (Bool.eq_false_iff.mpr fun both => ?_)
    simp only [Bool.and_eq_true, decide_eq_true_eq] at both
    omega
  unfold journalMarks
  dsimp only
  rw [unreached, unreached, Bool.or_false, Bool.or_false, if_neg Bool.false_ne_true, if_neg Bool.false_ne_true,
    Bool.and_comm s.store.journal.high, Bool.and_comm s.store.journal.full]

theorem releaseEntry_eq (s : State) :
    releaseEntry s = { s with store := { s.store with journal := { s.store.journal with
      held := s.store.journal.held - 1
      high := s.store.journal.high
        && decide (Config.journalHigh ≤ s.store.journal.entries.length + (s.store.journal.held - 1))
      full := s.store.journal.full
        && decide (Config.journalSize ≤ s.store.journal.entries.length + (s.store.journal.held - 1)) } } } :=
  journalMarks_of_le (Nat.add_le_add_left (Nat.sub_le ..) _)

theorem abandonCount_eq {r : RunningCount} (hr : s.count.running = some r) : abandonCount s = abandoned r s := by
  rw [abandonCount, hr]
  dsimp only
  rw [invalidate, releaseEntry_eq]
  rfl

theorem withdrawRunning_some {r : RunningCount} (hr : s.count.running = some r) :
    withdrawRunning s = answer r.port r.tag .withdrawn 0 [] (abandoned r s) := by
  rw [withdrawRunning, hr, ← abandonCount_eq hr]

theorem withdrawRunning_none (hr : s.count.running = none) : withdrawRunning s = s := by
  rw [withdrawRunning, hr]

/-! ## A settlement in every class (R104) -/

theorem fold_oweAttempt_eq (l : List TrayIx) (s : State) :
    l.foldl (fun acc t => oweAttempt t acc) s = { s with recon := { s.recon with
      attemptDue := (l.foldl (fun acc t => oweAttempt t acc) s).recon.attemptDue } } := by
  induction l generalizing s with
  | nil => rfl
  | cons t l ih =>
    rw [List.foldl_cons]
    refine (ih _).trans ?_
    have one : ∃ v, oweAttempt t s = { s with recon := { s.recon with attemptDue := v } } := by
      unfold oweAttempt
      split
      · exact ⟨_, rfl⟩
      · exact ⟨s.recon.attemptDue, rfl⟩
    obtain ⟨v, hv⟩ := one
    rw [hv]

theorem settleTill_eq (i : TillIx) (k : Classification) (s : State) :
    settleTill i k s = { s with
      store := { s.store with totals := settleTotals k s.store.totals }
      float := { s.float with tills := (settleTill i k s).float.tills }
      recon := { s.recon with attemptDue := (settleTill i k s).recon.attemptDue }
      ports := (raise .tillSettled (.till i)
        [.u8 (position classNames k.cls), .signed k.variance, .value k.allowance] s).ports
      event := { s.event with reported := true } } := by
  have ports := settleTill_ports i k s
  have settled : ∃ tills attemptDue ports, settleTill i k s = { s with
      store := { s.store with totals := settleTotals k s.store.totals }, float := { s.float with tills }
      recon := { s.recon with attemptDue }, ports, event := { s.event with reported := true } } := by
    unfold settleTill
    dsimp only
    rw [fold_oweAttempt_eq, raise_eq]
    exact ⟨_, _, _, rfl⟩
  obtain ⟨tills, due, sent, settled⟩ := settled
  rw [settled] at ports ⊢
  dsimp only at ports ⊢
  rw [ports]

/-! ## The requests -/

theorem authorised_none {level : Level} {h : Req} (owner : State → Reply) (code : Nat) (ha : authorise level h s = none) :
    authorised level h owner (accepted h code s) = owner (accepted h code s) := by
  simp [authorised, ha]

theorem authorised_some {level : Level} {h : Req} (owner : State → Reply) (code : Nat) {e : Code}
    (ha : authorise level h s = some e) : authorised level h owner (accepted h code s) = Reply.refuse e (accepted h code s) := by
  simp [authorised, ha]

theorem restoreCounter_cases {h : Req} (hr : officeReady s h = true) :
    (authorise .senior h s = none → s.count.station = .down →
      exec (.restoreCounter h) s = .next (replied h .ok [] (signal .countPass
        { accepted h 0x33 s with count := { s.count with station := .idle, faults := 0 } })))
    ∧ (authorise .senior h s = none → s.count.station ≠ .down →
      exec (.restoreCounter h) s = .next (settled h .badState [] (accepted h 0x33 s)))
    ∧ (∀ e, authorise .senior h s = some e →
      exec (.restoreCounter h) s = .next (settled h e [] (accepted h 0x33 s))) := by
  refine ⟨fun ha down => ?_, fun ha up => ?_, fun e ha => ?_⟩
  · have reply : authorised .senior h replyRestoreCounter (accepted h 0x33 s)
        = Reply.ok [] (signal .countPass
            { accepted h 0x33 s with count := { s.count with station := .idle, faults := 0 } }) := by
      rw [authorised_none _ _ ha]
      simp [replyRestoreCounter, down, modCount]
    exact congrArg Host.Outcome.next ((office_replied 0x33 hr rfl).trans (by rw [reply]; rfl))
  · have reply : authorised .senior h replyRestoreCounter (accepted h 0x33 s)
        = Reply.refuse .badState (accepted h 0x33 s) := by
      rw [authorised_none _ _ ha]
      simp [replyRestoreCounter, up]
    exact congrArg Host.Outcome.next (office_settled hr rfl reply (by simp [Reply.refuse]))
  · exact congrArg Host.Outcome.next (office_settled hr rfl (authorised_some _ _ ha) (by simp [Reply.refuse]))

theorem resetOperations_replied {h : Req} (hr : officeReady s h = true) :
    exec (.resetOperations h) s
      = .next (replied h .ok [.u8 (if s.count.running = none then 0 else 1), .u8 s.count.waiters.length]
          (dismissCounts (fun _ => true) .withdrawn (withdrawRunning (accepted h 0x34 s)))) := by
  have running : (if s.count.running.isSome = true then 1 else 0) = if s.count.running = none then 0 else 1 := by
    cases s.count.running <;> rfl
  have reply : replyResetOperations (accepted h 0x34 s)
      = Reply.ok [.u8 (if s.count.running = none then 0 else 1), .u8 s.count.waiters.length]
          (dismissCounts (fun _ => true) .withdrawn (withdrawRunning (accepted h 0x34 s))) := by
    simp only [replyResetOperations, accepted_frame, running]
  exact congrArg Host.Outcome.next ((office_replied 0x34 hr rfl).trans (by rw [reply]; rfl))

theorem acceptVariance_cases {h : Req} {i : TillIx} {d : DrawerResult} {k : Classification} (hr : officeReady s h = true)
    (held : (tillOf s i).state = .held) (declared : (tillOf s i).hold.undeclared = false)
    (counted : (tillOf s i).hold.pendingPickups = false) (drawer : drawerOf s i = some d) (classed : d.classed = some k) :
    (authorise (if (tillOf s i).hold.gross = true then .dualManager else .senior) h s = none →
      exec (.acceptVariance h i.1) s
        = .next (replied h .ok
            [.u8 (position classNames k.cls), .signed k.expected, .signed k.variance, .value k.allowance]
            (settleTill i k (setDrawer i
              (some { d with acceptOps := if (tillOf s i).hold.gross = true then [h.op1, h.op2] else [h.op1] })
              (accepted h 0x36 s)))))
    ∧ (∀ e, authorise (if (tillOf s i).hold.gross = true then .dualManager else .senior) h s = some e →
      exec (.acceptVariance h i.1) s = .next (settled h e [] (accepted h 0x36 s))) := by
  have ops : recordedOps (if (tillOf s i).hold.gross = true then .dualManager else .senior) h
      = if (tillOf s i).hold.gross = true then [h.op1, h.op2] else [h.op1] := by
    cases (tillOf s i).hold.gross <;> rfl
  have taken : drawerOf (accepted h 0x36 s) i = some d := by simpa [drawerOf] using drawer
  refine ⟨fun ha => ?_, fun e ha => ?_⟩
  · have reply : replyAcceptVariance h i.1 (accepted h 0x36 s) = Reply.ok (classFields k) (settleTill i k (setDrawer i
        (some { d with acceptOps := if (tillOf s i).hold.gross = true then [h.op1, h.op2] else [h.op1] })
        (accepted h 0x36 s))) := by
      simp [replyAcceptVariance, taken, classed, held, waiting, declared, counted, acceptLevel, ha, ops]
    exact congrArg Host.Outcome.next ((office_replied 0x36 hr rfl).trans (by rw [reply]; rfl))
  · have reply : replyAcceptVariance h i.1 (accepted h 0x36 s) = Reply.refuse e (accepted h 0x36 s) := by
      simp [replyAcceptVariance, taken, classed, held, waiting, declared, counted, acceptLevel, ha]
    exact congrArg Host.Outcome.next (office_settled hr rfl reply (by simp [Reply.refuse]))

/-- Settles O34: the three requests, a settlement in every class, and the waiters answered. -/
theorem stationAndVarianceRequests : Obligations.StationAndVarianceRequests := by
  refine ⟨fun s h hr => ?_, fun s i k => ?_, fun sel k s => ?_⟩
  · obtain ⟨restored, refused, unauthorised⟩ := restoreCounter_cases hr
    refine ⟨restored, refused, unauthorised, ?_, fun i d k held declared counted drawer classed =>
      acceptVariance_cases hr held declared counted drawer classed⟩
    have withdrawn : withdrawRunning (accepted h 0x34 s) = match s.count.running with
        | some r => answer r.port r.tag .withdrawn 0 [] (abandoned r (accepted h 0x34 s))
        | none => accepted h 0x34 s := by
      cases running : s.count.running with
      | some r => exact withdrawRunning_some (by simp [running])
      | none => exact withdrawRunning_none (by simp [running])
    exact (resetOperations_replied hr).trans (congrArg
      (fun u => Host.Outcome.next (replied h .ok _ (dismissCounts (fun _ => true) .withdrawn u))) withdrawn)
  · refine ⟨fun j => tillOf_settleTill i j k s, settleTill_attemptDue i k s, ?_⟩
    refine (settleTill_eq i k s).trans ?_
    rw [settleTotals_eq]
    cases k.cls <;> rfl
  · dsimp only
    rw [dismissCounts_eq]
    refine ⟨?_, (answersEach _ k _).of_ports rfl⟩
    exact (answerEach_eq _ _ _).trans rfl

end Sys2Proof.Machine
end

section
/-! The reads (R16, R41, R68, R95, R112, R113, R143, R160, R178, R197, R201): each answers fields of the state in which it arrives, and
changes nothing. -/

namespace Sys2Proof.Machine

variable {s : State} {h : Req}

/-! ## What a read finds in the state in which it is taken up -/

section Taken

variable (h : Req) (code : Nat) (s : State)

@[simp] theorem vectorFields_accepted (v : Counts) : vectorFields (accepted h code s) v = vectorFields s v := by
  simp [vectorFields]

@[simp] theorem officeSum_accepted (i : DenomIx) : officeSum (accepted h code s) i = officeSum s i := by simp [officeSum]

@[simp] theorem officeSums_accepted : officeSums (accepted h code s) = officeSums s := by simp [officeSums]

theorem positionLine_accepted : positionLine (accepted h code s) = positionLine s := by
  funext i
  simp [positionLine]

theorem countWaiterFields_accepted : countWaiterFields (accepted h code s) = countWaiterFields s := by
  funext w
  have named (arg : SourceArg) : sourceOf (accepted h code s) arg = sourceOf s arg := by cases arg <;> simp [sourceOf]
  simp [countWaiterFields, named]

theorem safeLine_accepted : safeLine (accepted h code s) = safeLine s := by
  funext c
  have located : locatedBag (accepted h code s) = locatedBag s := by
    funext b
    simp [locatedBag]
  simp [safeLine, located]

@[simp] theorem bagValue_accepted (b : BagIx) : bagValue (accepted h code s) b = bagValue s b := by simp [bagValue]

theorem listedBag_accepted (p : Port) : listedBag p (accepted h code s) = listedBag p s := by
  funext b
  simp [listedBag]

@[simp] theorem manifestChecksum_accepted (w : WindowIx) :
    manifestChecksum (accepted h code s) w = manifestChecksum s w := by simp [manifestChecksum]

@[simp] theorem occupancy_accepted : occupancy (accepted h code s) = occupancy s := by simp [occupancy]

@[simp] theorem drawerOf_accepted (i : TillIx) : drawerOf (accepted h code s) i = drawerOf s i := by simp [drawerOf]

/-- A request of the Courier Port restarts the session's idle timer (R165). -/
theorem accepted_session : (accepted h code s).courier.session
    = if h.port = .courier then s.courier.session.map fun x => { x with idle := 0 } else s.courier.session := by
  unfold accepted
  cases h.port <;> simp [heard, modSession]

theorem accepted_window : (accepted h code s).courier.session.map (·.window) = s.courier.session.map (·.window) := by
  rw [accepted_session]
  split
  · rw [Option.map_map]
    rfl
  · rfl

theorem slotOf_accepted (tag : Tag) : slotOf (accepted h code s) h.port tag
    = if tag = h.tag then { state := .taken, code } else slotOf s h.port tag := by
  rw [slotOf, accepted_port]
  simp [look_put, slotOf]

theorem parkedFields_accepted (p : Port) (tag : Tag) : parkedFields (accepted h code s) p tag = parkedFields s p tag := by
  have stock (w : FloatWaiter) : floatParkFields (accepted h code s) w = floatParkFields s w := by simp [floatParkFields]
  simp [parkedFields, stock]

end Taken

/-! ## Answered at once -/

/-- A ready request of a port with the right, whose reply calls for no pass and reports nothing. -/
theorem ready_settled {code : Nat} {owner : State → Reply} {r : Reply} (hr : ready s h = true) (hg : granted code h.port = true)
    (ho : owner (accepted h code s) = r) (he : r.state.event = Scratch.empty) :
    immediate h code owner s = settled h r.code r.results r.state := by
  rw [immediate_ready h code owner s hr hg, ho, replied_plain h _ _ _ he]

/-- A read answered with fields. -/
theorem read_settled {code : Nat} {owner : State → Reply} {fields : List Field} (hr : ready s h = true)
    (hg : granted code h.port = true) (ho : owner (accepted h code s) = Reply.ok fields (accepted h code s)) :
    immediate h code owner s = settled h .ok fields (accepted h code s) :=
  ready_settled hr hg ho (by simp [Reply.ok])

/-- A read refused. -/
theorem read_refused {code : Nat} {owner : State → Reply} {c : Code} (hr : ready s h = true)
    (hg : granted code h.port = true) (ho : owner (accepted h code s) = Reply.refuse c (accepted h code s)) :
    immediate h code owner s = settled h c [] (accepted h code s) :=
  ready_settled hr hg ho (by simp [Reply.refuse])

theorem index?_of_le {n k : Nat} (hk : n ≤ k) : index? n k = none := by
  simp [index?, hk]

/-! ## Fields in the form in which the rules list them -/

theorem listed_eq {α : Type} (f : α → List Field) (l : List α) :
    listed f l = .u8 (l.map f).length :: (l.map f).flatten := by
  rw [listed, List.length_map, List.flatMap]

/-- An access reason's place in its table (R129). -/
def reasonCode : AccessReason → Nat
  | .session => 0
  | .countOut => 1
  | .audit => 2

theorem position_reason (r : AccessReason) : position accessReasonNames r = reasonCode r := by cases r <;> rfl

/-- What a PARKED slot reports of its waiter (R193, R201). -/
def parkReport (s : State) (p : Port) (tag : Tag) : List Field :=
  match s.float.waiters.find? fun w => w.port == p && w.tag == tag, s.count.waiters.find? fun w => w.port == p && w.tag == tag,
      s.safe.waiters.find? fun w => w.port == p && w.tag == tag with
  | some w, _, _ =>
    (match w.park with
      | .stock => [.u8 0, .container ((reserve s).map .comp)]
      | .access r c => [.u8 1, .u8 (reasonCode r), .container (some c)]) ++ [.u32 w.elapsed]
  | none, some w, _ =>
    (match w.park, w.ask with
      | .counter, _ => [.u8 2, .container none]
      | .tray, .start _ y => [.u8 3, .container (y.map .tray)]
      | .tray, .recount y => [.u8 3, .container (some (.tray y))]) ++ [.u32 w.elapsed]
  | none, none, some w =>
    (if w.req.isPost = true then [.u8 4, .container (some w.container)]
      else [.u8 1, .u8 (reasonCode w.reason), .container (some w.container)]) ++ [.u32 w.elapsed]
  | none, none, none => []

theorem accessFields_eq (r : AccessReason) (c : Container) :
    accessFields r c = [.u8 1, .u8 (reasonCode r), .container (some c)] := by
  rw [accessFields, position_reason]
  rfl

theorem parkedFields_eq (s : State) (p : Port) (tag : Tag) : parkedFields s p tag = parkReport s p tag := by
  have float : isFloatWaiter p tag = fun w => w.port == p && w.tag == tag := rfl
  have count : isCountWaiter p tag = fun w => w.port == p && w.tag == tag := rfl
  have access : isAccessWaiter p tag = fun w => w.port == p && w.tag == tag := rfl
  unfold parkedFields parkReport
  rw [float, count, access]
  cases s.float.waiters.find? fun w => w.port == p && w.tag == tag with
  | some w =>
    dsimp only [floatParkFields]
    cases w.park with
    | stock => rfl
    | access r c => simp only [accessFields_eq]
  | none =>
    cases s.count.waiters.find? fun w => w.port == p && w.tag == tag with
    | some w =>
      dsimp only [countParkFields]
      cases w.park <;> cases w.ask <;> rfl
    | none =>
      cases s.safe.waiters.find? fun w => w.port == p && w.tag == tag with
      | some w =>
        dsimp only [accessParkFields]
        rw [accessFields_eq]
        rfl
      | none => rfl

theorem accessWaiter_park (b : Bool) :
    parkField (if b = true then .destination else .access) = .u8 (if b = true then 4 else 1) := by
  cases b <;> rfl

theorem toList_four {α : Type} (v : Vector α 4) : v.toList = [look v 0, look v 1, look v 2, look v 3] := by
  apply List.ext_getElem
  · simp
  · intro i hi _
    simp only [Vector.length_toList] at hi
    match i, hi with
    | 0, _ => simp [look]
    | 1, _ => simp [look]
    | 2, _ => simp [look]
    | 3, _ => simp [look]

end Sys2Proof.Machine
end

section
/-! The reads one by one, and the statement that gathers them. -/

namespace Sys2Proof.Machine

variable {s : State} {h : Req}

/-! ## READ STATUS (R201) -/

/-- A slot of the asking port as READ STATUS reports it: the request's own slot is TAKEN. -/
def slotReport (s : State) (h : Req) (tag : Tag) : List Field :=
  let state := if tag = h.tag then SlotState.taken else (slotOf s h.port tag).state
  .u8 (position slotStateNames state) :: (match state with
    | .parked => parkReport s h.port tag
    | .running => match s.count.running with
      | some r => [.u8 r.tray.1]
      | none => []
    | .free | .taken | .answered => [])

theorem slotFields_accepted (code : Nat) (tag : Tag) : slotFields (accepted h code s) h.port tag = slotReport s h tag := by
  unfold slotFields slotReport
  rw [slotOf_accepted]
  by_cases own : tag = h.tag
  · simp [own]
  · simp only [own, if_false]
    cases (slotOf s h.port tag).state with
    | running => cases e : s.count.running <;> simp [e]
    | parked => exact congrArg (List.cons _) ((parkedFields_accepted h code s h.port tag).trans (parkedFields_eq s h.port tag))
    | _ => rfl

theorem readStatus_settled (hr : ready s h = true) :
    exec (.readStatus h) s = .next (settled h .ok
      ([.u8 (position dayStateNames s.day.state), .u16 s.day.number, .u32 s.day.clock, boolField s.retention.suspect,
          boolField s.day.clockLimit, boolField s.safe.frozen, .u8 (position planStateNames s.day.planState),
          .u8 s.day.pointer, .u8 (position stationNames s.count.station), .u16 s.count.faults, .u16 s.count.recovered,
          .u8 (position trayStateNames (trayOf s 0).state), .u8 (position trayStateNames (trayOf s 1).state)]
        ++ indexField (s.courier.session.map (·.window)) ++ [.u16 (occupancy s), .u8 s.store.journal.held]
        ++ (List.finRange 8).flatMap (slotReport s h)
        ++ [.u8 (portOf s h.port).notices.length, boolField (portOf s h.port).dropped])
      (accepted h 0x80 s)) := by
  have right : granted 0x80 h.port = true := by cases h.port <;> rfl
  refine congrArg Host.Outcome.next (read_settled hr right ?_)
  have slots : slotFields (accepted h ReqCode.readStatus s) h.port = slotReport s h := funext (slotFields_accepted _)
  simp only [replyReadStatus, slots, accepted_window, accepted_frame, trayOf_accepted, occupancy_accepted, accepted_port]

/-! ## The reads of the Office Port alone -/

section Office

variable (hr : ready s h = true) (port : h.port = .office)
include hr port

theorem readPosition_settled : exec (.readPosition h) s = .next (settled h .ok
    ([.u8 (position dayStateNames s.day.state), .u16 s.day.number] ++ (List.finRange 16).flatMap (positionLine s)
      ++ [.signed (valueOf s s.store.base), .signed (valueOf s s.store.inflow), .signed (valueOf s s.store.outflow),
          .signed (valueOf s (officeSums s))]
      ++ totalFields s.store.totals) (accepted h 0x83 s)) := by
  refine congrArg Host.Outcome.next (read_settled hr (port ▸ rfl) ?_)
  simp [replyReadPosition, positionLine_accepted]

theorem readDenominations_settled : exec (.readDenominations h) s
    = .next (settled h .ok (s.store.denoms.toList.flatMap denomFields) (accepted h 0x84 s)) := by
  refine congrArg Host.Outcome.next (read_settled hr (port ▸ rfl) ?_)
  simp [replyReadDenominations]

theorem readPlan_settled : exec (.readPlan h) s = .next (settled h .ok
    ([.u8 (position dayStateNames s.day.state), .u16 s.day.number, .u32 s.day.clock, boolField s.day.clockLimit,
      .u8 (position planStateNames s.day.planState), .u8 s.day.pointer]
      ++ s.day.plan.toList.flatMap (fun e => .u32 e.time :: actionFields e.action) ++ [.u8 (firstStop s)])
      (accepted h 0x85 s)) := by
  refine congrArg Host.Outcome.next (read_settled hr (port ▸ rfl) ?_)
  simp [replyReadPlan, firstStop]

theorem readTray_settled (y : TrayIx) : exec (.readTray h y.1) s = .next (settled h .ok
    (trayFields (trayOf s y) ++ vectorFields s (holding s (.tray y))
      ++ [.u8 (position stationNames s.count.station), .u16 s.count.faults, .u16 s.count.recovered,
          .u32 s.count.stepLimit, .u32 s.count.waitLimit]
      ++ listed (countWaiterFields s) s.count.waiters) (accepted h 0x89 s)) := by
  refine congrArg Host.Outcome.next (read_settled hr (port ▸ rfl) ?_)
  simp [replyReadTray, countWaiterFields_accepted]

theorem readSafe_settled : exec (.readSafe h) s = .next (settled h .ok
    ((List.finRange 16).flatMap (safeLine s)
      ++ [.u8 s.safe.range.low, .u8 s.safe.range.high, boolField s.safe.frozen, .u32 s.safe.waitLimit,
          .u32 s.safe.heldLimit, .u32 s.recon.destLimit]
      ++ listed accessWaiterFields s.safe.waiters) (accepted h 0x8B s)) := by
  refine congrArg Host.Outcome.next (read_settled hr (port ▸ rfl) ?_)
  simp [replyReadSafe, safeLine_accepted]

theorem readBag_settled (b : BagIx) : exec (.readBag h b.1) s = .next (settled h .ok
    (bagFields (bagOf s b) ++ vectorFields s (holding s (.bag b))) (accepted h 0x8C s)) := by
  refine congrArg Host.Outcome.next (read_settled hr (port ▸ rfl) ?_)
  simp [replyReadBag]

theorem readRouting_settled : exec (.readRouting h) s
    = .next (settled h .ok (s.ports.routing.toList.flatMap routeLine) (accepted h 0x8F s)) := by
  refine congrArg Host.Outcome.next (read_settled hr (port ▸ rfl) ?_)
  simp [replyReadRouting]

theorem readTray_outside {n : Nat} (hn : 2 ≤ n) :
    exec (.readTray h n) s = .next (settled h .badOperand [] (accepted h 0x89 s)) :=
  congrArg Host.Outcome.next (read_refused hr (port ▸ rfl) (by rw [replyReadTray, index?_of_le hn]))

theorem readBag_outside {n : Nat} (hn : 32 ≤ n) :
    exec (.readBag h n) s = .next (settled h .badOperand [] (accepted h 0x8C s)) :=
  congrArg Host.Outcome.next (read_refused hr (port ▸ rfl) (by rw [replyReadBag, index?_of_le hn]))

theorem readProfile_outside {n : Nat} (hn : 8 ≤ n) :
    exec (.readProfile h n) s = .next (settled h .badOperand [] (accepted h 0x86 s)) :=
  congrArg Host.Outcome.next (read_refused hr (port ▸ rfl) (by rw [replyReadProfile, index?_of_le hn]))

theorem readProfile_settled (p : ProfileIx) : exec (.readProfile h p.1) s = .next (settled h .ok
    (if (look s.float.profiles p).defined then
      [.u8 1, .value (look s.float.profiles p).target, .items (look s.float.profiles p).template,
        .u16 (look s.float.profiles p).mask.toNat]
     else [.u8 0]) (accepted h 0x86 s)) := by
  refine congrArg Host.Outcome.next (read_settled hr (port ▸ rfl) ?_)
  simp [replyReadProfile, boolField]

theorem readTolerance_settled : exec (.readTolerance h) s = .next (settled h .ok
    ([.value (look s.recon.classes 0).a, .u16 (look s.recon.classes 0).p, .value (look s.recon.classes 1).a,
      .u16 (look s.recon.classes 1).p, .value (look s.recon.classes 2).a, .u16 (look s.recon.classes 2).p,
      .value (look s.recon.classes 3).a, .u16 (look s.recon.classes 3).p]
      ++ [boolField s.recon.autoPost, .u32 s.recon.destLimit]) (accepted h 0x8A s)) := by
  refine congrArg Host.Outcome.next (read_settled hr (port ▸ rfl) ?_)
  simp [replyReadTolerance, toList_four]

end Office

/-! ## The reads of the tills (R68, R113) -/

theorem granted_till {code : Nat} (port : h.port ≠ .courier)
    (hc : granted code .office = true ∧ granted code .till = true) : granted code h.port = true := by
  cases p : h.port with
  | office => exact hc.1
  | till => exact hc.2
  | courier => exact absurd p port

section Tills

variable (hr : ready s h = true) (port : h.port ≠ .courier)
include hr port

theorem readTill_settled (i : TillIx) : exec (.readTill h i.1) s = .next (settled h .ok
    (tillFields (tillOf s i) ++ vectorFields s (holding s (.till i)) ++ [.value (estimate (tillOf s i))]
      ++ listed pouchFields (tillOf s i).pouches) (accepted h 0x87 s)) := by
  refine congrArg Host.Outcome.next (read_settled hr (granted_till port ⟨rfl, rfl⟩) ?_)
  simp [replyReadTill]

theorem readResult_settled (i : TillIx) : exec (.readResult h i.1) s = .next (settled h .ok
    ([.u8 (position tillStateNames (tillOf s i).state), .u8 (holdBits (tillOf s i).hold)] ++ lastFields (tillOf s i).last
      ++ optional ((drawerOf s i).map (drawerFields (tillOf s i).session)) ++ [.value (tillOf s i).f]
      ++ valueField (tillOf s i).final ++ [.value (tillOf s i).p]) (accepted h 0x88 s)) := by
  refine congrArg Host.Outcome.next (read_settled hr (granted_till port ⟨rfl, rfl⟩) ?_)
  simp [replyReadResult]

theorem readTill_outside {n : Nat} (hn : 64 ≤ n) :
    exec (.readTill h n) s = .next (settled h .badOperand [] (accepted h 0x87 s)) :=
  congrArg Host.Outcome.next (read_refused hr (granted_till port ⟨rfl, rfl⟩) (by rw [replyReadTill, index?_of_le hn]))

theorem readResult_outside {n : Nat} (hn : 64 ≤ n) :
    exec (.readResult h n) s = .next (settled h .badOperand [] (accepted h 0x88 s)) :=
  congrArg Host.Outcome.next (read_refused hr (granted_till port ⟨rfl, rfl⟩) (by rw [replyReadResult, index?_of_le hn]))

end Tills

/-! ## The reads of windows and the session (R160, R178) -/

theorem granted_courier {code : Nat} (port : h.port ≠ .till)
    (hc : granted code .office = true ∧ granted code .courier = true) : granted code h.port = true := by
  cases p : h.port with
  | office => exact hc.1
  | till => exact absurd p port
  | courier => exact hc.2

section Windows

variable (hr : ready s h = true) (port : h.port ≠ .till)
include hr port

theorem readWindow_settled (w : WindowIx) : exec (.readWindow h w.1) s = .next (settled h .ok
    ([windowField s w] ++ indexField (windowOf s w).comp
      ++ [boolField (windowOf s w).unstagePending, boolField (sessionAt s w)]
      ++ listed (listedBag h.port s) (windowOf s w).staged
      ++ (if h.port == .office then wordField (windowOf s w).badge else [])) (accepted h 0x8D s)) := by
  refine congrArg Host.Outcome.next (read_settled hr (granted_courier port ⟨rfl, rfl⟩) ?_)
  simp [replyReadWindow, listedBag_accepted, windowField]

theorem readWindow_outside {n : Nat} (hn : 4 ≤ n) :
    exec (.readWindow h n) s = .next (settled h .badOperand [] (accepted h 0x8D s)) :=
  congrArg Host.Outcome.next
    (read_refused hr (granted_courier port ⟨rfl, rfl⟩) (by rw [replyReadWindow, index?_of_le hn]))

theorem readSession_none (hs : s.courier.session = none) :
    exec (.readSession h) s = .next (settled h .ok [.u8 0] (accepted h 0x8E s)) := by
  refine congrArg Host.Outcome.next (read_settled hr (granted_courier port ⟨rfl, rfl⟩) ?_)
  simp [replyReadSession, accepted_session, hs, optional]

/-- The session as the Office Port or, its idle timer restarted, the Courier Port reads it. -/
theorem readSession_settled {x : Session} (hs : s.courier.session = some x) :
    exec (.readSession h) s = .next (settled h .ok
      (.u8 1 :: sessionFields h.port s { x with idle := if h.port = .courier then 0 else x.idle }) (accepted h 0x8E s)) := by
  refine congrArg Host.Outcome.next (read_settled hr (granted_courier port ⟨rfl, rfl⟩) ?_)
  have taken : (accepted h ReqCode.readSession s).courier.session = some { x with idle := if h.port = .courier then 0 else x.idle } := by
    rw [accepted_session, hs]
    split <;> rfl
  have fields (y : Session) : sessionFields h.port (accepted h ReqCode.readSession s) y = sessionFields h.port s y := by
    simp [sessionFields, listedBag_accepted]
  simp [replyReadSession, taken, fields, optional]

end Windows

/-! ## READ HOLDING (R16, R192) -/

theorem readHolding_settled {c : Container} (hr : officeReady s h = true ∨ tillReady s h = true ∧ ∃ i, c = .till i) :
    exec (.readHolding h (.ok c)) s = .next (settled h .ok (vectorFields s (holding s c)) (accepted h 0x82 s)) := by
  have gate : ready s h = true ∧ granted 0x82 h.port = true ∧ holdingGranted h.port c = true := by
    obtain office | ⟨till, i, rfl⟩ := hr
    · obtain ⟨hr, port⟩ := officeReady_iff.mp office
      rw [port]
      exact ⟨hr, rfl, by cases c <;> rfl⟩
    · simp only [tillReady, Bool.and_eq_true, beq_iff_eq] at till
      rw [till.2]
      exact ⟨till.1, rfl, rfl⟩
  obtain ⟨hr, right, named⟩ := gate
  exact congrArg Host.Outcome.next (read_settled hr right (by simp [replyReadHolding, named]))

theorem readHolding_notPermitted {c : Container} (hr : tillReady s h = true) (hc : ∀ i, c ≠ .till i) :
    exec (.readHolding h (.ok c)) s = .next (settled h .notPermitted [] (accepted h 0x82 s)) := by
  simp only [tillReady, Bool.and_eq_true, beq_iff_eq] at hr
  have named : holdingGranted h.port c = false := by
    rw [hr.2]
    cases c with
    | till i => exact absurd rfl (hc i)
    | _ => rfl
  exact congrArg Host.Outcome.next (read_refused hr.1 (hr.2 ▸ rfl) (by simp [replyReadHolding, named]))

end Sys2Proof.Machine
end

section
/-! The fields of the reads in the form in which the rules list them, and the statement about the reads. -/

namespace Sys2Proof.Machine

variable {s : State} {h : Req}

theorem listedBag_eq (p : Port) (s : State) (b : BagIx) :
    listedBag p s b = (if p = .office then [.u8 b.1] else [])
      ++ [.u32 ((bagOf s b).tag.getD 0), .value (valueOf s (holding s (.bag b)))] := by
  simp only [listedBag, beq_iff_eq, bagValue]

theorem scannedBag_eq (p : Port) (s : State) (x : Session) :
    (fun b => listedBag p s b ++ [boolField (x.scanned.contains b)])
      = fun b => (if p = .office then [.u8 b.1] else [])
        ++ [.u32 ((bagOf s b).tag.getD 0), .value (valueOf s (holding s (.bag b))), boolField (x.scanned.contains b)] := by
  funext b
  rw [listedBag_eq, List.append_assoc]
  rfl

theorem accessWaiterFields_eq (w : AccessWaiter) :
    accessWaiterFields w = [.u8 w.tag.1, .u8 w.req.code, .u8 (if w.req.isPost = true then 4 else 1), .u8 (reasonCode w.reason),
      .container (some w.container), .u32 w.elapsed] := by
  rw [accessWaiterFields, accessWaiter_park, position_reason]

theorem countWaiterFields_eq (s : State) (w : CountWaiter) :
    countWaiterFields s w = [.u8 w.tag.1]
      ++ (match w.ask with
          | .start arg _ => .u8 0x30 :: ((sourceOf s arg).map sourceFields).getD []
          | .recount t => [.u8 0x31, .u8 t.1])
      ++ [.u8 (match w.park with | .counter => 2 | .tray => 3), .u32 w.elapsed] := by
  obtain ⟨port, tag, ask, reject, ops, park, elapsed⟩ := w
  cases park <;> rfl

theorem safeLine_eq (s : State) (c : CompIx) :
    safeLine s c = compFields (compOf s c) ++ [.value (valueOf s (holding s (.comp c))), .value (capLoad s c)]
      ++ (.u8 ((bagsIn s c).map (locatedBag s)).length :: ((bagsIn s c).map (locatedBag s)).flatten) := by
  rw [safeLine, listed_eq]

theorem drawerFields_eq (session : Nat) (d : DrawerResult) :
    drawerFields session d = [.u16 d.session, .value d.counted, .u8 (bitSet [d.uncertain, d.saturated, d.manual])]
      ++ countFields d.count ++ [.u8 d.tray.1] ++ optional (d.classed.map classedFields)
      ++ (.u8 (d.acceptOps.map fun n => [Field.u16 n]).length :: (d.acceptOps.map fun n => [.u16 n]).flatten)
      ++ [boolField (d.session == session)] := by
  rw [drawerFields, listed_eq]

/-- An inbound bag of the session, its record index to the Office Port alone (R178). -/
def inboundLine (p : Port) (s : State) (b : BagIx) : List Field :=
  (if p = .office then [.u8 b.1] else [])
    ++ [.u32 ((bagOf s b).tag.getD 0), .value (((bagOf s b).declared.map (·.value)).getD 0)]

theorem sessionFields_eq (p : Port) (s : State) (x : Session) :
    sessionFields p s x = [.u8 x.window.1, .u8 x.comp.1, boolField x.manifestSent]
      ++ optional (x.checksum.map fun k => [.u16 k.toNat])
      ++ [boolField (x.checksum == some (manifestChecksum s x.window))]
      ++ listed (fun b => (if p = .office then [.u8 b.1] else [])
        ++ [.u32 ((bagOf s b).tag.getD 0), .value (valueOf s (holding s (.bag b))), boolField (x.scanned.contains b)])
        (windowOf s x.window).staged
      ++ [.u8 x.errors] ++ listed (inboundLine p s) x.inbound ++ [.u32 x.idle, .u32 s.courier.idleLimit]
      ++ (if p = .office then [.u32 x.badge] else []) := by
  rw [sessionFields, scannedBag_eq]
  simp only [beq_iff_eq]
  rfl

/-- Settles O44: each read by its own lemma, its fields listed as the rules list them. -/
theorem readsChangeNothing : Obligations.ReadsChangeNothing := by
  unfold Obligations.ReadsChangeNothing
  intro u8 u16 u32 val sgn its box flag maybe list words worths hold last count source reason bag
  have maybe_eq : maybe = optional := by
    funext o
    cases o <;> rfl
  have flag_eq : flag = boolField := rfl
  have words_eq : words = wordField := by
    funext o
    cases o <;> rfl
  have worths_eq : worths = valueField := by
    funext o
    cases o <;> rfl
  have hold_eq : hold = fun x => .u8 (holdBits x) := rfl
  have last_eq : last = lastFields := by
    funext o
    cases o <;> rfl
  have count_eq : count = countFields := by
    funext o
    cases o <;> rfl
  have source_eq : source = sourceFields := by
    funext o
    cases o <;> rfl
  have reason_eq : reason = reasonCode := by
    funext o
    cases o <;> rfl
  have bag_eq : bag = bagFields := by
    funext r
    simp only [bag, maybe_eq, words_eq]
    rfl
  clear_value maybe flag words worths hold last count source reason bag
  subst maybe_eq flag_eq words_eq worths_eq hold_eq last_eq count_eq source_eq reason_eq bag_eq
  refine ⟨fun s h hr => ?_, fun s h c hr => readHolding_settled hr, fun s h c hr hc => readHolding_notPermitted hr hc,
    fun s h hr => ?_, rfl, rfl, rfl, rfl, rfl, rfl, rfl, rfl, rfl, rfl, rfl, rfl, rfl, rfl, rfl, rfl, rfl⟩
  · intro gives outside worth p toOffice
    refine ⟨?_, fun port => ?_, fun port => ?_, fun port => ?_⟩
    · have fields := readStatus_settled hr
      simp only [indexField, Option.map_map] at fields
      exact fields
    · refine ⟨readPosition_settled hr port, readDenominations_settled hr port, readPlan_settled hr port, fun y => ?_, ?_,
        readBag_settled hr port, readRouting_settled hr port, fun n => readTray_outside hr port,
        fun n => readBag_outside hr port, fun n => readProfile_outside hr port⟩
      · have fields := readTray_settled hr port y
        rw [listed_eq, funext (countWaiterFields_eq s)] at fields
        exact fields
      · have fields := readSafe_settled hr port
        rw [listed_eq, funext accessWaiterFields_eq] at fields
        rw [funext (safeLine_eq s)] at fields
        exact fields
    · refine ⟨fun i => ⟨?_, ?_⟩, fun n hn => ⟨readTill_outside hr port hn, readResult_outside hr port hn⟩⟩
      · have fields := readTill_settled hr port i
        rw [listed_eq] at fields
        exact fields
      · have fields := readResult_settled hr port i
        rw [funext (drawerFields_eq _)] at fields
        exact fields
    · refine ⟨fun w => ?_, fun n => readWindow_outside hr port, readSession_none hr port, fun x hx => ?_⟩
      · have fields := readWindow_settled hr port w
        rw [listed_eq, funext (listedBag_eq h.port s)] at fields
        simp only [beq_iff_eq] at fields
        exact fields
      · have fields := readSession_settled hr port hx
        rw [sessionFields_eq, listed_eq, listed_eq] at fields
        exact fields
  · obtain ⟨isReady, port⟩ := officeReady_iff.mp hr
    refine ⟨fun p defined => ?_, fun p undefined => ?_, readTolerance_settled isReady port⟩
    · have fields := readProfile_settled isReady port p
      rwa [if_pos defined] at fields
    · have fields := readProfile_settled isReady port p
      rwa [if_neg (by simp [undefined])] at fields

end Sys2Proof.Machine
end

section
/-! The state a cold start leaves, field by field, and the invariants that hold of it (R212). -/

namespace Sys2Proof.Machine

theorem reset_holding (c : Container) : holding State.reset c = Counts.zero := by
  cases c <;> simp [State.reset, State.cold, CustodyStore.cold, holding]

theorem reset_till (i : TillIx) : tillOf State.reset i = TillRec.cold := look_replicate _ _

theorem reset_tray (t : TrayIx) : trayOf State.reset t = TrayRec.cold := look_replicate _ _

theorem reset_bag (b : BagIx) : bagOf State.reset b = BagRec.free := look_replicate _ _

theorem reset_comp (c : CompIx) : compOf State.reset c = CompRec.cold false :=
  look_ofFn _ _

theorem reset_port (p : Port) : portOf State.reset p = PortRec.afterCold false := by
  cases p <;> rfl

theorem reset_steps (c : Container) : stepBits State.reset c = { flag := false, mark := false } := by
  cases c with
  | till i => exact look_replicate _ i
  | comp i => exact look_replicate _ i
  | tray i => rfl
  | bag i => rfl

theorem reset_window (w : WindowIx) :
    windowOf State.reset w = { state := .planned, badge := none, comp := none, staged := [], unstagePending := false } :=
  look_replicate _ _

/-- Settles O3: each field is a constant of the model's cold records, the tables being the same record throughout. -/
theorem resetIsAColdStart : Obligations.ResetIsAColdStart := by
  unfold Obligations.ResetIsAColdStart
  refine ⟨reset_holding, rfl, rfl, rfl, rfl, look_replicate _, look_replicate _, ?steps, rfl, rfl, rfl, rfl, rfl, rfl, rfl, rfl,
    look_replicate _, reset_till, look_replicate _, rfl, rfl, rfl, rfl, rfl, rfl, rfl, rfl, rfl, rfl, rfl, rfl, rfl, rfl, rfl,
    reset_tray, look_replicate _, look_replicate _, fun t => ?tray, rfl, rfl, rfl, reset_comp, by decide, rfl, rfl, rfl, rfl, rfl,
    rfl, reset_bag, look_replicate _, rfl, rfl, rfl, reset_port, ?routes, rfl, rfl, rfl, rfl, rfl, rfl⟩
  case steps => exact reset_steps
  case tray => exact ⟨look_replicate _ _, look_replicate _ _, look_replicate _ _, look_replicate _ _, look_replicate _ _⟩
  case routes => intro k; cases k <;> rfl

theorem valueOf_zero (s : State) : valueOf s Counts.zero = 0 := valueWith_zero _

theorem reset_ranges : RangesHold State.reset where
  holdings c := reset_holding c ▸ countsInRange_zero
  waiting _ hw := absurd hw List.not_mem_nil
  templates p := by
    rw [show look State.reset.float.profiles p = Profile.empty from look_replicate _ p]
    exact countsInRange_zero

theorem reset_queues : QueuesHold State.reset where
  queues p := by
    rw [reset_port]
    exact ⟨by decide, List.pairwise_singleton _ _⟩
  routes := by decide

theorem reset_station : StationHolds State.reset where
  station := by decide
  trays t := by
    rw [reset_tray]
    exact ⟨nofun, nofun⟩

theorem reset_journal : JournalHolds State.reset where
  room := by decide
  held := rfl
  range := ⟨Nat.le_refl 1, by decide⟩
  chain := List.isChain_nil
  last e he := by simp [State.reset, State.cold, CustodyStore.cold] at he

/-- With nothing in a bag, no bag staged and no session, each clause speaks of a record that is not there. -/
theorem reset_bags : BagsHold State.reset where
  empty b _ := reset_holding (.bag b)
  listed w b := by simp [reset_window, reset_bag, BagRec.free]
  once w := by simp [reset_window]
  staged b h := by simp [reset_bag, BagRec.free] at h
  inbound x hx := by cases hx
  counts t b h := by simp [reset_tray, TrayRec.cold] at h
  distinct t u b h := by simp [reset_tray, TrayRec.cold] at h

theorem reset_tillCash : TillCashHolds State.reset := by
  rw [tillCashHolds_iff]
  intro i
  rw [reset_till, reset_holding]
  exact cashOk_zero rfl

theorem reset_caps : CapsHold State.reset := fun c => by
  simp [capLoad, reset_holding, valueOf_zero, reset_comp, CompRec.cold]

/-- Settles O53: after a cold start every container is empty and every list of waiters, pouches, bags and entries is too. -/
theorem invariantsAtReset : Obligations.InvariantsAtReset := by
  refine ⟨fun notClosed => absurd rfl notClosed, reset_ranges, reset_queues, reset_station, reset_journal, ⟨?tills, ?day, ?operators⟩,
    reset_bags, reset_tillCash, reset_caps⟩
  case tills => exact fun i => reset_till i ▸ tillOk_cold
  case day => exact (dayHolds_iff _).mpr dayOk_cold
  case operators =>
    intro i j e f he
    rw [show look State.reset.store.operators i = none from look_replicate _ i] at he
    cases he

end Sys2Proof.Machine
end

section
/-! The Store's checks read the holdings, the day, the Safe Unit and the bags, and of the session only whether one exists: a request
taken up is checked as it stood when it arrived. And the events that move bags alone (R145, R171). -/

namespace Sys2Proof.Machine

variable {s t : State}

/-! ## What the checks of a movement read (R9, R10) -/

/-- Two states that the movement checks cannot tell apart. -/
structure CheckedAlike (s t : State) : Prop where
  store : t.store = s.store
  day : t.day = s.day
  safe : t.safe = s.safe
  suspect : t.retention = s.retention
  bags : t.courier.bags = s.courier.bags
  session : t.courier.session.isSome = s.courier.session.isSome

theorem CheckedAlike.holding (h : CheckedAlike s t) : holding t = Machine.holding s := by
  funext c
  cases c <;> simp [Machine.holding, h.store]

theorem CheckedAlike.heldAfter (h : CheckedAlike s t) (m : Movement) : heldAfter m t = Machine.heldAfter m s := by
  funext c
  rw [Machine.heldAfter, Machine.heldAfter, h.holding]

theorem CheckedAlike.moveHoldings (h : CheckedAlike s t) (m : Movement) :
    CheckedAlike (moveHoldings m s) (Machine.moveHoldings m t) := by
  have stores (l : List Container) (f : Container → Counts) {a b : State} (hab : b.store = a.store) :
      (l.foldl (fun acc c => setHolding c (f c) acc) b).store = (l.foldl (fun acc c => setHolding c (f c) acc) a).store := by
    induction l generalizing a b with
    | nil => exact hab
    | cons c l ih => exact ih (by cases c <;> simp [setHolding, hab])
  refine ⟨?_, by simp [h.day], by simp [h.safe], by simp [h.suspect], by simp [h.bags], by simp [h.session]⟩
  rw [Machine.moveHoldings, Machine.moveHoldings, h.heldAfter]
  exact stores _ _ h.store

theorem CheckedAlike.compOf (h : CheckedAlike s t) : compOf t = Machine.compOf s := by
  funext c
  rw [Machine.compOf, Machine.compOf, h.safe]

theorem CheckedAlike.capLoad (h : CheckedAlike s t) : capLoad t = Machine.capLoad s := by
  funext c
  simp [Machine.capLoad, valueOf, bagsIn, bagOf, h.holding, h.store, h.bags]

theorem CheckedAlike.access (h : CheckedAlike s t) : access t = Machine.access s := by
  funext p c
  rw [Machine.access, Machine.access, inRange, inRange, h.compOf, h.safe, h.session]

theorem CheckedAlike.stepBits (h : CheckedAlike s t) : stepBits t = Machine.stepBits s :=
  funext fun c => stepBits_congr (by rw [h.store]) (by rw [h.store]) c

theorem CheckedAlike.checkMovement (h : CheckedAlike s t) (need : Nat) (m : Movement) :
    checkMovement need m t = Machine.checkMovement need m s := by
  rw [Machine.checkMovement, Machine.checkMovement, goesBelow, goesBelow, goesAbove, goesAbove, checkAccess, checkAccess, freeEntries,
    freeEntries, occupancy, occupancy, overCap, overCap, (h.moveHoldings m).capLoad, h.capLoad, h.compOf, h.access, h.stepBits,
    h.heldAfter, h.suspect, h.day, h.store]

theorem CheckedAlike.checkEvent (h : CheckedAlike s t) (need : Nat) (ms : List Movement) :
    checkEvent need ms t = Machine.checkEvent need ms s := by
  induction ms generalizing s t with
  | nil => rfl
  | cons m ms ih => rw [Machine.checkEvent, Machine.checkEvent, h.checkMovement, ih (h.moveHoldings m)]

theorem checkedAlike_accepted (h : Req) (code : Nat) (s : State) : CheckedAlike s (accepted h code s) :=
  ⟨by simp, by simp, by simp, by simp, courier_bags_accepted .., courier_some_accepted ..⟩

/-! ## Movements of bags -/

/-- The ends of a movement are bags. -/
def Movement.ofBags (m : Movement) : Prop := ∀ c ∈ m.ends, ∃ b, c = .bag b

theorem handMove_ofBags (s : State) (b : BagIx) : (handMove s b).ofBags := by
  simp [Movement.ofBags, Movement.ends, handMove]

theorem receiveMove_ofBags (b : BagIx) : (receiveMove b).ofBags := by
  simp [Movement.ofBags, Movement.ends, receiveMove]

theorem handoverMoves_ofBags (x : Session) (s : State) : ∀ m ∈ handoverMoves x s, m.ofBags := by
  intro m hm
  rw [handoverMoves, List.mem_append, List.mem_map, List.mem_map] at hm
  obtain ⟨b, -, rfl⟩ | ⟨b, -, rfl⟩ := hm
  · exact handMove_ofBags s b
  · exact receiveMove_ofBags b

variable {m : Movement} {ms : List Movement}

theorem holding_applyMove_ofBags (hm : m.ofBags) {c : Container} (hc : ∀ b, c ≠ .bag b) :
    holding (applyMove m s) c = holding s c := by
  rw [holding_applyMove]
  refine heldAfter_of_not_mem m s c fun mem => ?_
  obtain ⟨b, rfl⟩ := hm c mem
  exact hc b rfl

/-- A movement of bags names no compartment, so it touches no latch (R7, R137). -/
theorem named_ofBags (hm : m.ofBags) : m.named = [] := by
  rw [Movement.named, List.filterMap_eq_nil_iff]
  intro c hc
  obtain ⟨b, rfl⟩ := hm c hc
  rfl

theorem compOf_applyMove_ofBags (hm : m.ofBags) (c : CompIx) : compOf (applyMove m s) c = compOf s c := by
  simp [compOf_applyMove, named_ofBags hm]

/-- A bag has no audit-step flag, so an entry about bags does not carry AUDIT (R21, R22). -/
theorem entryOf_ofBags (hm : m.ofBags) : (entryOf m s).audit = false := by
  refine List.any_eq_false.mpr fun c hc => ?_
  obtain ⟨b, rfl⟩ := hm c hc
  simp [stepBits]

theorem holding_fold_ofBags (hms : ∀ m ∈ ms, m.ofBags) {c : Container} (hc : ∀ b, c ≠ .bag b) :
    holding (ms.foldl (fun acc m => applyMove m acc) s) c = holding s c := by
  induction ms generalizing s with
  | nil => rfl
  | cons m ms ih =>
    obtain ⟨hm, hms⟩ := List.forall_mem_cons.mp hms
    rw [List.foldl_cons, ih hms, holding_applyMove_ofBags hm hc]

theorem compOf_fold_ofBags (hms : ∀ m ∈ ms, m.ofBags) (c : CompIx) :
    compOf (ms.foldl (fun acc m => applyMove m acc) s) c = compOf s c := by
  induction ms generalizing s with
  | nil => rfl
  | cons m ms ih =>
    obtain ⟨hm, hms⟩ := List.forall_mem_cons.mp hms
    rw [List.foldl_cons, ih hms, compOf_applyMove_ofBags hm]

/-! ## A run of movements -/

/-- An entry written after a movement is the one written before it, under the next number: a movement changes neither the table of
denominations nor a flag (R11, R180). -/
theorem entryOf_applyMove (m n : Movement) (s : State) :
    entryOf n (applyMove m s) = { entryOf n s with seq := seqAfter s.store.journal.nextSeq } := by
  have flag (c : Container) : (stepBits (applyMove m s) c).flag = (stepBits s c).flag := by
    rw [stepBits_applyMove]
    split
    · next h => exact h.2.symm
    · rfl
  simp [entryOf, flag, valueOf, applyMove_journal]

/-- The entry of a movement under the number of its place in an event (R182). -/
def entryAt (s : State) (p : Movement × Nat) : JournalEntry :=
  { entryOf p.1 s with seq := seqAfter^[p.2] s.store.journal.nextSeq }

theorem entryAt_applyMove (m : Movement) (s : State) (p : Movement × Nat) :
    entryAt (applyMove m s) p = entryAt s (p.1, p.2 + 1) := by
  rw [entryAt, entryOf_applyMove, applyMove_journal]
  rfl

theorem journal_entries_fold (ms : List Movement) (s : State) :
    (ms.foldl (fun acc m => applyMove m acc) s).store.journal.entries
      = s.store.journal.entries ++ ms.zipIdx.map (entryAt s) := by
  induction ms generalizing s with
  | nil => simp
  | cons m ms ih =>
    have later : ms.zipIdx.map (entryAt (applyMove m s)) = (ms.zipIdx 1).map (entryAt s) := by
      rw [List.zipIdx_succ, List.map_map]
      exact List.map_congr_left fun p _ => entryAt_applyMove m s p
    rw [List.foldl_cons, ih, later, applyMove_journal, List.zipIdx_cons, List.map_cons, List.append_assoc]
    rfl

theorem journalMarks_store (n : Nat) (s : State) : (journalMarks n s).store = { s.store with
    journal := { s.store.journal with
      high := (journalMarks n s).store.journal.high, full := (journalMarks n s).store.journal.full } } := by
  unfold journalMarks
  dsimp only
  split <;> split <;> simp

/-- The marks of the journal apart, an event leaves the store as its movements do (R12, R184). -/
theorem storeEvent_store (ms : List Movement) (s : State) :
    (storeEvent ms false s).store = { (ms.foldl (fun acc m => applyMove m acc) s).store with
      journal := { (ms.foldl (fun acc m => applyMove m acc) s).store.journal with
        high := (storeEvent ms false s).store.journal.high, full := (storeEvent ms false s).store.journal.full } } :=
  journalMarks_store _ _

theorem holding_storeEvent (ms : List Movement) (s : State) (c : Container) :
    holding (storeEvent ms false s) c = holding (ms.foldl (fun acc m => applyMove m acc) s) c :=
  holding_of_books (books_storeEvent ms false s) c

end Sys2Proof.Machine
end

section
/-! The handover confirmed (R170 to R174): the movements of the bags, what becomes of the bags and the window, the end of the session. -/

namespace Sys2Proof.Machine

variable {s t : State} {x : Session}

/-! ## The movements of a confirmation (R171) -/

theorem holding_applyMove_hand (o s : State) (b : BagIx) (c : Container) :
    holding (applyMove (handMove o b) s) c = if c = .bag b then (holding s c).sub (holding o (.bag b)) else holding s c := by
  rw [holding_applyMove]
  simp [heldAfter, handMove, formOf, eq_comm]

theorem holding_applyMove_receive (s : State) (b : BagIx) (c : Container) :
    holding (applyMove (receiveMove b) s) c = holding s c := by
  have added : (holding s c).add Counts.zero = holding s c := eq_of_look fun i => by simp
  rw [holding_applyMove]
  simp [heldAfter, receiveMove, formOf, added]

theorem holding_fold_receive (l : List BagIx) (s : State) (c : Container) :
    holding ((l.map receiveMove).foldl (fun acc m => applyMove m acc) s) c = holding s c := by
  induction l generalizing s with
  | nil => rfl
  | cons b l ih => rw [List.map_cons, List.foldl_cons, ih, holding_applyMove_receive]

theorem holding_fold_hand_of_not_mem (o : State) {l : List BagIx} {c : Container} (hc : ∀ b ∈ l, c ≠ .bag b) (s : State) :
    holding ((l.map (handMove o)).foldl (fun acc m => applyMove m acc) s) c = holding s c := by
  induction l generalizing s with
  | nil => rfl
  | cons b l ih =>
    obtain ⟨hb, hl⟩ := List.forall_mem_cons.mp hc
    rw [List.map_cons, List.foldl_cons, ih hl, holding_applyMove_hand, if_neg hb]

/-- A bag that stands once in the list is emptied by the movement of its whole holding. -/
theorem holding_fold_hand_of_mem {o : State} {l : List BagIx} (once : l.Nodup) {b : BagIx} (hb : b ∈ l)
    (whole : holding s (.bag b) = holding o (.bag b)) :
    holding ((l.map (handMove o)).foldl (fun acc m => applyMove m acc) s) (.bag b) = Counts.zero := by
  induction l generalizing s with
  | nil => cases hb
  | cons d l ih =>
    obtain ⟨hd, once⟩ := List.nodup_cons.mp once
    rw [List.map_cons, List.foldl_cons]
    by_cases same : b = d
    · subst same
      rw [holding_fold_hand_of_not_mem o (by rintro d hd' ⟨⟩; exact hd hd'), holding_applyMove_hand, if_pos rfl, whole]
      exact eq_of_look fun i => by simp
    · refine ih once (List.mem_of_ne_of_mem same hb) ?_
      rw [holding_applyMove_hand, if_neg (by simpa using same), whole]

theorem flows_applyMove_hand (o s : State) (b : BagIx) :
    (applyMove (handMove o b) s).store.inflow = s.store.inflow
      ∧ (applyMove (handMove o b) s).store.outflow = s.store.outflow.add (holding o (.bag b)) := by
  obtain ⟨inflow, outflow⟩ := applyMove_flows (handMove o b) s
  rw [inflow, outflow]
  exact ⟨rfl, rfl⟩

theorem flows_fold_hand (o : State) (l : List BagIx) (s : State) :
    ((l.map (handMove o)).foldl (fun acc m => applyMove m acc) s).store.inflow = s.store.inflow
      ∧ ∀ i : DenomIx, look ((l.map (handMove o)).foldl (fun acc m => applyMove m acc) s).store.outflow i
        = look s.store.outflow i + (l.map fun b => look (holding o (.bag b)) i).sum := by
  induction l generalizing s with
  | nil => simp
  | cons b l ih =>
    obtain ⟨inflow, outflow⟩ := flows_applyMove_hand o s b
    obtain ⟨inflows, outflows⟩ := ih (applyMove (handMove o b) s)
    rw [List.map_cons, List.foldl_cons]
    refine ⟨inflows.trans inflow, fun i => ?_⟩
    rw [outflows, outflow, look_add, List.map_cons, List.sum_cons, add_assoc]

theorem flows_fold_receive (l : List BagIx) (s : State) :
    ((l.map receiveMove).foldl (fun acc m => applyMove m acc) s).store.inflow = s.store.inflow
      ∧ ((l.map receiveMove).foldl (fun acc m => applyMove m acc) s).store.outflow = s.store.outflow := by
  induction l generalizing s with
  | nil => exact ⟨rfl, rfl⟩
  | cons b l ih =>
    obtain ⟨inflow, outflow⟩ := applyMove_flows (receiveMove b) s
    obtain ⟨inflows, outflows⟩ := ih (applyMove (receiveMove b) s)
    exact ⟨inflows.trans inflow, outflows.trans outflow⟩

/-- The movements applied: the staged bags' holdings go out, and nothing else of the store moves but the journal. -/
theorem handoverMoves_applied (x : Session) (s : State) :
    let u := (handoverMoves x s).foldl (fun acc m => applyMove m acc) s
    let list := (windowOf s x.window).staged
    (∀ i : DenomIx, look u.store.outflow i = look s.store.outflow i + (list.map fun b => look (holding s (.bag b)) i).sum)
      ∧ u.store.inflow = s.store.inflow
      ∧ (∀ b, b ∉ list → holding u (.bag b) = holding s (.bag b))
      ∧ (list.Nodup → ∀ b ∈ list, holding u (.bag b) = Counts.zero) := by
  dsimp only
  rw [handoverMoves, List.foldl_append]
  obtain ⟨inflow, outflow⟩ := flows_fold_hand s (windowOf s x.window).staged s
  obtain ⟨inflows, outflows⟩ := flows_fold_receive x.inbound
    (((windowOf s x.window).staged.map (handMove s)).foldl (fun acc m => applyMove m acc) s)
  refine ⟨fun i => by rw [outflows, outflow], inflows.trans inflow, fun b hb => ?_, fun once b hb => ?_⟩
  · rw [holding_fold_receive, holding_fold_hand_of_not_mem s (by rintro d hd ⟨⟩; exact hb hd)]
  · rw [holding_fold_receive, holding_fold_hand_of_mem once hb rfl]

/-! ## The bags and the window -/

theorem fold_modBag_eq (f : BagRec → BagRec) (l : List BagIx) (s : State) :
    l.foldl (fun acc b => modBag b f acc) s = { s with
      courier := { s.courier with bags := (l.foldl (fun acc b => modBag b f acc) s).courier.bags } } := by
  induction l generalizing s with
  | nil => rfl
  | cons b l ih =>
    rw [List.foldl_cons, ih]
    rfl

theorem bagOf_modBag (b c : BagIx) (f : BagRec → BagRec) (s : State) :
    bagOf (modBag b f s) c = if c = b then f (bagOf s c) else bagOf s c := by
  simp only [bagOf, modBag, look_put]
  split
  · next h => rw [h]
  · rfl

theorem bagOf_fold_modBag {f : BagRec → BagRec} (again : ∀ r, f (f r) = f r) (l : List BagIx) (s : State) (b : BagIx) :
    bagOf (l.foldl (fun acc b => modBag b f acc) s) b = if b ∈ l then f (bagOf s b) else bagOf s b := by
  induction l generalizing s with
  | nil => simp
  | cons d l ih =>
    rw [List.foldl_cons, ih, bagOf_modBag]
    by_cases here : b = d
    · simp [here, again]
    · simp [here]

/-! ## The end of a session (R174) -/

/-- The state in which a session has ended, before the unstaging that waited for it. -/
def parted (x : Session) (s : State) : State :=
  parkingEnded (fun _ => true) true
    (signal .sessionPass (liftLatch x.comp { s with courier := { s.courier with session := none } }))

theorem endSession_eq (x : Session) (s : State) :
    endSession x s = report (if (windowOf (parted x s) x.window).unstagePending then unstage x.window (parted x s) else parted x s) :=
  rfl

theorem endSession_event (x : Session) (s : State) :
    (endSession x s).event = { signals := s.event.signals ++ [.sessionPass], reported := true } := by
  rw [endSession_eq]
  split <;> simp [report, parted, signal]

theorem endSession_session (x : Session) (s : State) : (endSession x s).courier.session = none := by
  rw [endSession_eq]
  split
  · rw [unstage, fold_modBag_eq]
    simp [report, parted, signal, modWindow]
  · simp [report, parted, signal]

theorem endSession_comp (x : Session) (s : State) (c : CompIx) : compOf (endSession x s) c = compOf (liftLatch x.comp s) c := by
  rw [endSession_eq]
  split <;> simp [report, parted, signal, compOf, liftLatch, modComp]

/-- With nothing staged, the unstaging that waited touches no bag. -/
theorem endSession_of_nothing_staged (empty : (windowOf s x.window).staged = []) :
    (windowOf (endSession x s) x.window).staged = [] ∧ ∀ b, bagOf (endSession x s) b = bagOf s b := by
  have window : windowOf (parted x s) x.window = windowOf s x.window := by simp [parted, windowOf, signal]
  have bag (b : BagIx) : bagOf (parted x s) b = bagOf s b := by simp [parted, bagOf, signal]
  rw [endSession_eq]
  split
  · rw [unstage, window, empty]
    exact ⟨by simp [report, windowOf, modWindow], bag⟩
  · exact ⟨(congrArg (·.staged) window).trans empty, bag⟩

theorem compOf_liftLatch_of_ne {c d : CompIx} (h : d ≠ c) (s : State) : compOf (liftLatch c s) d = compOf s d := by
  rw [liftLatch, compOf_modComp, if_neg h]

theorem compOf_liftLatch_closed {c : CompIx} (h : (compOf s c).door = .closed) :
    compOf (liftLatch c s) c = { compOf s c with hold := false, latch := .engaged } := by
  rw [liftLatch, compOf_modComp, if_pos rfl]
  dsimp only
  rw [h]

theorem compOf_liftLatch_opened {c : CompIx} (h : (compOf s c).door = .opened) :
    compOf (liftLatch c s) c = { compOf s c with hold := false, heldTimer := some 0, heldRaised := false } := by
  rw [liftLatch, compOf_modComp, if_pos rfl]
  dsimp only
  rw [h]

/-! ## The confirmation applied (R172) -/

/-- The bags of a confirmation handed and received and its window's list emptied, the session still there. -/
def bagsHandedOver (x : Session) (s : State) : State :=
  let list := (windowOf s x.window).staged
  x.inbound.foldl (fun acc b => modBag b (fun r => { r with state := .received }) acc)
    (modWindow x.window (fun r => { r with staged := [] })
      (list.foldl (fun acc b => modBag b handed acc) (storeEvent (handoverMoves x s) false s)))

theorem confirmed_eq (x : Session) (s : State) :
    confirmed x s = raise .handoverDone (.window x.window) (handoverFigures x s) (endSession x (bagsHandedOver x s)) := rfl

theorem bagsHandedOver_staged (x : Session) (s : State) : (windowOf (bagsHandedOver x s) x.window).staged = [] := by
  rw [bagsHandedOver, fold_modBag_eq]
  simp [windowOf, modWindow]

theorem bagOf_bagsHandedOver (x : Session) (s : State) (b : BagIx) :
    bagOf (bagsHandedOver x s) b =
      let out := if b ∈ (windowOf s x.window).staged then handed (bagOf s b) else bagOf s b
      if b ∈ x.inbound then { out with state := .received } else out := by
  have stored : bagOf (storeEvent (handoverMoves x s) false s) b = bagOf s b := by simp [bagOf]
  have windows (u : State) : bagOf (modWindow x.window (fun r => { r with staged := [] }) u) b = bagOf u b := rfl
  rw [bagsHandedOver, bagOf_fold_modBag (f := fun r => { r with state := .received }) fun _ => rfl, windows,
    bagOf_fold_modBag (f := handed) fun _ => rfl, stored]

theorem bagOf_confirmed (x : Session) (s : State) (b : BagIx) :
    bagOf (confirmed x s) b = bagOf (bagsHandedOver x s) b := by
  rw [← (endSession_of_nothing_staged (bagsHandedOver_staged x s)).2 b, confirmed_eq]
  simp [bagOf]

theorem confirmed_store (x : Session) (s : State) : (confirmed x s).store = (storeEvent (handoverMoves x s) false s).store := by
  rw [confirmed_eq]
  simp [bagsHandedOver]

theorem compOf_confirmed (x : Session) (s : State) (c : CompIx) : compOf (confirmed x s) c = compOf (liftLatch x.comp s) c := by
  have same (d : CompIx) : compOf (bagsHandedOver x s) d = compOf s d := by
    have stored : compOf (bagsHandedOver x s) d = compOf ((handoverMoves x s).foldl (fun acc m => applyMove m acc) s) d := by
      simp [bagsHandedOver, compOf, storeEvent]
    rw [stored, compOf_fold_ofBags (handoverMoves_ofBags x s)]
  have raised : compOf (confirmed x s) c = compOf (endSession x (bagsHandedOver x s)) c := by simp [confirmed_eq, compOf]
  rw [raised, endSession_comp, liftLatch, liftLatch, compOf_modComp, compOf_modComp, same, same]

/-- The entries of a confirmation: its movements are the Courier Port's, of no operator and without a flag, and of bags alone. -/
theorem entryAt_handover {m : Movement} (hm : m ∈ handoverMoves x s) (k : Nat) :
    entryAt s (m, k) =
      { seq := seqAfter^[k] s.store.journal.nextSeq, day := s.day.number, time := s.day.clock, kind := m.kind, src := m.src
        dst := m.dst, value := valueOf s m.vec
        items := ((List.finRange 16).filter fun i => look m.vec i ≠ 0).map fun i => (i, look m.vec i)
        port := .courier, ops := [], flags := MoveFlags.clear, audit := false } := by
  have audit := entryOf_ofBags (s := s) (handoverMoves_ofBags x s m hm)
  have sender : m.port = .courier ∧ m.ops = [] ∧ m.flags = MoveFlags.clear := by
    rw [handoverMoves, List.mem_append, List.mem_map, List.mem_map] at hm
    obtain ⟨b, -, rfl⟩ | ⟨b, -, rfl⟩ := hm <;> exact ⟨rfl, rfl, rfl⟩
  obtain ⟨port, ops, flags⟩ := sender
  rw [entryOf_eq] at audit
  rw [entryAt, entryOf_eq, port, ops, flags]
  exact congrArg _ audit

theorem confirmed_entries (x : Session) (s : State) :
    (confirmed x s).store.journal.entries
      = s.store.journal.entries ++ (handoverMoves x s).zipIdx.map (entryAt s) := by
  rw [confirmed_store, storeEvent_store]
  exact journal_entries_fold _ _

theorem holding_confirmed (x : Session) (s : State) (c : Container) :
    holding (confirmed x s) c = holding ((handoverMoves x s).foldl (fun acc m => applyMove m acc) s) c :=
  (holding_congr _ _ (confirmed_store x s) c).trans (holding_storeEvent _ _ c)

theorem confirmed_ports (x : Session) (s : State) :
    (confirmed x s).ports = (raise .handoverDone (.window x.window) (handoverFigures x s)
      (storeEvent (handoverMoves x s) false s)).ports := by
  rw [confirmed_eq]
  refine raise_ports_congr ?_ ?_ _ _ _ <;> simp [bagsHandedOver]

/-! ## The two requests -/

section Requests

variable {h : Req}

theorem accepted_courier_port (hp : h.port = .courier) (code : Nat) (s : State) :
    (accepted h code s).courier = { s.courier with session := s.courier.session.map fun x => { x with idle := 0 } } := by
  rw [accepted, hp]
  rfl

theorem courierReady_iff (s : State) (h : Req) : courierReady s h = true ↔ ready s h = true ∧ h.port = .courier := by
  simp [courierReady]

theorem unsignedArg_eq {v : Counts} (range : countsInRange v)
    (used : ∀ i : DenomIx, (look s.store.denoms i).status = .unused → look v i = 0) : unsignedArg s (.ok v) = some v := by
  have ok : unsignedOk s.store.denoms v = true := by
    simp only [unsignedOk, usedOnly, Bool.and_eq_true, Bool.or_eq_true, List.all_eq_true, List.mem_finRange, true_implies,
      decide_eq_true_eq]
    exact ⟨range, fun i => or_iff_not_imp_left.mpr fun h => used i (not_not.mp h)⟩
  rw [unsignedArg, if_pos ok]

theorem lowestFree_eq {b : BagIx} (free : (bagOf s b).state = .free) (lower : ∀ d : BagIx, d < b → (bagOf s d).state ≠ .free) :
    lowestFree s = some b := by
  rw [lowestFree, List.find?_eq_some_iff_getElem]
  refine ⟨by simp [free], b.1, by simp, by simp, fun j hj => ?_⟩
  have := lower ⟨j, by omega⟩ hj
  simpa using this

theorem tagInUse_eq_false {tag : Nat} (unused : ∀ d, (bagOf s d).state = .free ∨ (bagOf s d).tag ≠ some tag) :
    tagInUse s tag = false := by
  refine List.any_eq_false.mpr fun d _ => ?_
  obtain free | other := unused d
  · simp [free]
  · simp [other]

theorem declareInbound_settled {tag : Nat} {v : Counts} {b : BagIx} (hr : courierReady s h = true)
    (hs : s.courier.session = some x) (known : tag ≤ 99999999) (range : countsInRange v)
    (used : ∀ i : DenomIx, (look s.store.denoms i).status = .unused → look v i = 0) (full : ∃ i : DenomIx, look v i ≠ 0)
    (room : x.inbound.length < 8) (unused : ∀ d, (bagOf s d).state = .free ∨ (bagOf s d).tag ≠ some tag)
    (free : (bagOf s b).state = .free) (lower : ∀ d : BagIx, d < b → (bagOf s d).state ≠ .free) :
    exec (.declareInbound h tag (.ok v)) s = .next (settled h .ok [.u8 b.1, .value (valueOf s v)]
      { accepted h 0x63 s with courier := { s.courier with
        bags := put s.courier.bags b (announced x tag v (valueOf s v))
        session := some { x with idle := 0, inbound := x.inbound ++ [b] } } }) := by
  obtain ⟨hr, hp⟩ := (courierReady_iff s h).mp hr
  have bag (d : BagIx) : bagOf (accepted h 0x63 s) d = bagOf s d := by simp [bagOf]
  have courier := accepted_courier_port hp 0x63 s
  have worth : valueOf (accepted h 0x63 s) v = valueOf s v := by simp [valueOf]
  have vector : unsignedArg (accepted h 0x63 s) (.ok v) = some v := unsignedArg_eq range (by simpa using used)
  have place : lowestFree (accepted h 0x63 s) = some b := lowestFree_eq (by rwa [bag]) (by simpa [bag] using lower)
  have inUse : tagInUse (accepted h 0x63 s) tag = false := tagInUse_eq_false (by simpa [bag] using unused)
  have nonzero : allZero v = false := by
    obtain ⟨i, hi⟩ := full
    exact Bool.eq_false_iff.mpr fun zero => hi (by simp [(allZero_iff v).mp zero])
  have valid : valueIn 0 Config.maxTagNumber tag = true := by simp [valueIn, Config.maxTagNumber, known]
  rw [hs] at courier
  have reply : replyDeclareInbound tag (.ok v) (accepted h 0x63 s) = .ok [.u8 b.1, .value (valueOf s v)]
      { accepted h 0x63 s with courier := { s.courier with
        bags := put s.courier.bags b (announced x tag v (valueOf s v))
        session := some { x with idle := 0, inbound := x.inbound ++ [b] } } } := by
    simp [replyDeclareInbound, vector, courier, valid, nonzero, inUse, place, worth, Config.maxInbound, room, modBag, modSession,
      announced]
  exact congrArg Host.Outcome.next (ready_settled hr (by rw [hp]; rfl) reply (by simp [Reply.ok]))

theorem replyConfirmHandover_passes {k : BitVec 16} (session : s.courier.session = some x) (sent : x.manifestSent = true)
    (own : x.checksum = some k) (sum : manifestChecksum s x.window = k) (all : unscanned s x = []) (check : confirmCheck x s = .pass) :
    replyConfirmHandover k s = .ok (handoverFigures x s) (confirmed x s) := by
  simp [replyConfirmHandover, session, sent, own, sum, all, check]

/-- What a confirmation reads is in a request taken up as the request found it, the idle timer of the session apart. -/
theorem confirmHandover_replied {k : BitVec 16} (hr : courierReady s h = true) (hs : s.courier.session = some x)
    (sent : x.manifestSent = true) (own : x.checksum = some k) (sum : manifestChecksum s x.window = k)
    (scanned : ∀ b ∈ (windowOf s x.window).staged, b ∈ x.scanned) (sound : s.retention.suspect = false ∨ handoverMoves x s ≠ [])
    (pass : handoverMoves x s = [] ∨ checkEvent (handoverMoves x s).length (handoverMoves x s) s = .pass) :
    let y := { x with idle := 0 }
    exec (.confirmHandover h k) s
      = .next (replied h .ok (handoverFigures y (accepted h 0x64 s)) (confirmed y (accepted h 0x64 s))) := by
  obtain ⟨hr, hp⟩ := (courierReady_iff s h).mp hr
  intro y
  have session : (accepted h 0x64 s).courier.session = some y := by rw [accepted_courier_port hp, hs]; rfl
  have window : windowOf (accepted h 0x64 s) x.window = windowOf s x.window := by simp [windowOf]
  have moves : handoverMoves y (accepted h 0x64 s) = handoverMoves x s := by
    have hand : handMove (accepted h 0x64 s) = handMove s := by
      funext b
      simp [handMove]
    simp [handoverMoves, y, window, hand]
  have all : unscanned (accepted h 0x64 s) y = [] := by
    simpa [unscanned, y, window] using scanned
  have check : confirmCheck y (accepted h 0x64 s) = .pass := by
    rw [confirmCheck, moves]
    cases none : (handoverMoves x s).isEmpty with
    | true =>
      have empty := List.isEmpty_iff.mp none
      obtain sound | full := sound
      · simp [sound]
      · exact absurd empty full
    | false =>
      obtain empty | pass := pass
      · simp [empty] at none
      · simpa [(checkedAlike_accepted h 0x64 s).checkEvent] using pass
  have reply : replyConfirmHandover k (accepted h 0x64 s)
      = Reply.ok (handoverFigures y (accepted h 0x64 s)) (confirmed y (accepted h 0x64 s)) :=
    replyConfirmHandover_passes session sent own (by simpa [y] using sum) all check
  have granted : granted 0x64 h.port = true := by rw [hp]; rfl
  refine congrArg Host.Outcome.next ((immediate_ready h 0x64 _ s hr granted).trans ?_)
  rw [reply]
  rfl

end Requests

/-- Settles O42: the two requests, then the parts of the state that a confirmation leaves. -/
theorem handoverConfirmed : Obligations.HandoverConfirmed := by
  refine ⟨fun s h x hr hs => ⟨fun tag v b known range used full room unused free lower => ?_,
    fun k sent own sum scanned sound pass => ?_⟩, fun s x => ?_⟩
  · exact declareInbound_settled hr hs known range used full room unused free lower
  · exact confirmHandover_replied hr hs sent own sum scanned sound pass
  · have bag (b : BagIx) := (bagOf_confirmed x s b).trans (bagOf_bagsHandedOver x s b)
    obtain ⟨outflow, inflow, kept, emptied⟩ := handoverMoves_applied x s
    have entries := confirmed_entries x s
    have other (c : Container) (hc : ∀ b, c ≠ .bag b) : holding (confirmed x s) c = holding s c :=
      (holding_confirmed x s c).trans (holding_fold_ofBags (handoverMoves_ofBags x s) hc)
    refine ⟨?session, ?window, fun b hb => ?received, fun b hb hi => ?handed, eq_of_look fun c => other (.comp c) nofun,
      eq_of_look fun i => other (.till i) nofun, eq_of_look fun y => other (.tray y) nofun, ?count,
      ⟨rfl, ?entries, fun i => ?outflow, ?inflow, ?base, ?totals, fun b hb => ?kept, fun once b hb => ?emptied⟩, rfl,
      confirmed_ports x s, fun c hc => ?other, fun closed => ?closed, fun opened => ?opened, ?event⟩
    case session => simpa [confirmed_eq] using endSession_session x (bagsHandedOver x s)
    case window =>
      simpa [confirmed_eq, windowOf] using (endSession_of_nothing_staged (bagsHandedOver_staged x s)).1
    case received =>
      rw [bag, if_pos hb]
    case handed =>
      rw [bag, if_neg hi, if_pos hb]
      exact ⟨rfl, rfl, rfl⟩
    case count =>
      rw [entries]
      simp [handoverMoves, Nat.add_assoc]
    case entries =>
      rw [entries]
      refine congrArg _ (List.map_congr_left fun p hp => ?_)
      exact entryAt_handover (List.fst_mem_of_mem_zipIdx hp) p.2
    case outflow =>
      rw [confirmed_store, storeEvent_store]
      exact outflow i
    case inflow =>
      rw [confirmed_store, storeEvent_store]
      exact inflow
    case base => simp [confirmed_store]
    case totals => simp [confirmed_store]
    case kept => rw [holding_confirmed, kept b hb]
    case emptied => rw [holding_confirmed, emptied once b hb]
    case other => rw [compOf_confirmed, compOf_liftLatch_of_ne hc]
    case closed => rw [compOf_confirmed, compOf_liftLatch_closed closed]
    case opened => rw [compOf_confirmed, compOf_liftLatch_opened opened]
    case event => simpa [confirmed_eq, bagsHandedOver] using endSession_event x (bagsHandedOver x s)

end Sys2Proof.Machine
end

section
/-! What the Reconciliation Unit's part of a completion leaves of the Custody Store and of the operators that filled the trays: all but
the day totals (R14, R98, R104, R110, R111). -/

namespace Sys2Proof.Machine

variable {s t u : State}

/-- `t` differs from `s` in no part of the store but the totals, and not in the operators that filled the trays. -/
structure TotalsAlone (s t : State) : Prop where
  store : t.store = { s.store with totals := t.store.totals }
  fillOps : t.recon.fillOps = s.recon.fillOps

theorem TotalsAlone.of_eq (hs : t.store = s.store) (hr : t.recon.fillOps = s.recon.fillOps) : TotalsAlone s t :=
  ⟨by rw [hs], hr⟩

theorem TotalsAlone.trans (h : TotalsAlone s t) (k : TotalsAlone t u) : TotalsAlone s u :=
  ⟨by rw [k.store, h.store], k.fillOps.trans h.fillOps⟩

/-- The same from a state that differs from the first in neither. -/
theorem TotalsAlone.after (h : TotalsAlone t u) (hs : t.store = s.store) (hr : t.recon.fillOps = s.recon.fillOps) : TotalsAlone s u :=
  (TotalsAlone.of_eq hs hr).trans h

theorem TotalsAlone.holding (h : TotalsAlone s t) (c : Container) : holding t c = Machine.holding s c := by
  cases c <;> (rw [Machine.holding, h.store]; rfl)

theorem TotalsAlone.journal (h : TotalsAlone s t) : t.store.journal = s.store.journal := by rw [h.store]

theorem totalsAlone_oweAttempt (y : TrayIx) (s : State) : TotalsAlone s (oweAttempt y s) := by
  unfold oweAttempt
  split
  · exact .of_eq rfl rfl
  · exact .of_eq rfl rfl

theorem totalsAlone_settleTill (i : TillIx) (k : Classification) (s : State) : TotalsAlone s (settleTill i k s) := by
  rw [settleTill_eq]
  exact ⟨rfl, rfl⟩

theorem totalsAlone_holdTill (i : TillIx) (h : HoldReasons) (l : List Field) (s : State) : TotalsAlone s (holdTill i h l s) :=
  .of_eq (by simp) (by simp)

theorem totalsAlone_runComputation (i : TillIx) (s : State) : TotalsAlone s (runComputation i s) := by
  unfold runComputation
  dsimp only
  split
  · split
    · exact (totalsAlone_holdTill _ _ _ _).after rfl rfl
    · exact (totalsAlone_settleTill _ _ _).after rfl rfl
  · exact .of_eq rfl rfl

theorem totalsAlone_drawerComplete (i : TillIx) (y : TrayIx) (s : State) : TotalsAlone s (drawerComplete i y s) := by
  unfold drawerComplete
  dsimp only
  split
  · split
    · exact .of_eq rfl rfl
    · exact (totalsAlone_runComputation _ _).after rfl rfl
  · split
    · exact (totalsAlone_holdTill _ _ _ _).after rfl rfl
    · exact (totalsAlone_runComputation _ _).after rfl rfl

theorem totalsAlone_latePouch (i : TillIx) (s : State) : TotalsAlone s (latePouch i s) := by
  unfold latePouch afterRemoval
  dsimp only
  split
  · split
    · exact .of_eq (by simp) (by simp)
    · exact (totalsAlone_runComputation _ _).after rfl rfl
  · exact .of_eq rfl rfl

theorem totalsAlone_pouchComplete (i : TillIx) (n : Nat) (y : TrayIx) (s : State) : TotalsAlone s (pouchComplete i n y s) := by
  unfold pouchComplete
  dsimp only
  split
  · exact .of_eq rfl rfl
  · split
    · exact .of_eq (by simp) (by simp)
    · exact (totalsAlone_latePouch _ _).after (by simp) (by simp)

theorem totalsAlone_enterDifference (y : TrayIx) (d : Int) (s : State) : TotalsAlone s (enterDifference y d s) := ⟨rfl, rfl⟩

/-- A notice of variance, where there is one, changes neither. -/
theorem TotalsAlone.noted (h : TotalsAlone s t) {p : Prop} [Decidable p] (k : NoticeKind) (x : Subject) (l : List Field) :
    TotalsAlone s (if p then raise k x l t else t) := by
  split
  · exact h.trans (.of_eq (by simp) (by simp))
  · exact h

theorem totalsAlone_inboundComplete (b : BagIx) (y : TrayIx) (s : State) : TotalsAlone s (inboundComplete b y s) := by
  unfold inboundComplete
  dsimp only
  refine TotalsAlone.noted ((TotalsAlone.of_eq ?_ ?_).trans (totalsAlone_enterDifference _ _ _)) _ _ _
  · split <;> rfl
  · split <;> rfl

theorem totalsAlone_compartmentComplete (c : CompIx) (y : TrayIx) (s : State) : TotalsAlone s (compartmentComplete c y s) :=
  (totalsAlone_enterDifference _ _ _).noted _ _ _

theorem totalsAlone_reconcile (src : Source) (o : Bool) (y : TrayIx) (s : State) : TotalsAlone s (reconcile src o y s) := by
  cases src with
  | drawer i n =>
    cases o
    · exact .of_eq rfl rfl
    · exact totalsAlone_drawerComplete i y s
  | pouch i n k =>
    refine TotalsAlone.trans ?_ (totalsAlone_oweAttempt y _)
    cases o
    · exact .of_eq rfl rfl
    · exact totalsAlone_pouchComplete i k y s
  | inbound b => exact totalsAlone_inboundComplete b y s
  | compartment c => exact totalsAlone_compartmentComplete c y s
  | loose => exact totalsAlone_oweAttempt y s

theorem totalsAlone_handOver (y : TrayIx) (s : State) : TotalsAlone s (handOver y s) := by
  unfold handOver
  split
  · exact totalsAlone_reconcile _ _ _ _
  · exact .of_eq rfl rfl

end Sys2Proof.Machine
end

section
/-! The manual count (R94): its movements, what it writes beside them, and the end of its event. -/

namespace Sys2Proof.Machine

variable {s u : State} {t : TrayIx} {v : Counts} {p : Port} {ops : List Nat}

/-! ## The movements of a count (R81, R82, R88) -/

theorem holding_applyMove_result (t : TrayIx) (v : Counts) (p : Port) (ops : List Nat) (f : MoveFlags) (b : Bool) (s : State)
    (c : Container) : holding (applyMove (countResultMove t v p ops f b) s) c = if c = .tray t then v else holding s c := by
  rw [holding_applyMove]
  simp [heldAfter, countResultMove, formOf, eq_comm]

theorem flows_applyMove_result (t : TrayIx) (v : Counts) (p : Port) (ops : List Nat) (f : MoveFlags) (b : Bool) (s : State) :
    (applyMove (countResultMove t v p ops f b) s).store.inflow = s.store.inflow.add (v.sub (holding s (.tray t)))
      ∧ (applyMove (countResultMove t v p ops f b) s).store.outflow = s.store.outflow := by
  obtain ⟨inflow, outflow⟩ := applyMove_flows (countResultMove t v p ops f b) s
  obtain ⟨gained, same⟩ := movePosition_countResult (s := s) (m := countResultMove t v p ops f b) rfl rfl
  exact ⟨inflow.trans gained, outflow.trans same⟩

theorem sourceContainer_ne_tray (src : Source) (t : TrayIx) : sourceContainer src ≠ some (.tray t) := by
  cases src <;> simp [sourceContainer]

theorem sourceVector_eq {src : Source} {c : Container} (h : sourceContainer src = some c) : sourceVector s src = holding s c := by
  simp [sourceVector, h]

/-- A source's whole holding taken into the tray. -/
theorem holding_applyMove_taken (src : Source) (t : TrayIx) (p : Port) (ops : List Nat) (b : Bool) (s : State) (c : Container) :
    holding (applyMove (countOutMove src t p ops b s) s) c
      = if c = .tray t then (holding s c).add (sourceVector s src)
        else if sourceContainer src = some c then Counts.zero else holding s c := by
  rw [holding_applyMove]
  by_cases tray : c = .tray t
  · subst tray
    simp [heldAfter, countOutMove, formOf, sourceContainer_ne_tray]
  · by_cases source : sourceContainer src = some c
    · have emptied : (holding s c).sub (holding s c) = Counts.zero := eq_of_look fun i => by simp
      simp [heldAfter, countOutMove, formOf, source, tray, Ne.symm tray, sourceVector_eq source, emptied]
    · simp [heldAfter, countOutMove, formOf, source, tray, Ne.symm tray]

variable (src : Source) (t : TrayIx) (p : Port) (ops : List Nat) (b : Bool) (s : State)

/-- The same for a source that may hold nothing, when no movement is made. -/
theorem holding_sourceMoves (c : Container) :
    holding ((sourceMoves src t p ops b s).foldl (fun acc m => applyMove m acc) s) c
      = if c = .tray t then (holding s c).add (sourceVector s src)
        else if sourceContainer src = some c then Counts.zero else holding s c := by
  unfold sourceMoves
  split
  · next zero =>
    have none := (allZero_iff _).mp zero
    have added : (holding s c).add Counts.zero = holding s c := eq_of_look fun i => by simp
    rw [none, added, List.foldl_nil]
    by_cases source : sourceContainer src = some c
    · simp [source, ← sourceVector_eq (s := s) source, none]
    · simp [source]
  · exact holding_applyMove_taken src t p ops b s c

theorem flows_sourceMoves :
    ((sourceMoves src t p ops b s).foldl (fun acc m => applyMove m acc) s).store.inflow = s.store.inflow
      ∧ ((sourceMoves src t p ops b s).foldl (fun acc m => applyMove m acc) s).store.outflow = s.store.outflow := by
  unfold sourceMoves
  split
  · exact ⟨rfl, rfl⟩
  · exact applyMove_flows (countOutMove src t p ops b s) s

theorem journal_fold {ms : List Movement} (unheld : ∀ m ∈ ms, m.held = false) (s : State) :
    (ms.foldl (fun acc m => applyMove m acc) s).store.journal.nextSeq = seqAfter^[ms.length] s.store.journal.nextSeq
      ∧ (ms.foldl (fun acc m => applyMove m acc) s).store.journal.held = s.store.journal.held := by
  induction ms generalizing s with
  | nil => exact ⟨rfl, rfl⟩
  | cons m ms ih =>
    obtain ⟨hm, hms⟩ := List.forall_mem_cons.mp unheld
    obtain ⟨next, held⟩ := ih hms (applyMove m s)
    rw [applyMove_journal] at next held
    rw [List.foldl_cons]
    exact ⟨next, held.trans (by simp [hm])⟩

/-- The COUNT_RESULT of a manual count. -/
def handResult (t : TrayIx) (v : Counts) (p : Port) (ops : List Nat) : Movement :=
  countResultMove t v p ops { MoveFlags.clear with manual := true } false

/-- The Store's event of a manual count: the source's cash into the tray, where there is any, then the count in its place. -/
def manualMoves (v : Counts) : List Movement :=
  sourceMoves src t p ops b s ++ [handResult t v p ops]

variable (v : Counts)

theorem manualMoves_unheld : ∀ m ∈ manualMoves src t p ops b s v, m.held = false := by
  unfold manualMoves sourceMoves
  split <;> simp [countOutMove, handResult, countResultMove]

theorem storeEvent_journal {ms : List Movement} (unheld : ∀ m ∈ ms, m.held = false) :
    (storeEvent ms false s).store.journal.entries = s.store.journal.entries ++ ms.zipIdx.map (entryAt s)
      ∧ (storeEvent ms false s).store.journal.nextSeq = seqAfter^[ms.length] s.store.journal.nextSeq
      ∧ (storeEvent ms false s).store.journal.held = s.store.journal.held := by
  rw [storeEvent_store]
  exact ⟨journal_entries_fold ms s, journal_fold unheld s⟩

theorem manual_stored :
    (∀ c, holding (storeEvent (manualMoves src t p ops b s v) false s) c
        = if c = .tray t then v else if sourceContainer src = some c then Counts.zero else holding s c)
      ∧ (storeEvent (manualMoves src t p ops b s v) false s).store.inflow
        = s.store.inflow.add (v.sub ((holding s (.tray t)).add (sourceVector s src)))
      ∧ (storeEvent (manualMoves src t p ops b s v) false s).store.outflow = s.store.outflow := by
  obtain ⟨inflow, outflow⟩ := flows_sourceMoves src t p ops b s
  have tray := holding_sourceMoves src t p ops b s (.tray t)
  rw [if_pos rfl] at tray
  refine ⟨fun c => ?_, ?_⟩
  · rw [holding_storeEvent, manualMoves, List.foldl_append, List.foldl_cons, List.foldl_nil, handResult,
      holding_applyMove_result, holding_sourceMoves]
    by_cases here : c = .tray t
    · simp [here]
    · simp [here]
  · rw [storeEvent_store, manualMoves, List.foldl_append, List.foldl_cons, List.foldl_nil]
    obtain ⟨gained, same⟩ := flows_applyMove_result t v p ops { MoveFlags.clear with manual := true } false
      ((sourceMoves src t p ops b s).foldl (fun acc m => applyMove m acc) s)
    exact ⟨gained.trans (by rw [inflow, tray]), same.trans outflow⟩

/-! ## What a manual count writes beside the Store's event (R78, R94) -/

/-- The state a manual count leaves before the completion goes to the Reconciliation Unit. -/
def countedByHand : State :=
  raiseCountDone t (recordFill t ops (giveCount t (report (modTray t
    (fun r => { r with state := .counted, flags := TrayFlags.byHand, rejects := 0 }) s))))

/-- The tray of a manual count, as the count leaves it. -/
def trayByHand : TrayRec :=
  { trayOf s t with state := .counted, rejects := 0, flags := TrayFlags.byHand, count := some (nextCount s) }

/-- The content of COUNT_DONE after a manual count. -/
def handCountContent : List Field :=
  [.u16 (nextCount s).number] ++ ((trayOf s t).source.map sourceFields).getD [] ++ [.value (valueOf s (holding s (.tray t))), .u8 1]

theorem put_put {α : Type} {n : Nat} (w : Vector α n) (i : Fin n) (a b : α) : put (put w i a) i b = put w i b :=
  eq_of_look fun j => by
    simp only [look_put]
    split <;> rfl

/-- The state of a manual count before COUNT_DONE. -/
def recordedByHand : State := { s with
  count := { s.count with lastCount := some (nextCount s), trays := put s.count.trays t (trayByHand t s) }
  recon := { s.recon with fillOps := put s.recon.fillOps t ops }
  event := { s.event with reported := true } }

theorem recordedByHand_eq :
    recordFill t ops (giveCount t (report (modTray t
      (fun r => { r with state := .counted, flags := TrayFlags.byHand, rejects := 0 }) s))) = recordedByHand t ops s := by
  simp only [recordFill, giveCount, report, modTray, modCount, trayOf, look_put_self, put_put]
  rfl

theorem countedByHand_eq : countedByHand t ops s = { recordedByHand t ops s with
    ports := (raise .countDone (.tray t) (handCountContent t s) s).ports } := by
  have tray : trayOf (recordedByHand t ops s) t = trayByHand t s := look_put_self _ _ _
  have held : holding (recordedByHand t ops s) (.tray t) = holding s (.tray t) := rfl
  have told : raiseCountDone t (recordedByHand t ops s)
      = raise .countDone (.tray t) (handCountContent t s) (recordedByHand t ops s) := by
    rw [raiseCountDone, tray, held]
    rfl
  have sent : (raise .countDone (.tray t) (handCountContent t s) (recordedByHand t ops s)).ports
      = (raise .countDone (.tray t) (handCountContent t s) s).ports := by
    refine raise_ports_congr ?_ ?_ _ _ _ <;> rfl
  rw [countedByHand, recordedByHand_eq, told, raise_eq, sent]

theorem manualDone_eq (out : Option Nat) (seq : Nat) :
    manualDone t ops out seq s = .done (handOver t (countedByHand t ops s))
      ([.u16 (nextCount s).number] ++ optional (out.map fun n => [.u32 n]) ++ [.u32 seq]) := by
  have tray : trayOf (countedByHand t ops s) t = trayByHand t s := by
    rw [countedByHand_eq]
    exact look_put_self _ _ _
  have number : (trayOf (countedByHand t ops s) t).count = some (nextCount s) := by rw [tray]; rfl
  exact congrArg (fun k => Attempt.done (handOver t (countedByHand t ops s)) ([countField k] ++ optional (out.map fun n => [.u32 n]) ++ [.u32 seq]))
    number

/-! ## The end of the event (R28) -/

variable {s}

/-- With a tray COUNTED the close of a day cannot complete, so an answer ends the event with the next frames alone. -/
theorem replied_counted {x : State} (h : Req) (rs : List Field) (calls : x.event.signals = []) {t : TrayIx}
    (counted : (trayOf x t).state = .counted) :
    replied h .ok rs x = startFrames { answer h.port h.tag .ok 0 rs x with event := Scratch.empty } := by
  have busy : quiet (answer h.port h.tag .ok 0 rs x) = false := by
    have tray : (x.count.trays.all fun r => r.state == .empty) = false := by
      refine Bool.eq_false_iff.mpr fun every => ?_
      have empty : (trayOf x t).state = .empty := eq_of_beq (Vector.all_eq_true.mp every t.1 t.2)
      exact nomatch counted.symm.trans empty
    simp [quiet, tray]
  have same : completionCheck (answer h.port h.tag .ok 0 rs x) = answer h.port h.tag .ok 0 rs x := by
    simp [completionCheck, busy]
  rw [replied, finish_unsignalled _ (by simpa using calls), same, ite_self]

/-- What the end of a manual count's event keeps of the state the Reconciliation Unit was handed. -/
theorem manual_ended {x : State} (h : Req) (rs : List Field) (calls : x.event.signals = []) {t : TrayIx}
    (counted : (trayOf x t).state = .counted) :
    let u := replied h .ok rs (handOver t x)
    u.count = x.count ∧ u.day = x.day ∧ u.retention = x.retention ∧ u.recon.fillOps = x.recon.fillOps
      ∧ (∀ c, holding u c = holding x c) ∧ u.store.journal = x.store.journal := by
  have kept := totalsAlone_handOver t x
  have still : (trayOf (handOver t x) t).state = .counted := by simpa [trayOf] using counted
  dsimp only
  rw [replied_counted h rs (by simpa using calls) still]
  refine ⟨by simp, by simp, by simp, by simpa using kept.fillOps, fun c => ?_, by simpa using kept.journal⟩
  rw [← kept.holding c]
  exact holding_congr _ _ (by simp) c

/-! ## The request (R94) -/

section Request

variable {h : Req} {v : Counts} {t : TrayIx}

theorem sourceVector_accepted (h : Req) (code : Nat) (s : State) (src : Source) :
    sourceVector (accepted h code s) src = sourceVector s src := by
  unfold sourceVector
  split <;> simp

theorem sourceReady_accepted (h : Req) (code : Nat) (s : State) (src : Source) :
    sourceReady (accepted h code s) src = sourceReady s src := by
  cases src <;> simp [sourceReady]

theorem sourceNamed_accepted (h : Req) (code : Nat) (s : State) (arg : SourceArg) :
    sourceNamed (accepted h code s) arg = sourceNamed s arg := by
  cases arg <;> simp [sourceNamed]

theorem sourceOf_accepted (h : Req) (code : Nat) (s : State) (arg : SourceArg) :
    sourceOf (accepted h code s) arg = sourceOf s arg := by
  cases arg <;> simp [sourceOf]

/-- A manual count taken up goes by the state of its tray. -/
theorem manualCount_taken (hr : officeReady s h = true) (dual : authorise .dual h s = none) (range : countsInRange v)
    (used : ∀ i : DenomIx, (look s.store.denoms i).status = .unused → look v i = 0) (arg : Option SourceArg) :
    exec (.manualCount h t.1 (.ok v) (.ok arg)) s = .next (finish (manualByState h t v arg (accepted h 0x32 s))) := by
  obtain ⟨hr, hp⟩ := officeReady_iff.mp hr
  have vector : unsignedArg (accepted h 0x32 s) (.ok v) = some v := unsignedArg_eq range (by simpa using used)
  have owner : manualOwner h t.1 (.ok v) (.ok arg) (accepted h 0x32 s) = manualByState h t v arg (accepted h 0x32 s) := by
    simp [manualOwner, vector, dual]
  exact congrArg Host.Outcome.next ((request_ready h 0x32 _ s hr (by rw [hp]; rfl)).trans (congrArg finish owner))

/-- The state a manual count of an EMPTY tray hands over: the Store's event applied, the source marked and recorded (R81, R94). -/
def sourceEntered (src : Source) (t : TrayIx) (p : Port) (ops : List Nat) (v : Counts) (s : State) : State :=
  modTray t (fun r => { r with source := some src, prior := sourceVector s src })
    (markSource t src (storeEvent (manualMoves src t p ops true s v) false s))

/-- The number of the COUNT_OUT, where one is written, and of the COUNT_RESULT. -/
def manualNumbers (zero : Bool) (first : Nat) : List Field :=
  if zero then [.u8 0, .u32 first] else [.u8 1, .u32 first, .u32 (seqAfter first)]

theorem manualTry_done {arg : SourceArg} {src : Source} (empty : (trayOf s t).state = .empty) (named : sourceNamed s arg = true)
    (is : sourceOf s arg = some src) (ready : sourceReady s src = true)
    (pass : checkEvent (if allZero (sourceVector s src) = true then 1 else 2)
      [if allZero (sourceVector s src) = true then emptyStart (some src) p ops else countOutMove src t p ops true s,
        handResult t v p ops] s = .pass) :
    manualTry p ops t v arg s = .done (handOver t (countedByHand t ops (sourceEntered src t p ops v s)))
      (.u16 (nextCount (sourceEntered src t p ops v s)).number
        :: manualNumbers (allZero (sourceVector s src)) s.store.journal.nextSeq) := by
  unfold manualTry
  simp only [empty, named, is, ready, ne_eq, not_true_eq_false, if_false, Bool.not_true, Bool.false_eq_true]
  rw [handResult] at pass
  simp only [pass]
  unfold sourceEntered manualMoves sourceMoves
  cases allZero (sourceVector s src)
  · exact manualDone_eq t ops _ _ _
  · exact manualDone_eq t ops _ _ _

end Request

end Sys2Proof.Machine
end

section
/-! MANUAL COUNT taken (R94): of an EMPTY tray, whose source is taken and marked, and of an INVALID tray, which keeps its source. -/

namespace Sys2Proof.Machine

variable {s x : State} {h : Req} {t : TrayIx} {v : Counts} {ms : List Movement} {source : Option Source} {prior : Counts}

/-! ## The state handed over -/

/-- `x` is the state a manual count of `t` hands over: the Store's event of `ms` applied, the tray, the last count number and the
operators recorded, COUNT_DONE raised. -/
structure HandCounted (s : State) (h : Req) (t : TrayIx) (v : Counts) (ms : List Movement) (source : Option Source) (prior : Counts)
    (x : State) : Prop where
  tray : trayOf x t = { trayOf s t with
    state := .counted, source, prior, rejects := 0, flags := TrayFlags.byHand, count := some (nextCount s) }
  store : x.store = (storeEvent ms false (accepted h 0x32 s)).store
  count : x.count = { s.count with lastCount := some (nextCount s), trays := put s.count.trays t (trayOf x t) }
  recon : x.recon = { s.recon with fillOps := put s.recon.fillOps t [h.op1, h.op2] }
  day : x.day = s.day
  retention : x.retention = s.retention
  event : x.event = { signals := [], reported := true }
  ports : x.ports = (raise .countDone (.tray t) ([.u16 (nextCount s).number] ++ (source.map sourceFields).getD []
    ++ [.value (valueOf s v), .u8 1]) (storeEvent ms false (accepted h 0x32 s))).ports

/-- A state `u` in which the Store's event is applied, the tray's source and prior holding are set and nothing else of these
records differs, is counted by hand. -/
theorem handCounted_of {u : State} (store : u.store = (storeEvent ms false (accepted h 0x32 s)).store)
    (tray : trayOf u t = { trayOf s t with source, prior })
    (count : u.count = { s.count with trays := put s.count.trays t (trayOf u t) }) (recon : u.recon = s.recon) (day : u.day = s.day)
    (retention : u.retention = s.retention) (calls : u.event.signals = [])
    (ports : u.ports = (storeEvent ms false (accepted h 0x32 s)).ports)
    (result : holding (storeEvent ms false (accepted h 0x32 s)) (.tray t) = v) :
    HandCounted s h t v ms source prior (countedByHand t [h.op1, h.op2] u) := by
  have next : nextCount u = nextCount s := by simp [nextCount, count, day]
  have made : trayByHand t u = { trayOf s t with
      state := .counted, source, prior, rejects := 0, flags := TrayFlags.byHand, count := some (nextCount s) } := by
    rw [trayByHand, tray, next]
  have found : trayOf (countedByHand t [h.op1, h.op2] u) t = trayByHand t u := by
    rw [countedByHand_eq]
    exact look_put_self _ _ _
  have content : handCountContent t u
      = [.u16 (nextCount s).number] ++ (source.map sourceFields).getD [] ++ [.value (valueOf s v), .u8 1] := by
    have worth : valueOf u (holding u (.tray t)) = valueOf s v := by
      rw [holding_congr _ _ store, result, valueOf, store]
      simp [valueOf]
    rw [handCountContent, next, tray, worth]
  refine ⟨found.trans made, ?_, ?_, ?_, ?_, ?_, ?_, ?_⟩
  · rw [countedByHand_eq]
    exact store
  · rw [found, countedByHand_eq]
    simp [recordedByHand, count, next, put_put]
  · rw [countedByHand_eq]
    simp [recordedByHand, recon]
  · rw [countedByHand_eq]
    exact day
  · rw [countedByHand_eq]
    exact retention
  · rw [countedByHand_eq]
    simp [recordedByHand, calls]
  · rw [countedByHand_eq, content]
    refine raise_ports_congr ?_ ?_ _ _ _
    · exact ports
    · simpa using day

/-- The tray, the station and the records that the statement of a manual count names, at the end of its event. -/
theorem HandCounted.counted (hc : HandCounted s h t v ms source prior x) (rs : List Field) :
    let u := replied h .ok rs (handOver t x)
    ((trayOf u t).state = .counted ∧ (trayOf u t).flags = { manual := true, uncertain := 0, saturated := false }
      ∧ (trayOf u t).rejects = 0 ∧ (trayOf u t).count = some (nextCount s) ∧ (∀ o, o ≠ t → trayOf u o = trayOf s o)
      ∧ u.count.station = s.count.station ∧ u.count.running = s.count.running ∧ u.count.exchange = s.count.exchange
      ∧ u.day = s.day ∧ u.retention = s.retention ∧ look u.recon.fillOps t = [h.op1, h.op2])
    ∧ (trayOf u t).source = source ∧ (trayOf u t).prior = prior
    ∧ (∀ c, holding u c = holding (storeEvent ms false (accepted h 0x32 s)) c)
    ∧ u.store.journal = (storeEvent ms false (accepted h 0x32 s)).store.journal := by
  obtain ⟨count, day, retention, fillOps, held, journal⟩ :=
    manual_ended h rs (by rw [hc.event]) (t := t) (x := x) (by rw [hc.tray])
  have tray : trayOf (replied h .ok rs (handOver t x)) t = trayOf x t := by rw [trayOf, count]; rfl
  dsimp only
  rw [tray, hc.tray, count, day, retention, fillOps, hc.day, hc.retention, hc.recon]
  refine ⟨⟨rfl, rfl, rfl, rfl, fun o ho => ?_, ?_, ?_, ?_, rfl, rfl, look_put_self _ _ _⟩, rfl, rfl, fun c => ?_, ?_⟩
  · rw [trayOf, count, hc.count]
    exact look_put_ne _ _ ho
  · rw [hc.count]
  · rw [hc.count]
  · rw [hc.count]
  · rw [held]
    exact holding_congr _ _ hc.store c
  · rw [journal, hc.store]

/-- What the statement lists of the state handed over, given what the Store's event did to the flows and the held entries. -/
theorem HandCounted.entered (hc : HandCounted s h t v ms source prior x) {replaced : Counts}
    (inflow : (storeEvent ms false (accepted h 0x32 s)).store.inflow = s.store.inflow.add (v.sub replaced))
    (outflow : (storeEvent ms false (accepted h 0x32 s)).store.outflow = s.store.outflow)
    (held : (storeEvent ms false (accepted h 0x32 s)).store.journal.held = s.store.journal.held) :
    trayOf x t = { trayOf s t with
        state := .counted, source, prior, rejects := 0, flags := { manual := true, uncertain := 0, saturated := false }
        count := some (nextCount s) }
      ∧ x.store = (storeEvent ms false (accepted h 0x32 s)).store
      ∧ x.count = { s.count with lastCount := some (nextCount s), trays := put s.count.trays t (trayOf x t) }
      ∧ x.recon = { s.recon with fillOps := put s.recon.fillOps t [h.op1, h.op2] }
      ∧ x.store.inflow = s.store.inflow.add (v.sub replaced) ∧ x.store.outflow = s.store.outflow
      ∧ x.store.base = s.store.base ∧ x.store.totals = s.store.totals ∧ x.store.denoms = s.store.denoms
      ∧ x.store.journal.held = s.store.journal.held ∧ x.day = s.day
      ∧ x.event = { signals := [], reported := true }
      ∧ x.ports = (raise .countDone (.tray t) ([.u16 (nextCount s).number]
          ++ (match source with
            | some (.drawer i n) => [.u8 0, .u8 i.1, .u16 n]
            | some (.pouch i n k) => [.u8 1, .u8 i.1, .u16 n, .u8 k]
            | some (.inbound b) => [.u8 2, .u8 b.1]
            | some (.compartment c) => [.u8 3, .u8 c.1]
            | some .loose => [.u8 4]
            | none => [])
          ++ [.value (valueOf s v), .u8 1]) (storeEvent ms false (accepted h 0x32 s))).ports := by
  have ports := hc.ports
  refine ⟨hc.tray, hc.store, hc.count, hc.recon, ?_, ?_, ?_, ?_, ?_, ?_, hc.day, hc.event, ?_⟩
  · rw [hc.store, inflow]
  · rw [hc.store, outflow]
  · simp [hc.store]
  · simp [hc.store]
  · simp [hc.store]
  · rw [hc.store, held]
  · cases source with
    | none => exact ports
    | some src => cases src <;> exact ports

/-! ## The source of an EMPTY tray (R81) -/

theorem tillOf_markSource (t : TrayIx) (src : Source) (s : State) (i : TillIx) :
    tillOf (markSource t src s) i = match src with
      | .drawer j _ => if i = j then { tillOf s i with state := .counting } else tillOf s i
      | .pouch j _ k =>
        if i = j then { tillOf s i with pouches := (tillOf s i).pouches.map fun p =>
          if p.number = k then { p with state := .counting } else p }
        else tillOf s i
      | .inbound _ | .compartment _ | .loose => tillOf s i := by
  cases src with
  | drawer j n =>
    refine (tillOf_modTill j i (fun r => { r with state := .counting }) s).trans ?_
    by_cases here : i = j <;> simp [here]
  | pouch j n k =>
    refine (tillOf_modTill j i
      (fun r => { r with pouches := modPouch k (fun p => { p with state := .counting }) r.pouches }) s).trans ?_
    by_cases here : i = j <;> simp [here, modPouch]
  | inbound b => rfl
  | compartment c => rfl
  | loose => rfl

theorem bagOf_markSource (t : TrayIx) (src : Source) (s : State) (b : BagIx) :
    bagOf (markSource t src s) b = if src = .inbound b then { bagOf s b with state := .counting } else bagOf s b := by
  cases src with
  | inbound d =>
    refine (bagOf_modBag d b (fun r => { r with state := .counting }) s).trans ?_
    simp [eq_comm]
  | _ => rfl

theorem outForCount_markSource (t : TrayIx) (src : Source) (s : State) (c : CompIx) :
    (compOf (markSource t src s) c).outForCount = if src = .compartment c then some t else (compOf s c).outForCount := by
  cases src with
  | compartment d =>
    refine (congrArg CompRec.outForCount (compOf_modComp d (fun r => { r with outForCount := some t }) s c)).trans ?_
    by_cases here : c = d <;> simp [here, eq_comm]
  | _ => rfl

/-- A movement releases latches and leaves every out-for-count mark (R124, R137). -/
theorem outForCount_fold (ms : List Movement) (s : State) (c : CompIx) :
    (compOf (ms.foldl (fun acc m => applyMove m acc) s) c).outForCount = (compOf s c).outForCount := by
  induction ms generalizing s with
  | nil => rfl
  | cons m ms ih =>
    rw [List.foldl_cons, ih, compOf_applyMove]
    split <;> rfl

theorem outForCount_storeEvent (ms : List Movement) (s : State) (c : CompIx) :
    (compOf (storeEvent ms false s) c).outForCount = (compOf s c).outForCount := by
  rw [← outForCount_fold ms s c]
  simp [compOf, storeEvent]

end Sys2Proof.Machine
end

section
/-! MANUAL COUNT taken (R94), assembled for both kinds of tray. -/

namespace Sys2Proof.Machine

variable {s : State} {h : Req} {t : TrayIx} {v : Counts} {src : Source}

/-! ## The movements as the request finds them -/

theorem countOutMove_accepted (src : Source) (t : TrayIx) (p : Port) (ops : List Nat) (b : Bool) (h : Req) (code : Nat) (s : State) :
    countOutMove src t p ops b (accepted h code s) = countOutMove src t p ops b s := by
  rw [countOutMove, countOutMove, sourceVector_accepted]

theorem manualMoves_accepted (src : Source) (t : TrayIx) (p : Port) (ops : List Nat) (b : Bool) (h : Req) (code : Nat) (s : State)
    (v : Counts) : manualMoves src t p ops b (accepted h code s) v = manualMoves src t p ops b s v := by
  rw [manualMoves, manualMoves, sourceMoves, sourceMoves, sourceVector_accepted, countOutMove_accepted]

theorem entryAt_accepted (h : Req) (code : Nat) (s : State) : entryAt (accepted h code s) = entryAt s := by
  funext p
  simp [entryAt, entryOf]

theorem accepted_store (h : Req) (code : Nat) (s : State) : (accepted h code s).store = s.store := (accepted_frame h code s).1

/-- The entries of a manual count: of the count alone where the source holds nothing, else of the source's cash first (R82, R94). -/
theorem manualMoves_entries (src : Source) (t : TrayIx) (p : Port) (ops : List Nat) (b : Bool) (s : State) (v : Counts) :
    (manualMoves src t p ops b s v).zipIdx.map (entryAt s)
      = if allZero (sourceVector s src) = true then [entryOf (handResult t v p ops) s]
        else [entryOf (countOutMove src t p ops b s) s, { entryOf (handResult t v p ops) s with seq := seqAfter s.store.journal.nextSeq }] := by
  unfold manualMoves sourceMoves
  split <;> rfl

theorem manualMoves_length (src : Source) (t : TrayIx) (p : Port) (ops : List Nat) (b : Bool) (s : State) (v : Counts) :
    (manualMoves src t p ops b s v).length = if allZero (sourceVector s src) = true then 1 else 2 := by
  unfold manualMoves sourceMoves
  split <;> rfl

/-! ## An EMPTY tray -/

theorem manualByState_empty {arg : SourceArg} (empty : (trayOf s t).state = .empty) :
    manualByState h t v (some arg) s = accessArrival h.port h.tag [h.op1, h.op2] (.manualCount t v arg) s := by
  simp only [manualByState, empty]

theorem accessArrival_done {p : Port} {tag : Tag} {ops : List Nat} {arg : SourceArg} {u : State} {rs : List Field}
    (tried : manualTry p ops t v arg s = .done u rs) :
    accessArrival p tag ops (.manualCount t v arg) s = answer p tag .ok 0 rs u := by
  rw [accessArrival, accessTry, tried]

theorem manualInvalid_done {p : Port} {ops : List Nat}
    (pass : checkMovement 1 (handResult t v p ops) s = .pass) :
    manualInvalid p ops t v s = .done (handOver t (countedByHand t ops (storeEvent [handResult t v p ops] false s)))
      [.u16 (nextCount (storeEvent [handResult t v p ops] false s)).number, .u8 0, .u32 s.store.journal.nextSeq] := by
  rw [handResult] at pass
  simp only [manualInvalid, pass]
  exact manualDone_eq t ops _ _ _

theorem manualByState_invalid {arg : Option SourceArg} {u : State} {rs : List Field} (invalid : (trayOf s t).state = .invalid)
    (tried : manualInvalid h.port [h.op1, h.op2] t v s = .done u rs) :
    manualByState h t v arg s = answer h.port h.tag .ok 0 rs u := by
  simp only [manualByState, invalid, invalidReply, tried]
  rfl

theorem trayOf_modTray (t : TrayIx) (f : TrayRec → TrayRec) (s : State) : trayOf (modTray t f s) t = f (trayOf s t) :=
  look_put_self _ _ _

/-- The Store's event of a manual count as the request's state shows it: holdings, flows and journal. -/
theorem manual_stored_accepted (src : Source) (t : TrayIx) (v : Counts) (h : Req) (s : State) :
    let ops := [h.op1, h.op2]
    let stored := storeEvent (manualMoves src t h.port ops true s v) false (accepted h 0x32 s)
    let zero := allZero (sourceVector s src)
    let first := s.store.journal.nextSeq
    (∀ c, holding stored c = if c = .tray t then v else if sourceContainer src = some c then Counts.zero else holding s c)
      ∧ stored.store.inflow = s.store.inflow.add (v.sub ((holding s (.tray t)).add (sourceVector s src)))
      ∧ stored.store.outflow = s.store.outflow
      ∧ stored.store.journal.entries = s.store.journal.entries ++ (if zero = true then [entryOf (handResult t v h.port ops) s]
        else [entryOf (countOutMove src t h.port ops true s) s, { entryOf (handResult t v h.port ops) s with seq := seqAfter first }])
      ∧ stored.store.journal.nextSeq = (if zero = true then seqAfter first else seqAfter (seqAfter first))
      ∧ stored.store.journal.held = s.store.journal.held := by
  obtain ⟨held, inflow, outflow⟩ := manual_stored src t h.port [h.op1, h.op2] true (accepted h 0x32 s) v
  obtain ⟨entries, next, reserved⟩ := storeEvent_journal (accepted h 0x32 s) (manualMoves_unheld src t h.port [h.op1, h.op2] true s v)
  rw [manualMoves_accepted] at held inflow outflow
  rw [sourceVector_accepted, holding_accepted] at inflow
  rw [entryAt_accepted, manualMoves_entries] at entries
  rw [manualMoves_length] at next
  rw [accepted_store] at inflow outflow entries next reserved
  refine ⟨fun c => (held c).trans (by rw [holding_accepted]), inflow, outflow, entries, next.trans ?_, reserved⟩
  split <;> rfl

theorem handCounted_empty (src : Source) (t : TrayIx) (v : Counts) (h : Req) (s : State) :
    HandCounted s h t v (manualMoves src t h.port [h.op1, h.op2] true s v) (some src) (sourceVector s src)
      (countedByHand t [h.op1, h.op2] (sourceEntered src t h.port [h.op1, h.op2] v (accepted h 0x32 s))) := by
  obtain ⟨held, -, -⟩ := manual_stored src t h.port [h.op1, h.op2] true (accepted h 0x32 s) v
  rw [manualMoves_accepted] at held
  unfold sourceEntered
  rw [manualMoves_accepted, sourceVector_accepted]
  refine handCounted_of ?_ ?_ ?_ ?_ ?_ ?_ ?_ ?_ ((held _).trans (if_pos rfl))
  · simp
  · rw [trayOf_modTray]
    simp [trayOf]
  · rw [trayOf_modTray]
    simp [modTray, trayOf]
  · simp
  · simp
  · simp
  · simp [Scratch.empty]
  · simp

/-- Beyond the Store's event the tills, the bags and the compartments differ by the mark on the source alone (R81). -/
theorem marked_units (src : Source) (t : TrayIx) (v : Counts) (h : Req) (s : State) :
    let x := countedByHand t [h.op1, h.op2] (sourceEntered src t h.port [h.op1, h.op2] v (accepted h 0x32 s))
    let marked := markSource t src (storeEvent (manualMoves src t h.port [h.op1, h.op2] true s v) false (accepted h 0x32 s))
    (∀ i, tillOf x i = tillOf marked i) ∧ (∀ b, bagOf x b = bagOf marked b) ∧ ∀ c, compOf x c = compOf marked c := by
  dsimp only
  rw [countedByHand_eq, sourceEntered, manualMoves_accepted]
  exact ⟨fun _ => rfl, fun _ => rfl, fun _ => rfl⟩

/-- A manual count of an EMPTY tray that the Store passes (R94). -/
theorem manualCount_empty {arg : SourceArg} (hr : officeReady s h = true) (dual : authorise .dual h s = none)
    (range : countsInRange v) (used : ∀ i : DenomIx, (look s.store.denoms i).status = .unused → look v i = 0)
    (empty : (trayOf s t).state = .empty) (named : sourceNamed s arg = true) (is : sourceOf s arg = some src)
    (ready : sourceReady s src = true)
    (pass : checkEvent (if allZero (sourceVector s src) = true then 1 else 2)
      [if allZero (sourceVector s src) = true then emptyStart (some src) h.port [h.op1, h.op2]
          else countOutMove src t h.port [h.op1, h.op2] true s,
        handResult t v h.port [h.op1, h.op2]] s = .pass) :
    exec (.manualCount h t.1 (.ok v) (.ok (some arg))) s = .next (replied h .ok
      (.u16 (nextCount s).number :: manualNumbers (allZero (sourceVector s src)) s.store.journal.nextSeq)
      (handOver t (countedByHand t [h.op1, h.op2] (sourceEntered src t h.port [h.op1, h.op2] v (accepted h 0x32 s))))) := by
  have number : nextCount (sourceEntered src t h.port [h.op1, h.op2] v (accepted h 0x32 s)) = nextCount s := by
    simp [nextCount, sourceEntered, modTray]
  have tried := manualTry_done (s := accepted h 0x32 s) (t := t) (v := v) (p := h.port) (ops := [h.op1, h.op2]) (arg := arg)
    (src := src) (by simpa using empty) (by rwa [sourceNamed_accepted]) (by rwa [sourceOf_accepted])
    (by rwa [sourceReady_accepted])
    (by rw [sourceVector_accepted, countOutMove_accepted, (checkedAlike_accepted h 0x32 s).checkEvent, pass])
  rw [number, sourceVector_accepted, accepted_store] at tried
  rw [manualCount_taken hr dual range used, manualByState_empty (by simpa using empty), accessArrival_done tried]
  rfl

/-! ## An INVALID tray -/

theorem handCounted_invalid (t : TrayIx) (v : Counts) (h : Req) (s : State) :
    HandCounted s h t v [handResult t v h.port [h.op1, h.op2]] (trayOf s t).source (trayOf s t).prior (countedByHand t [h.op1, h.op2]
      (storeEvent [handResult t v h.port [h.op1, h.op2]] false (accepted h 0x32 s))) := by
  have held : holding (storeEvent [handResult t v h.port [h.op1, h.op2]] false (accepted h 0x32 s)) (.tray t) = v := by
    rw [holding_storeEvent]
    exact (holding_applyMove_result ..).trans (if_pos rfl)
  have tray : trayOf (storeEvent [handResult t v h.port [h.op1, h.op2]] false (accepted h 0x32 s)) t = trayOf s t := by
    simp [trayOf]
  have same : put s.count.trays t (trayOf s t) = s.count.trays := eq_of_look fun i => by
    rw [look_put]
    split
    · next here => rw [here]; rfl
    · rfl
  refine handCounted_of rfl tray ?_ ?_ ?_ ?_ ?_ rfl held
  · rw [tray, same]
    simp
  · simp
  · simp
  · simp
  · simp [Scratch.empty]

/-- The Store's event of the count of an INVALID tray: the one movement. -/
theorem manual_stored_invalid (t : TrayIx) (v : Counts) (h : Req) (s : State) :
    let result := handResult t v h.port [h.op1, h.op2]
    let stored := storeEvent [result] false (accepted h 0x32 s)
    (∀ c, holding stored c = if c = .tray t then v else holding s c)
      ∧ stored.store.inflow = s.store.inflow.add (v.sub (holding s (.tray t)))
      ∧ stored.store.outflow = s.store.outflow
      ∧ stored.store.journal.entries = s.store.journal.entries ++ [entryOf result s]
      ∧ stored.store.journal.nextSeq = seqAfter s.store.journal.nextSeq
      ∧ stored.store.journal.held = s.store.journal.held := by
  dsimp only
  obtain ⟨inflow, outflow⟩ := flows_applyMove_result t v h.port [h.op1, h.op2] { MoveFlags.clear with manual := true } false
    (accepted h 0x32 s)
  obtain ⟨entries, next, reserved⟩ := storeEvent_journal (accepted h 0x32 s) (ms := [handResult t v h.port [h.op1, h.op2]])
    (by simp [handResult, countResultMove])
  rw [holding_accepted] at inflow
  rw [entryAt_accepted] at entries
  rw [accepted_store] at inflow outflow entries next reserved
  refine ⟨fun c => ?_, ?_, ?_, entries, next, reserved⟩
  · rw [holding_storeEvent, ← holding_accepted h 0x32 s c]
    exact holding_applyMove_result ..
  · rw [storeEvent_store]
    exact inflow
  · rw [storeEvent_store]
    exact outflow

theorem manualCount_invalid {arg : Option SourceArg} (hr : officeReady s h = true) (dual : authorise .dual h s = none)
    (range : countsInRange v) (used : ∀ i : DenomIx, (look s.store.denoms i).status = .unused → look v i = 0)
    (invalid : (trayOf s t).state = .invalid)
    (pass : checkMovement 1 (handResult t v h.port [h.op1, h.op2]) s = .pass) :
    exec (.manualCount h t.1 (.ok v) (.ok arg)) s = .next (replied h .ok
      [.u16 (nextCount s).number, .u8 0, .u32 s.store.journal.nextSeq]
      (handOver t (countedByHand t [h.op1, h.op2] (storeEvent
        [handResult t v h.port [h.op1, h.op2]] false (accepted h 0x32 s))))) := by
  have number : nextCount (storeEvent [handResult t v h.port [h.op1, h.op2]] false (accepted h 0x32 s)) = nextCount s := by
    simp [nextCount]
  have passed := (checkedAlike_accepted h 0x32 s).checkMovement 1 (handResult t v h.port [h.op1, h.op2])
  have tried := manualInvalid_done (passed.trans pass)
  rw [number, accepted_store] at tried
  rw [manualCount_taken hr dual range used, manualByState_invalid (by simpa using invalid) tried]
  rfl

theorem handResult_named (t : TrayIx) (v : Counts) (p : Port) (ops : List Nat) : (handResult t v p ops).named = [] := rfl

/-- A movement that names no compartment leaves the Safe Unit as it is. -/
theorem safe_applyMove_unnamed {m : Movement} (hm : m.named = []) (s : State) : (applyMove m s).safe = s.safe := by
  rw [applyMove_safe, eq_of_look (a := (applyMove m s).safe.comps) (b := s.safe.comps) fun c => ?_]
  exact (compOf_applyMove m s c).trans (by simp [hm, compOf])

theorem safe_storeEvent_unnamed {m : Movement} (hm : m.named = []) (s : State) : (storeEvent [m] false s).safe = s.safe := by
  rw [← safe_applyMove_unnamed hm s]
  simp [storeEvent]

/-- Settles O33: for each kind of tray, the state handed over, then what the end of the event keeps of it. -/
theorem manualCountEnters : Obligations.ManualCountEnters := by
  intro s h t v hr dual range used
  have hp := (officeReady_iff.mp hr).2
  refine ⟨fun arg src empty named is ready pass => ?_, fun arg invalid pass => ?_⟩
  · have hc := handCounted_empty src t v h s
    obtain ⟨held, inflow, outflow, entries, next, reserved⟩ := manual_stored_accepted src t v h s
    obtain ⟨tills, bags, comps⟩ := marked_units src t v h s
    obtain ⟨counted, source, prior, holds, kept⟩ :=
      hc.counted (.u16 (nextCount s).number :: manualNumbers (allZero (sourceVector s src)) s.store.journal.nextSeq)
    refine ⟨_, manualCount_empty hr dual range used empty named is ready pass, counted, source, prior, fun c => (holds c).trans (held c),
      (congrArg Journal.entries kept).trans entries, _, rfl, hc.entered inflow outflow reserved,
      (congrArg (·.journal.nextSeq) hc.store).trans next, fun i => ?till,
      fun b => ?bag, fun c => ?out⟩
    case till =>
      have marked := tillOf_markSource t src
        (storeEvent (manualMoves src t h.port [h.op1, h.op2] true s v) false (accepted h 0x32 s)) i
      rw [show tillOf (storeEvent _ false (accepted h 0x32 s)) i = tillOf s i by simp [tillOf]] at marked
      exact (tills i).trans marked
    case bag =>
      rw [bags, bagOf_markSource]
      simp [bagOf]
    case out =>
      rw [comps, outForCount_markSource, outForCount_storeEvent, compOf_accepted]
  · have hc := handCounted_invalid t v h s
    obtain ⟨held, inflow, outflow, entries, next, reserved⟩ := manual_stored_invalid t v h s
    obtain ⟨counted, source, prior, holds, kept⟩ := hc.counted [.u16 (nextCount s).number, .u8 0, .u32 s.store.journal.nextSeq]
    refine ⟨_, manualCount_invalid hr dual range used invalid pass, counted, source, prior, fun c => (holds c).trans (held c),
      (congrArg Journal.entries kept).trans entries, _, rfl, hc.entered inflow outflow reserved,
      (congrArg (·.journal.nextSeq) hc.store).trans next, ?tills, ?courier, ?safe⟩
    case tills =>
      rw [countedByHand_eq]
      simp [recordedByHand]
    case courier =>
      rw [countedByHand_eq]
      simp [recordedByHand, accepted_courier h 0x32 s (by simp [hp])]
    case safe =>
      rw [countedByHand_eq]
      exact (safe_storeEvent_unnamed (handResult_named ..) _).trans (by simp)

end Sys2Proof.Machine
end

section
/-! The end of an event (R28, R84, R130, R195) and the completion of a close (R28, R29). -/

namespace Sys2Proof.Machine

variable {s t : State}

/-! ## The end of an event -/

/-- Two counts of passes that both reach the bound lead to the same state. -/
theorem runSignals_enough {m n : Nat} (hm : passLoad s ≤ m) (hn : passLoad s ≤ n) : runSignals m s = runSignals n s := by
  obtain ⟨a, rfl⟩ := Nat.exists_eq_add_of_le hm
  obtain ⟨b, rfl⟩ := Nat.exists_eq_add_of_le hn
  rw [runSignals_fuel _ _ _ le_rfl, runSignals_fuel _ _ _ le_rfl]

/-- An event that has called for a pass ends as the state after that pass does. -/
theorem finish_signalled {g : Signal} {later : List Signal} (hs : s.event.signals = g :: later) :
    finish s = finish (runSignal g { s with event := { s.event with signals := later } }) := by
  have fuel : passFuel s = later.length + 1 + 2 * s.safe.waiters.length + 1 := by simp [passFuel, hs]
  have room : passLoad { s with event := { s.event with signals := later } } ≤ later.length + 1 + 2 * s.safe.waiters.length :=
    (passLoad_le_fuel _).trans (by simp only [passFuel]; omega)
  have passes : runSignals (passFuel s) s = runSignals (passFuel (runSignal g { s with event := { s.event with signals := later } }))
      (runSignal g { s with event := { s.event with signals := later } }) := by
    rw [fuel, runSignals, hs]
    exact runSignals_enough ((runSignal_load g _).trans room) (passLoad_le_fuel _)
  rw [finish, finish, passes]

/-! ## The completion check (R28) -/

theorem all_iff_look {α : Type} {n : Nat} (v : Vector α n) (p : α → Bool) : v.all p = true ↔ ∀ i, p (look v i) = true := by
  rw [Vector.all_eq_true]
  exact ⟨fun h i => h i.1 i.2, fun h k hk => h ⟨k, hk⟩⟩

theorem quiet_iff (s : State) : quiet s = true ↔
    (∀ i, (tillOf s i).state = .idle ∨ (tillOf s i).state = .suspended)
    ∧ (∀ i, ∀ p ∈ (tillOf s i).pouches, p.state ≠ .received ∧ p.state ≠ .counting)
    ∧ (∀ b, (bagOf s b).dir = some .inbound → (bagOf s b).state ≠ .received ∧ (bagOf s b).state ≠ .counting)
    ∧ (∀ t, (trayOf s t).state = .empty) ∧ s.courier.session = none := by
  have tills : (s.float.tills.all fun r => r.state == .idle || r.state == .suspended) = true
      ↔ ∀ i, (tillOf s i).state = .idle ∨ (tillOf s i).state = .suspended := by
    exact (all_iff_look ..).trans (forall_congr' fun i => by simp [tillOf])
  have pouches : (s.float.tills.all fun r => !r.pouches.any pouchBusy) = true
      ↔ ∀ i, ∀ p ∈ (tillOf s i).pouches, p.state ≠ .received ∧ p.state ≠ .counting := by
    exact (all_iff_look ..).trans (forall_congr' fun i => by simp [tillOf, pouchBusy])
  have bags : (s.courier.bags.all fun r => !inboundBusy r) = true
      ↔ ∀ b, (bagOf s b).dir = some .inbound → (bagOf s b).state ≠ .received ∧ (bagOf s b).state ≠ .counting := by
    exact (all_iff_look ..).trans (forall_congr' fun b => by simp [bagOf, inboundBusy, imp_iff_not_or])
  have trays : (s.count.trays.all fun r => r.state == .empty) = true ↔ ∀ t, (trayOf s t).state = .empty := by
    exact (all_iff_look ..).trans (forall_congr' fun t => by simp [trayOf])
  unfold quiet
  simp only [Bool.and_eq_true, tills, pouches, bags, trays, Option.isNone_iff_eq_none, and_assoc]

theorem completionCheck_open (h : s.day.state ≠ .closing ∨ ¬ quiet s = true) : completionCheck s = s :=
  if_neg fun both => by
    obtain ⟨closing, ready⟩ := Bool.and_eq_true_iff.mp both
    exact h.elim (fun open_ => open_ (beq_iff_eq.mp closing)) fun busy => busy ready

theorem completionCheck_ready (closing : s.day.state = .closing) (ready : quiet s = true) : completionCheck s = completeClose s :=
  if_pos (by simp [closing, ready])

/-! ## The windows set back (R29, R158) -/

theorem look_map {α β : Type} {n : Nat} (f : α → β) (v : Vector α n) (i : Fin n) : look (v.map f) i = f (look v i) := by
  simp [look]

theorem windowOf_resetWindows (st : WindowState) (s : State) (w : WindowIx) :
    windowOf (resetWindows st s) w = { windowOf s w with state := st, staged := [], unstagePending := false } :=
  look_map ..

theorem bagOf_resetWindows (st : WindowState) (s : State) (b : BagIx) :
    bagOf (resetWindows st s) b
      = if (bagOf s b).state = .staged then { bagOf s b with state := .closed, window := none } else bagOf s b :=
  look_map ..

/-! ## The completion of a close (R29) -/

/-- What a notice does to the ports depends on the ports, the day number and the clock alone (R196). -/
theorem raise_ports_of_time (hp : t.ports = s.ports) (hn : t.day.number = s.day.number) (hc : t.day.clock = s.day.clock)
    (k : NoticeKind) (x : Subject) (l : List Field) : (raise k x l t).ports = (raise k x l s).ports := by
  unfold raise
  rw [hp, hn, hc]
  dsimp only
  split <;> split <;> split <;> simp [modPort, hp]

/-- A close completed, DAY_STATE still to be raised (R29). -/
def closedOff (s : State) : State := { s with
  day := { s.day with state := .closed, planState := .stopped }
  courier := (resetWindows .closed s).courier
  safe := { s.safe with range := SafeRange.empty, frozen := false } }

theorem completeClose_eq (s : State) :
    completeClose s = { closedOff s with ports := (raise .dayState .day [.u8 0, .u16 s.day.number] s).ports } := by
  have sent : (raise .dayState .day [.u8 0, .u16 s.day.number] (closedOff s)).ports
      = (raise .dayState .day [.u8 0, .u16 s.day.number] s).ports :=
    raise_ports_of_time (t := closedOff s) (s := s) rfl rfl rfl _ _ _
  rw [← sent]
  exact raise_eq ..

/-- Settles O15: the passes one by one, and the check by its conditions. -/
theorem closeCompletes : Obligations.CloseCompletes := by
  refine ⟨fun s => ⟨finish_unsignalled s, fun g later hs => finish_signalled hs, rfl⟩, fun s => ⟨fun h => ?_, fun closing ready => ?_⟩⟩
  · rw [← quiet_iff] at h
    exact completionCheck_open h
  · rw [completionCheck_ready closing ((quiet_iff s).mpr ready), completeClose_eq]
    obtain ⟨-, -, -, -, session⟩ := ready
    exact ⟨rfl, windowOf_resetWindows .closed s, bagOf_resetWindows .closed s, rfl, rfl, rfl, rfl, rfl, rfl, session, rfl, rfl,
      rfl, rfl, rfl⟩

end Sys2Proof.Machine
end

section
/-! What the entries of the Day Plan leave as they were, and the plan run at a second and at catch-up (R33 to R38, R156, R157). -/

namespace Sys2Proof.Machine

variable {s t u : State}

/-! ## Notices (R196 to R199) -/

theorem enqueue_rest (n : Notice) (r : PortRec) :
    enqueue n r = { r with notices := (enqueue n r).notices, dropped := (enqueue n r).dropped } := by
  unfold enqueue
  repeat' split
  all_goals rfl

/-- The ports of `t` are those of `s` but for the notices that wait there. -/
def NoticesAlone (s t : State) : Prop :=
  ∀ p, portOf t p = { portOf s p with notices := (portOf t p).notices, dropped := (portOf t p).dropped }

theorem NoticesAlone.of_eq (h : t.ports = s.ports) : NoticesAlone s t := fun p => by cases p <;> simp [portOf, h]

theorem NoticesAlone.trans (h : NoticesAlone s t) (k : NoticesAlone t u) : NoticesAlone s u :=
  fun p => (k p).trans (by rw [h p])

theorem noticesAlone_enqueue (n : Notice) (p : Port) (s : State) : NoticesAlone s (modPort p (enqueue n) s) := fun q => by
  rw [portOf_modPort]
  split
  · next here => subst here; exact enqueue_rest n _
  · rfl

theorem noticesAlone_raise (k : NoticeKind) (x : Subject) (l : List Field) (s : State) : NoticesAlone s (raise k x l s) := by
  have queued (b : Bool) (n : Notice) (p : Port) (u : State) :
      NoticesAlone u (if b = true then modPort p (enqueue n) u else u) := by
    cases b
    · exact .of_eq rfl
    · exact noticesAlone_enqueue n p u
  unfold raise
  exact ((queued _ _ .office s).trans (queued _ _ .till _)).trans (queued _ _ .courier _)

/-! ## What the entries of the plan leave (R36 to R38) -/

/-- What the entries of the Day Plan leave of a state: of the day all but the pointer and the plan's state, of the safe all but the range
and the freeze, of the courier's unit all but bags and windows, whose badges and compartments stay; bags that no window lists; and of
the ports all but the notices. -/
structure PlanRan (s t : State) : Prop where
  store : t.store = s.store
  float : t.float = s.float
  count : t.count = s.count
  recon : t.recon = s.recon
  retention : t.retention = s.retention
  stamp : t.stamp = s.stamp
  event : t.event = s.event
  pending : t.pending = s.pending
  day : t.day = { s.day with planState := t.day.planState, pointer := t.day.pointer }
  safe : t.safe = { s.safe with range := t.safe.range, frozen := t.safe.frozen }
  courier : t.courier = { s.courier with bags := t.courier.bags, windows := t.courier.windows }
  windows : ∀ w, (windowOf t w).badge = (windowOf s w).badge ∧ (windowOf t w).comp = (windowOf s w).comp
  unlisted : (∀ w, (windowOf s w).staged = []) → t.courier.bags = s.courier.bags ∧ ∀ w, (windowOf t w).staged = []
  ports : NoticesAlone s t

theorem PlanRan.refl (s : State) : PlanRan s s where
  store := rfl
  float := rfl
  count := rfl
  recon := rfl
  retention := rfl
  stamp := rfl
  event := rfl
  pending := rfl
  day := rfl
  safe := rfl
  courier := rfl
  windows _ := ⟨rfl, rfl⟩
  unlisted h := ⟨rfl, h⟩
  ports := .of_eq rfl

theorem PlanRan.trans (h : PlanRan s t) (k : PlanRan t u) : PlanRan s u where
  store := k.store.trans h.store
  float := k.float.trans h.float
  count := k.count.trans h.count
  recon := k.recon.trans h.recon
  retention := k.retention.trans h.retention
  stamp := k.stamp.trans h.stamp
  event := k.event.trans h.event
  pending := k.pending.trans h.pending
  day := k.day.trans (by rw [h.day])
  safe := k.safe.trans (by rw [h.safe])
  courier := k.courier.trans (by rw [h.courier])
  windows w := ⟨(k.windows w).1.trans (h.windows w).1, (k.windows w).2.trans (h.windows w).2⟩
  unlisted none :=
    have ⟨bags, still⟩ := h.unlisted none
    have ⟨later, last⟩ := k.unlisted still
    ⟨later.trans bags, last⟩
  ports := h.ports.trans k.ports

theorem PlanRan.fold {α : Type} {f : State → α → State} (one : ∀ acc a, PlanRan acc (f acc a)) (l : List α) (s : State) :
    PlanRan s (l.foldl f s) := by
  induction l generalizing s with
  | nil => exact .refl s
  | cons a l ih => exact (one s a).trans (ih _)

theorem planRan_raise (k : NoticeKind) (x : Subject) (l : List Field) (s : State) : PlanRan s (raise k x l s) :=
  { PlanRan.refl s with
    store := by simp
    float := by simp
    count := by simp
    recon := by simp
    retention := by simp
    stamp := by simp
    event := by simp
    pending := by simp
    day := by simp
    safe := by simp
    courier := by simp
    windows := by simp [windowOf]
    unlisted := by simp [windowOf]
    ports := noticesAlone_raise k x l s }

theorem planRan_passEntry (i : PlanIx) (s : State) : PlanRan s (passEntry i s) :=
  { PlanRan.refl s with day := rfl }

theorem windowOf_modWindow (w : WindowIx) (f : WindowRec → WindowRec) (s : State) (v : WindowIx) :
    windowOf (modWindow w f s) v = if v = w then f (windowOf s v) else windowOf s v := by
  simp only [windowOf, modWindow, look_put]
  split
  · next h => rw [h]
  · rfl

/-- A window changed in its state or in the unstaging that waits for its session. -/
theorem planRan_modWindow {f : WindowRec → WindowRec} (w : WindowIx) (s : State)
    (hf : ∀ r, (f r).badge = r.badge ∧ (f r).comp = r.comp ∧ (f r).staged = r.staged) : PlanRan s (modWindow w f s) :=
  { PlanRan.refl s with
    courier := rfl
    windows := fun v => by
      rw [windowOf_modWindow]
      split
      · exact ⟨(hf _).1, (hf _).2.1⟩
      · exact ⟨rfl, rfl⟩
    unlisted := fun none => ⟨rfl, fun v => by
      rw [windowOf_modWindow]
      split
      · exact (hf _).2.2.trans (none v)
      · exact none v⟩ }

theorem planRan_unstage (w : WindowIx) (s : State) : PlanRan s (unstage w s) := by
  have window (v : WindowIx) : windowOf (unstage w s) v
      = if v = w then { windowOf s v with staged := [], unstagePending := false } else windowOf s v := by
    rw [unstage, windowOf_modWindow, fold_modBag_eq]
    rfl
  refine { PlanRan.refl s with
    store := by simp
    float := by simp
    count := by simp
    recon := by simp
    retention := by simp
    stamp := by simp
    event := by simp
    pending := by simp
    day := by simp
    safe := by simp
    courier := ?_
    windows := fun v => ?_
    unlisted := fun none => ⟨?_, fun v => ?_⟩
    ports := .of_eq (by simp) }
  · rw [unstage, fold_modBag_eq]
    rfl
  · rw [window]
    split <;> exact ⟨rfl, rfl⟩
  · rw [unstage, none w]
    rfl
  · rw [window]
    split
    · rfl
    · exact none v

theorem planRan_unstageOrWait (w : WindowIx) (s : State) : PlanRan s (unstageOrWait w s) := by
  unfold unstageOrWait
  split
  · exact planRan_modWindow w s fun _ => ⟨rfl, rfl, rfl⟩
  · exact planRan_unstage w s

/-- A window set to another state with its notice raised, and its list unstaged at once or later (R156, R157). -/
theorem planRan_windowEnds (k : NoticeKind) (x : Subject) (l : List Field) (st : WindowState) (w : WindowIx) (s : State) :
    PlanRan s (unstageOrWait w (modWindow w (fun r => { r with state := st }) (raise k x l s))) :=
  ((planRan_raise k x l s).trans (planRan_modWindow (f := fun r => { r with state := st }) w _ fun _ => ⟨rfl, rfl, rfl⟩)).trans
    (planRan_unstageOrWait w _)

theorem planRan_closeWindowAt (w : WindowIx) (s : State) : PlanRan s (closeWindowAt w s) := by
  unfold closeWindowAt
  split
  · exact planRan_windowEnds ..
  · exact planRan_windowEnds ..
  · exact .refl s
  · exact .refl s

theorem planRan_missWindow (w : WindowIx) (s : State) : PlanRan s (missWindow w s) := planRan_windowEnds ..

theorem planRan_openWindowAt {w : WindowIx} (h : openWindowAt w s = .ok t) : PlanRan s t := by
  unfold openWindowAt at h
  dsimp only at h
  split at h; · cases h
  split at h; · cases h
  split at h <;> cases h
  · exact .refl s
  all_goals exact (planRan_raise ..).trans (planRan_modWindow w _ fun _ => ⟨rfl, rfl, rfl⟩)

theorem planRan_pickupRound (s : State) : PlanRan s (pickupRound s) :=
  PlanRan.fold (fun acc i => by
    dsimp only
    split
    · exact planRan_raise ..
    · exact .refl acc) _ s

theorem planRan_planAction {a : PlanAction} (h : planAction a s = .ok t) : PlanRan s t := by
  cases a with
  | windowOpen w => exact planRan_openWindowAt h
  | windowClose w => cases h; exact planRan_closeWindowAt w s
  | openRange low high =>
    simp only [planAction, openRangeTo] at h
    split at h <;> cases h
    exact { PlanRan.refl s with safe := rfl }
  | lockAll =>
    simp only [planAction, lockAllNow] at h
    split at h <;> cases h
    exact { PlanRan.refl s with safe := rfl }
  | freeze => cases h; exact { PlanRan.refl s with safe := rfl }
  | pickupRound =>
    obtain rfl : pickupRound s = t := Except.ok.inj h
    exact planRan_pickupRound s
  | stop => cases h; exact .refl s

theorem planRan_executeEntry (i : PlanIx) (s : State) : PlanRan s (executeEntry i s) := by
  unfold executeEntry
  split
  · next done => exact (planRan_passEntry i s).trans (planRan_planAction done)
  · exact (planRan_passEntry i s).trans (planRan_raise ..)

theorem planRan_catchUpEntry (set : List PlanIx) (s : State) (i : PlanIx) : PlanRan s (catchUpEntry set s i) := by
  unfold catchUpEntry
  split
  · split
    · exact (planRan_passEntry i s).trans (planRan_missWindow ..)
    · exact planRan_executeEntry i s
  all_goals exact planRan_executeEntry i s

theorem planRan_runPlan (s : State) : PlanRan s (runPlan s) := by
  unfold runPlan
  split
  · exact PlanRan.fold (fun acc i => planRan_executeEntry i acc) _ s
  · exact .refl s

theorem planRan_catchUp (s : State) : PlanRan s (catchUp s) := by
  unfold catchUp
  split
  · exact PlanRan.fold (planRan_catchUpEntry _) _ s
  · exact .refl s

/-! ## The plan run (R36, R38) -/

theorem planRuns_iff (s : State) : planRuns s = true ↔ s.day.state ≠ .closed ∧ s.day.planState = .running := by
  simp [planRuns]

theorem catchUp_runs (opened : s.day.state ≠ .closed) (running : s.day.planState = .running) :
    catchUp s = (dueSet s).foldl (catchUpEntry (dueSet s)) s := if_pos ((planRuns_iff s).mpr ⟨opened, running⟩)

theorem catchUp_rests (h : s.day.state = .closed ∨ s.day.planState ≠ .running) : catchUp s = s :=
  if_neg fun runs => by
    obtain ⟨opened, running⟩ := (planRuns_iff s).mp runs
    exact h.elim opened fun other => other running

theorem runPlan_runs (opened : s.day.state ≠ .closed) (running : s.day.planState = .running) :
    runPlan s = (dueSet s).foldl (fun acc i => executeEntry i acc) s := if_pos ((planRuns_iff s).mpr ⟨opened, running⟩)

theorem runPlan_rests (h : s.day.state = .closed ∨ s.day.planState ≠ .running) : runPlan s = s :=
  if_neg fun runs => by
    obtain ⟨opened, running⟩ := (planRuns_iff s).mp runs
    exact h.elim opened fun other => other running

/-- With the entry at the pointer still to come, catch-up does nothing. -/
theorem catchUp_nothing_due (pointer : s.day.pointer = 0) (later : s.day.clock < (look s.day.plan 0).time) : catchUp s = s := by
  have none : dueSet s = [] := by
    rw [dueSet, pointer, List.drop_zero, List.finRange_succ, dueIn]
    exact if_pos later
  unfold catchUp
  rw [none]
  exact ite_self s

end Sys2Proof.Machine
end

section
/-! SET CLOCK, CLOSE DAY, REOPEN and the requests about the plan (R27, R30, R32, R34, R35, R38, R39). -/

namespace Sys2Proof.Machine

variable {s : State} {h : Req}

/-! ## The Day Unit's requests as they are taken up -/

theorem office_answered {code : Nat} {owner : State → Reply} {fields : List Field} {t : State} (hr : officeReady s h = true)
    (hg : granted code .office = true) (ho : owner (accepted h code s) = Reply.ok fields t) (he : t.event = Scratch.empty) :
    immediate h code owner s = settled h .ok fields t := office_settled hr hg ho he

theorem office_refused {code : Nat} {owner : State → Reply} {c : Code} (hr : officeReady s h = true)
    (hg : granted code .office = true) (ho : owner (accepted h code s) = Reply.refuse c (accepted h code s)) :
    immediate h code owner s = settled h c [] (accepted h code s) := office_settled hr hg ho (by simp [Reply.refuse])

theorem modDay_accepted (f : DayUnit → DayUnit) (h : Req) (code : Nat) (s : State) :
    modDay f (accepted h code s) = { accepted h code s with day := f s.day } := by
  rw [modDay, (accepted_frame h code s).2.1]

theorem catchUp_event (s : State) : (catchUp s).event = s.event := (planRan_catchUp s).event

/-! ## SET CLOCK (R32) -/

theorem clockSet_eq (d : DayUnit) (time : Nat) :
    clockSet d time = if d.state = .closed then min time 86399
      else if time < d.clock - 300 then min (d.clock - 300) 86399
      else if d.clock + 300 < time then min (d.clock + 300) 86399
      else min time 86399 := by
  unfold clockSet Config.clockStep Config.lastSecond
  repeat' split
  all_goals omega

/-- Settles O26: the time is clamped as R32 says, and the clock moved is followed by catch-up where it has gone forward. -/
theorem setClockSteps : Obligations.SetClockSteps := by
  intro s h time hr
  dsimp only
  rw [← clockSet_eq]
  have reply : replySetClock time (accepted h 0x13 s) = Reply.ok [.u32 (clockSet s.day time)]
      (if s.day.clock < clockSet s.day time then catchUp { accepted h 0x13 s with day := { s.day with clock := clockSet s.day time } }
        else { accepted h 0x13 s with day := { s.day with clock := clockSet s.day time } }) := by
    unfold replySetClock
    dsimp only
    rw [modDay_accepted, (accepted_frame h 0x13 s).2.1]
  refine congrArg Host.Outcome.next (office_answered hr rfl reply ?_)
  split
  · rw [catchUp_event]
    simp
  · simp

/-! ## CLOSE DAY and REOPEN (R27, R30) -/

theorem dismissFloats_eq (sel : FloatWaiter → Bool) (c : Code) (s : State) :
    dismissFloats sel c s
      = answerEach ((s.float.waiters.filter sel).map fun w => (w.port, w.tag)) c (discardFloats sel s) := by
  rw [answerEach, List.foldl_map]
  rfl

/-- The waiters dismissed leave their list, and each of them is answered (R48, R54). -/
theorem dismissFloats_answers (sel : FloatWaiter → Bool) (c : Code) (s : State) :
    FloatsAnswered sel c s (dismissFloats sel c s) := by
  rw [dismissFloats_eq]
  exact ⟨(answerEach_eq ..).trans rfl, (answersEach _ c _).of_ports rfl⟩

theorem closeDay_taken (hr : officeReady s h = true) :
    exec (.closeDay h) s = .next (finish (if s.day.state = .opened then closeTheDay h (accepted h 0x11 s)
      else answer h.port h.tag .badState 0 [] (accepted h 0x11 s))) := by
  obtain ⟨isReady, port⟩ := officeReady_iff.mp hr
  refine congrArg Host.Outcome.next ((request_ready h _ _ s isReady (port ▸ rfl)).trans ?_)
  rw [(accepted_frame h 0x11 s).2.1.symm]
  rfl

theorem closeTheDay_accepted (h : Req) (s : State) : closeTheDay h (accepted h 0x11 s)
    = completionCheck (answer h.port h.tag .ok 0 [] (dismissFloats (fun _ => true) .dayClosing
        (raise .dayState .day [.u8 2, .u16 s.day.number] { accepted h 0x11 s with day := { s.day with state := .closing } }))) := by
  rw [closeTheDay, modDay_accepted]
  rfl

theorem reopen_closing (hr : officeReady s h = true) (closing : s.day.state = .closing) :
    exec (.reopen h) s = .next (settled h .ok [] (raise .dayState .day [.u8 1, .u16 s.day.number]
      { accepted h 0x12 s with day := { s.day with state := .opened } })) := by
  have reply : replyReopen (accepted h 0x12 s) = Reply.ok [] (raise .dayState .day [.u8 1, .u16 s.day.number]
      { accepted h 0x12 s with day := { s.day with state := .opened } }) := by
    rw [replyReopen, if_pos (by simp [closing]), modDay_accepted]
    rfl
  exact congrArg Host.Outcome.next (office_answered hr rfl reply (by simp))

theorem reopen_refused (hr : officeReady s h = true) (other : s.day.state ≠ .closing) :
    exec (.reopen h) s = .next (settled h .badState [] (accepted h 0x12 s)) := by
  have reply : replyReopen (accepted h 0x12 s) = Reply.refuse .badState (accepted h 0x12 s) := if_neg (by simp [other])
  exact congrArg Host.Outcome.next (office_refused hr rfl reply)

/-- Settles O25: the two requests by the state of the day, and the waiters answered. -/
theorem closeDayAndReopen : Obligations.CloseDayAndReopen := by
  refine ⟨fun s h hr => ⟨fun opened => ?_, fun other => ?_, reopen_closing hr, reopen_refused hr⟩, fun sel k s => ?_⟩
  · rw [closeDay_taken hr, if_pos opened, closeTheDay_accepted]
  · rw [closeDay_taken hr, if_neg other]
    exact congrArg Host.Outcome.next (replied_plain h .badState [] _ (by simp))
  · obtain ⟨rest, answers⟩ := dismissFloats_answers sel k s
    exact ⟨rest, answers⟩

/-! ## The requests about the plan (R34, R35, R39) -/

section Load

variable {i : PlanIx} {time : Nat} {arg : PlanArg} {a : PlanAction}

/-- LOAD PLAN ENTRY with its operands in range, past the check of its index against the pointer (R34). -/
theorem loadPlanEntry_placed (hr : officeReady s h = true) (action : planArg (.ok arg) = some a) (inDay : time ≤ 86399)
    (free : i.1 < s.day.pointer → s.day.planState ≠ .running ∧ s.day.planState ≠ .held) :
    let plan := put s.day.plan i { time, action := a }
    (planOrdered plan = true → exec (.loadPlanEntry h i.1 time (.ok arg)) s
        = .next (settled h .ok [] { accepted h 0x14 s with day := { s.day with plan } }))
    ∧ (planOrdered plan = false → exec (.loadPlanEntry h i.1 time (.ok arg)) s
        = .next (settled h .planOrder [] (accepted h 0x14 s))) := by
  have early : ¬ Config.lastSecond < time := Nat.not_lt.mpr inDay
  have unheld : (decide (i.1 < s.day.pointer) && (s.day.planState == .running || s.day.planState == .held)) = false := by
    by_cases behind : i.1 < s.day.pointer
    · obtain ⟨running, held⟩ := free behind
      simp [running, held]
    · simp [behind]
  refine ⟨fun ordered => ?_, fun disordered => ?_⟩
  · have reply : replyLoadPlanEntry i.1 time (.ok arg) (accepted h 0x14 s) = Reply.ok []
        { accepted h 0x14 s with day := { s.day with plan := put s.day.plan i { time, action := a } } } := by
      simp [replyLoadPlanEntry, action, early, unheld, ordered, modDay_accepted]
    exact congrArg Host.Outcome.next (office_answered hr rfl reply (by simp))
  · have reply : replyLoadPlanEntry i.1 time (.ok arg) (accepted h 0x14 s) = Reply.refuse .planOrder (accepted h 0x14 s) := by
      simp [replyLoadPlanEntry, action, early, unheld, disordered]
    exact congrArg Host.Outcome.next (office_refused hr rfl reply)

theorem loadPlanEntry_busy (hr : officeReady s h = true) (action : planArg (.ok arg) = some a) (inDay : time ≤ 86399)
    (behind : i.1 < s.day.pointer) (live : s.day.planState = .running ∨ s.day.planState = .held) :
    exec (.loadPlanEntry h i.1 time (.ok arg)) s = .next (settled h .planBusy [] (accepted h 0x14 s)) := by
  have early : ¬ Config.lastSecond < time := Nat.not_lt.mpr inDay
  have reply : replyLoadPlanEntry i.1 time (.ok arg) (accepted h 0x14 s) = Reply.refuse .planBusy (accepted h 0x14 s) := by
    simp [replyLoadPlanEntry, action, early, behind, live]
  exact congrArg Host.Outcome.next (office_refused hr rfl reply)

end Load

theorem holdPlan_settled (hr : officeReady s h = true) (running : s.day.planState = .running) :
    exec (.holdPlan h) s = .next (settled h .ok [] { accepted h 0x15 s with day := { s.day with planState := .held } }) := by
  have reply : replyHoldPlan (accepted h 0x15 s)
      = Reply.ok [] { accepted h 0x15 s with day := { s.day with planState := .held } } := by
    rw [replyHoldPlan, if_pos (by simp [running]), modDay_accepted]
  exact congrArg Host.Outcome.next (office_answered hr rfl reply (by simp))

theorem resumePlan_settled (hr : officeReady s h = true) (held : s.day.planState = .held) :
    exec (.resumePlan h) s
      = .next (settled h .ok [] (catchUp { accepted h 0x16 s with day := { s.day with planState := .running } })) := by
  have reply : replyResumePlan (accepted h 0x16 s)
      = Reply.ok [] (catchUp { accepted h 0x16 s with day := { s.day with planState := .running } }) := by
    rw [replyResumePlan, if_pos (by simp [held]), modDay_accepted]
  exact congrArg Host.Outcome.next (office_answered hr rfl reply (by simp [catchUp_event]))

/-! ## Catch-up (R38) -/

/-- An opening at catch-up is missed where its closing stands later in the set. -/
theorem catchUpEntry_opening {set : List PlanIx} {i : PlanIx} {w : WindowIx} (ha : (planAt s i).action = .windowOpen w) :
    catchUpEntry set s i = if ∃ j ∈ set, i < j ∧ (planAt s j).action = .windowClose w
      then missWindow w (passEntry i s) else executeEntry i s := by
  have later : (set.any fun j => decide (i.1 < j.1) && (planAt s j).action == .windowClose w) = true
      ↔ ∃ j ∈ set, i < j ∧ (planAt s j).action = .windowClose w := by
    simp only [List.any_eq_true, Bool.and_eq_true, decide_eq_true_eq, beq_iff_eq, Fin.lt_def]
  rw [catchUpEntry, ha]
  dsimp only
  simp only [later]

theorem catchUpEntry_other {set : List PlanIx} {i : PlanIx} (ha : ∀ w, (planAt s i).action ≠ .windowOpen w) :
    catchUpEntry set s i = executeEntry i s := by
  unfold catchUpEntry
  split
  · next w open_ => exact absurd open_ (ha w)
  all_goals rfl

/-- A run over entries may be read with the plan as the run finds it, since no entry changes the plan. -/
theorem foldl_plan_congr {f g : State → PlanIx → State} {plan : Vector PlanEntry 64}
    (same : ∀ acc i, acc.day.plan = plan → f acc i = g acc i) (keeps : ∀ acc i, PlanRan acc (f acc i))
    (l : List PlanIx) (acc : State) (found : acc.day.plan = plan) : l.foldl f acc = l.foldl g acc := by
  induction l generalizing acc with
  | nil => rfl
  | cons i l ih =>
    rw [List.foldl_cons, List.foldl_cons, ← same acc i found]
    refine ih _ ?_
    rw [(keeps acc i).day]
    exact found

theorem passEntry_eq (i : PlanIx) (s : State) : passEntry i s = { s with day := { s.day with
    pointer := i.1 + 1
    planState := if (look s.day.plan i).action = .stop ∨ i.1 = 63 then .ended else s.day.planState } } := by
  simp [passEntry, modDay]

theorem sessionAt_windowEnds (w : WindowIx) (f : WindowRec → WindowRec) (k : NoticeKind) (x : Subject) (l : List Field) (s : State) :
    sessionAt (modWindow w f (raise k x l s)) w = sessionAt s w := by
  simp [sessionAt, modWindow]

/-- A window's list is unstaged at once where it has no session, and at the end of its session otherwise (R156, R157). -/
theorem unstageOrWait_eq (w : WindowIx) (s : State) : unstageOrWait w s
    = if sessionAt s w = true then modWindow w (fun r => { r with unstagePending := true }) s else unstage w s := rfl

/-- Settles O27: the requests one by one, and catch-up entry by entry. -/
theorem planRequests : Obligations.PlanRequests := by
  refine ⟨fun s h hr => ⟨?load, ?busy, holdPlan_settled hr, resumePlan_settled hr⟩, fun s => ⟨catchUp_rests, ?entries⟩,
    fun s i => passEntry_eq i s, fun s w => ⟨fun free => ?now, fun met => ?later⟩⟩
  case load => exact fun i time arg a action inDay free => loadPlanEntry_placed hr action inDay free
  case busy => exact fun i time arg a action inDay behind live => loadPlanEntry_busy hr action inDay behind live
  case entries =>
    intro opened running
    rw [catchUp_runs opened running]
    refine foldl_plan_congr (fun acc i found => ?_) (planRan_catchUpEntry _) _ s rfl
    have entry (j : PlanIx) : (planAt acc j).action = (look s.day.plan j).action := by rw [planAt, found]
    cases ha : (look s.day.plan i).action with
    | windowOpen w => simp only [catchUpEntry_opening ((entry i).trans ha), entry]
    | _ => exact catchUpEntry_other fun w open_ => nomatch (open_.symm.trans (entry i)).trans ha
  case now => rw [missWindow, unstageOrWait_eq, sessionAt_windowEnds, if_neg (by simp [free])]; rfl
  case later => rw [missWindow, unstageOrWait_eq, sessionAt_windowEnds, if_pos met]; rfl

end Sys2Proof.Machine
end

section
/-! OPEN DAY (R25, R26, R158). -/

namespace Sys2Proof.Machine

variable {s : State} {h : Req}

/-! ## The prerequisites (R25) -/

theorem compsWithRole_head (s : State) (r : CompRole) : (compsWithRole s r).head?.isSome = true ↔ ∃ c, (compOf s c).role = r := by
  simp [compsWithRole]

theorem mayOpen_iff (s : State) : mayOpen s = true ↔
    (∃ i, (look s.store.denoms i).status = .active) ∧ (∃ c, (compOf s c).role = .floatReserve)
      ∧ (∃ c, (compOf s c).role = .takings) ∧ ∃ c, (compOf s c).role = .changeFund := by
  have denoms : (s.store.denoms.any fun d => d.status == .active) = true ↔ ∃ i, (look s.store.denoms i).status = .active := by
    rw [Vector.any_eq_true]
    exact ⟨fun ⟨k, hk, active⟩ => ⟨⟨k, hk⟩, by simpa [look] using active⟩, fun ⟨i, active⟩ => ⟨i.1, i.2, by simpa [look] using active⟩⟩
  simp only [mayOpen, reserve, Bool.and_eq_true, denoms, compsWithRole_head, and_assoc]

/-! ## The day opened (R26, R158) -/

/-- The day opened under a number, and its plan at its first entry, in the event of a request that found the part in `s`. -/
def freshDay (n : Nat) (h : Req) (s : State) : State :=
  let gone (b : BagIx) := (bagOf s b).state = .handed ∨ (bagOf s b).state = .free
  { accepted h 0x10 s with
    day := { s.day with state := .opened, number := n, clockLimit := false, planState := .running, pointer := 0 }
    store := { s.store with
      base := Vector.ofFn fun i => officeSum s i, inflow := Counts.zero, outflow := Counts.zero, totals := DayTotals.zero
      bagHold := Vector.ofFn fun b => if gone b then Counts.zero else look s.store.bagHold b }
    courier := { s.courier with
      bags := Vector.ofFn fun b =>
        if gone b then BagRec.free
        else if (bagOf s b).state = .staged then { bagOf s b with state := .closed, window := none } else bagOf s b
      windows := Vector.ofFn fun w => { windowOf s w with state := .planned, staged := [], unstagePending := false } } }

theorem freshDay_session (n : Nat) (h : Req) (s : State) : (freshDay n h s).courier.session = s.courier.session := by
  rw [freshDay]

theorem bagOf_freshDay (n : Nat) (h : Req) (s : State) (b : BagIx) : bagOf (freshDay n h s) b
    = if (bagOf s b).state = .handed ∨ (bagOf s b).state = .free then BagRec.free
      else if (bagOf s b).state = .staged then { bagOf s b with state := .closed, window := none } else bagOf s b := by
  rw [bagOf, freshDay, look_ofFn]

theorem windowOf_freshDay (n : Nat) (h : Req) (s : State) (w : WindowIx) :
    windowOf (freshDay n h s) w = { windowOf s w with state := .planned, staged := [], unstagePending := false } := by
  rw [windowOf, freshDay, look_ofFn]

theorem bagHold_freshDay (n : Nat) (h : Req) (s : State) (b : BagIx) : look (freshDay n h s).store.bagHold b
    = if (bagOf s b).state = .handed ∨ (bagOf s b).state = .free then Counts.zero else look s.store.bagHold b := by
  rw [freshDay, look_ofFn]

/-- OPEN DAY changes the day, the flows and totals with the bags' holdings, and the bags and windows (R26, R158). -/
theorem dayOpened_shape (s : State) : modDay (fun d => { d with planState := .running, pointer := 0 }) (dayOpened s) = { s with
    day := { s.day with state := .opened, number := (s.day.number + 1) % 65536, clockLimit := false, planState := .running
                        pointer := 0 }
    store := { s.store with base := (dayOpened s).store.base, inflow := Counts.zero, outflow := Counts.zero
                            totals := DayTotals.zero, bagHold := (dayOpened s).store.bagHold }
    courier := { s.courier with bags := (dayOpened s).courier.bags, windows := (dayOpened s).courier.windows } } := by
  have shape (u : State) : freeHanded (takeBase u) = { u with
      store := { u.store with base := (freeHanded (takeBase u)).store.base, inflow := Counts.zero, outflow := Counts.zero
                              totals := DayTotals.zero, bagHold := (freeHanded (takeBase u)).store.bagHold }
      courier := { u.courier with bags := (freeHanded (takeBase u)).courier.bags
                                  windows := (freeHanded (takeBase u)).courier.windows } } := rfl
  conv_lhs => rw [dayOpened, shape]
  simp only [modDay, dayOpened]

theorem bagOf_dayOpened (s : State) (b : BagIx) : bagOf (dayOpened s) b
    = if (bagOf s b).state = .handed ∨ (bagOf s b).state = .free then BagRec.free
      else if (bagOf s b).state = .staged then { bagOf s b with state := .closed, window := none } else bagOf s b := by
  refine (bagOf_resetWindows ..).trans ?_
  simp only [bagOf, look_ofFn]
  by_cases gone : (look s.courier.bags b).state = .handed ∨ (look s.courier.bags b).state = .free
  · simp [gone, BagRec.free]
  · simp [gone]
    rfl

theorem windowOf_dayOpened (s : State) (w : WindowIx) :
    windowOf (dayOpened s) w = { windowOf s w with state := .planned, staged := [], unstagePending := false } := by
  rw [dayOpened, freeHanded, windowOf_resetWindows]
  simp only [windowOf, takeBase_courier, modDay_courier]

theorem bagHold_dayOpened (s : State) (b : BagIx) : look (dayOpened s).store.bagHold b
    = if (bagOf s b).state = .handed ∨ (bagOf s b).state = .free then Counts.zero else look s.store.bagHold b := by
  refine (look_ofFn _ b).trans ?_
  simp only [Bool.or_eq_true, beq_iff_eq]
  rfl

/-- The state that OPEN DAY leads to before the catch-up is `freshDay`. -/
theorem freshDay_eq (hp : h.port = .office) :
    modDay (fun d => { d with planState := .running, pointer := 0 }) (dayOpened (accepted h 0x10 s))
      = freshDay ((s.day.number + 1) % 65536) h s := by
  have day : (accepted h 0x10 s).day = s.day := by simp
  have store : (accepted h 0x10 s).store = s.store := by simp
  have courier : (accepted h 0x10 s).courier = s.courier := accepted_courier h 0x10 s (by simp [hp])
  have base : (dayOpened (accepted h 0x10 s)).store.base = Vector.ofFn fun i => officeSum s i :=
    eq_of_look fun i => by
      rw [look_ofFn]
      exact (look_ofFn _ i).trans (officeSum_accepted h 0x10 s i)
  rw [dayOpened_shape, base, day, store, courier]
  generalize (s.day.number + 1) % 65536 = n
  have bagHold : (dayOpened (accepted h 0x10 s)).store.bagHold = (freshDay n h s).store.bagHold :=
    eq_of_look fun b => by rw [bagHold_dayOpened, bagOf_accepted, store, bagHold_freshDay]
  have bags : (dayOpened (accepted h 0x10 s)).courier.bags = (freshDay n h s).courier.bags :=
    eq_of_look fun b => by
      refine (bagOf_dayOpened _ b).trans ?_
      rw [bagOf_accepted]
      exact (bagOf_freshDay n h s b).symm
  have windows : (dayOpened (accepted h 0x10 s)).courier.windows = (freshDay n h s).courier.windows :=
    eq_of_look fun w => by
      refine Eq.trans ?_ (windowOf_freshDay n h s w).symm
      rw [← windowOf_accepted h 0x10 s w]
      exact windowOf_dayOpened _ w
  rw [bagHold, bags, windows]
  rfl

/-- DAY_STATE follows the catch-up, which leaves the day's state and number (R26). -/
theorem raiseDayState_freshDay (n : Nat) (h : Req) (s : State) : raiseDayState (catchUp (freshDay n h s))
    = raise .dayState .day [.u8 1, .u16 n] (catchUp (freshDay n h s)) := by
  rw [raiseDayState, (planRan_catchUp (freshDay n h s)).day]
  rfl

theorem openTheDay_accepted (hp : h.port = .office) : openTheDay (accepted h 0x10 s)
    = raise .dayState .day [.u8 1, .u16 ((s.day.number + 1) % 65536)] (catchUp (freshDay ((s.day.number + 1) % 65536) h s)) := by
  have opened : openTheDay (accepted h 0x10 s)
      = raiseDayState (catchUp (modDay (fun d => { d with planState := .running, pointer := 0 }) (dayOpened (accepted h 0x10 s)))) :=
    rfl
  rw [opened, freshDay_eq hp, raiseDayState_freshDay]

theorem raised_freshDay_number (n : Nat) (h : Req) (s : State) (k : NoticeKind) (x : Subject) (l : List Field) :
    (raise k x l (catchUp (freshDay n h s))).day.number = n := by
  rw [(raise_frame ..).2.1, (planRan_catchUp _).day]
  rfl

theorem openDay_settled (hr : officeReady s h = true) (closed : s.day.state = .closed) (may : mayOpen s = true) :
    exec (.openDay h) s = .next (settled h .ok [.u16 ((s.day.number + 1) % 65536)]
      (raise .dayState .day [.u8 1, .u16 ((s.day.number + 1) % 65536)] (catchUp (freshDay ((s.day.number + 1) % 65536) h s)))) := by
  have unchanged : mayOpen (accepted h 0x10 s) = true := by
    simp only [mayOpen_iff, accepted_frame, compOf_accepted] at may ⊢
    exact may
  have reply : replyOpenDay (accepted h 0x10 s) = Reply.ok [.u16 ((s.day.number + 1) % 65536)]
      (raise .dayState .day [.u8 1, .u16 ((s.day.number + 1) % 65536)] (catchUp (freshDay ((s.day.number + 1) % 65536) h s))) := by
    rw [replyOpenDay, if_pos ⟨by simp [closed], unchanged⟩]
    dsimp only
    rw [openTheDay_accepted (officeReady_iff.mp hr).2, raised_freshDay_number]
  exact congrArg Host.Outcome.next (office_answered hr rfl reply (by simp [catchUp_event, freshDay]))

/-! ## What the request leaves, and the statement -/

theorem settled_rest (h : Req) (c : Code) (l : List Field) (t : State) :
    (settled h c l t).store = t.store ∧ (settled h c l t).day = t.day ∧ (settled h c l t).float = t.float
      ∧ (settled h c l t).count = t.count ∧ (settled h c l t).recon = t.recon ∧ (settled h c l t).safe = t.safe
      ∧ (settled h c l t).courier = t.courier ∧ (settled h c l t).retention = t.retention := by
  simp [settled]

/-- What is left of the opening once its plan has caught up, in a state that differs from it in its ports and its event alone. -/
theorem freshDay_left {n : Nat} {t : State} (store : t.store = (catchUp (freshDay n h s)).store)
    (day : t.day = (catchUp (freshDay n h s)).day) (float : t.float = (catchUp (freshDay n h s)).float)
    (count : t.count = (catchUp (freshDay n h s)).count) (recon : t.recon = (catchUp (freshDay n h s)).recon)
    (safe : t.safe = (catchUp (freshDay n h s)).safe) (courier : t.courier = (catchUp (freshDay n h s)).courier)
    (retention : t.retention = (catchUp (freshDay n h s)).retention) :
    t.day.state = .opened ∧ t.day.number = n ∧ t.day.clock = s.day.clock
      ∧ t.day.clockLimit = false ∧ t.day.plan = s.day.plan ∧ t.store = (freshDay n h s).store
      ∧ (∀ b, bagOf t b = bagOf (freshDay n h s) b)
      ∧ (∀ w, (windowOf t w).staged = [] ∧ (windowOf t w).badge = (windowOf s w).badge
          ∧ (windowOf t w).comp = (windowOf s w).comp)
      ∧ t.courier.session = s.courier.session ∧ t.float = s.float ∧ t.count = s.count ∧ t.recon = s.recon
      ∧ t.safe.comps = s.safe.comps ∧ t.safe.waiters = s.safe.waiters ∧ t.retention = s.retention
      ∧ (s.day.clock < (look s.day.plan 0).time →
          t.day.planState = .running ∧ t.day.pointer = 0 ∧ t.safe = s.safe ∧ ∀ w, (windowOf t w).state = .planned) := by
  have ran := planRan_catchUp (freshDay n h s)
  have still : (freshDay n h s).safe = s.safe := by simp [freshDay]
  obtain ⟨bags, unlisted⟩ := ran.unlisted fun w => by rw [windowOf_freshDay]
  have dayRan := day.trans ran.day
  have safeRan := safe.trans ran.safe
  have courierRan := courier.trans ran.courier
  refine ⟨by rw [dayRan]; rfl, by rw [dayRan]; rfl, by rw [dayRan]; rfl, by rw [dayRan]; rfl, by rw [dayRan]; rfl,
    store.trans ran.store, fun b => ?bag, fun w => ?window, by rw [courierRan, freshDay_session], float.trans (ran.float.trans ?_),
    count.trans (ran.count.trans ?_), recon.trans (ran.recon.trans ?_), by rw [safeRan, still], by rw [safeRan, still],
    retention.trans (ran.retention.trans ?_), fun later => ?early⟩
  case bag => exact congrArg (look · b) ((congrArg CourierUnit.bags courier).trans bags)
  case window =>
    have window : windowOf t w = windowOf (catchUp (freshDay n h s)) w := congrArg (fun u : CourierUnit => look u.windows w) courier
    obtain ⟨badge, comp⟩ := ran.windows w
    rw [windowOf_freshDay] at badge comp
    rw [window]
    exact ⟨unlisted w, badge, comp⟩
  case early =>
    rw [catchUp_nothing_due (s := freshDay n h s) rfl later] at day safe courier
    refine ⟨by rw [day]; rfl, by rw [day]; rfl, safe.trans still, fun w => ?_⟩
    have window : windowOf t w = windowOf (freshDay n h s) w := congrArg (fun u : CourierUnit => look u.windows w) courier
    rw [window, windowOf_freshDay]
  all_goals simp [freshDay]

/-- Settles O24: the state at its opening, which catch-up leaves but for the plan, the range and the windows' states. -/
theorem openDayOpens : Obligations.OpenDayOpens := by
  intro s h hr closed denom reserve takings change
  have answered := openDay_settled hr closed ((mayOpen_iff s).mpr ⟨denom, reserve, takings, change⟩)
  obtain ⟨store, day, float, count, recon, safe, courier, retention⟩ := settled_rest h .ok [.u16 ((s.day.number + 1) % 65536)]
    (raise .dayState .day [.u8 1, .u16 ((s.day.number + 1) % 65536)] (catchUp (freshDay ((s.day.number + 1) % 65536) h s)))
  simp only [raise_frame] at store day float count recon safe courier retention
  exact ⟨answered, _, answered, freshDay_left store day float count recon safe courier retention⟩

end Sys2Proof.Machine
end

section
/-! The seconds timebase and the entries of the Day Plan that fall due (R31, R33, R36, R37, R209). -/

namespace Sys2Proof.Machine

variable {s t : State}

/-! ## The day clock (R31) -/

theorem tickClock_before {d : DayUnit} (h : d.clock < 86399) : tickClock d = d.clock + 1 := if_pos h

theorem tickClock_midnight {d : DayUnit} (last : d.clock = 86399) (closed : d.state = .closed) : tickClock d = 0 := by
  simp [tickClock, Config.lastSecond, last, closed]

theorem tickClock_stays {d : DayUnit} (last : d.clock = 86399) (opened : d.state ≠ .closed) : tickClock d = d.clock := by
  simp [tickClock, Config.lastSecond, last, opened]

theorem limitReached_iff (d : DayUnit) : limitReached d = true ↔ d.state ≠ .closed ∧ 86399 ≤ d.clock ∧ d.clockLimit = false := by
  simp only [limitReached, Bool.and_eq_true, decide_eq_true_eq, Bool.not_eq_true', and_assoc]
  rfl

theorem limitReached_before {d : DayUnit} (h : d.clock < 86399) : limitReached d = false :=
  Bool.eq_false_iff.mpr fun reached => Nat.not_le.mpr h ((limitReached_iff d).mp reached).2.1

theorem limitReached_closed {d : DayUnit} (closed : d.state = .closed) : limitReached d = false :=
  Bool.eq_false_iff.mpr fun reached => ((limitReached_iff d).mp reached).1 closed

theorem limitReached_again {d : DayUnit} (flag : d.clockLimit = true) : limitReached d = false :=
  Bool.eq_false_iff.mpr fun reached => Bool.false_ne_true (((limitReached_iff d).mp reached).2.2.symm.trans flag)

theorem tickDay_unreached (h : limitReached s.day = false) :
    tickDay s = { s with day := { s.day with clock := tickClock s.day } } := by
  simp [tickDay, h, modDay]

theorem tickDay_reached (h : limitReached s.day = true) : tickDay s
    = raise .clockLimit .day [] { s with day := { s.day with clock := tickClock s.day, clockLimit := true } } := by
  simp [tickDay, h, modDay]

theorem tickCut_unreached (h : limitReached s.day = false) :
    tickCut s = { s with day := { s.day with clock := tickClock s.day } } := by
  simp [tickCut, h, modDay]

theorem tickCut_reached (h : limitReached s.day = true) : tickCut s
    = { s with day := { s.day with clock := tickClock s.day, clockLimit := true, limitOwed := true } } := by
  simp [tickCut, h, modDay]

/-! ## A second of the timebase (R31, R209) -/

theorem clockTick_good (good : s.retention.supply = .good) :
    exec .clockTick s = .next (ended (tickDay (tickTimers (tickLimits (begun s))))) := by
  have event : (tickDay (tickTimers (tickLimits (begun s)))).event = Scratch.empty := by
    unfold tickDay
    dsimp only
    split <;> simp [begun]
  have taken : exec .clockTick s = .next (happening (fun s => tickDay (tickTimers (tickLimits s))) s) := by
    refine congrArg Host.Outcome.next ?_
    rw [good]
  rw [taken, happening_plain _ s good event]

theorem clockTick_cut (cut : s.retention.supply = .cut) : exec .clockTick s = .next (tickCut (tickLimits s)) := by
  refine congrArg Host.Outcome.next ?_
  rw [cut]

theorem clockTick_dead (dead : s.retention.supply = .dead) : exec .clockTick s = .next s := by
  refine congrArg Host.Outcome.next ?_
  rw [dead]

theorem planEntryDue_good (good : s.retention.supply = .good) : exec .planEntryDue s = .next (ended (runPlan (begun s))) :=
  congrArg Host.Outcome.next (happening_plain _ s good (planRan_runPlan (begun s)).event)

theorem tickDay_cases (b : State) :
    (b.day.clock < 86399 → tickDay b = { b with day := { b.day with clock := b.day.clock + 1 } })
    ∧ (b.day.clock = 86399 → b.day.state = .closed → tickDay b = { b with day := { b.day with clock := 0 } })
    ∧ (b.day.clock = 86399 → b.day.state ≠ .closed → b.day.clockLimit = false →
      tickDay b = raise .clockLimit .day [] { b with day := { b.day with clockLimit := true } })
    ∧ (b.day.clock = 86399 → b.day.state ≠ .closed → b.day.clockLimit = true → tickDay b = b) := by
  refine ⟨fun before => ?_, fun last closed => ?_, fun last opened clear => ?_, fun last opened set => ?_⟩
  · rw [tickDay_unreached (limitReached_before before), tickClock_before before]
  · rw [tickDay_unreached (limitReached_closed closed), tickClock_midnight last closed]
  · rw [tickDay_reached ((limitReached_iff _).mpr ⟨opened, last.ge, clear⟩), tickClock_stays last opened]
  · rw [tickDay_unreached (limitReached_again set), tickClock_stays last opened]

theorem tickCut_cases (b : State) :
    (b.day.clock < 86399 → tickCut b = { b with day := { b.day with clock := b.day.clock + 1 } })
    ∧ (b.day.clock = 86399 → b.day.state = .closed → tickCut b = { b with day := { b.day with clock := 0 } })
    ∧ (b.day.clock = 86399 → b.day.state ≠ .closed → b.day.clockLimit = false →
      tickCut b = { b with day := { b.day with clockLimit := true, limitOwed := true } })
    ∧ (b.day.clock = 86399 → b.day.state ≠ .closed → b.day.clockLimit = true → tickCut b = b) := by
  refine ⟨fun before => ?_, fun last closed => ?_, fun last opened clear => ?_, fun last opened set => ?_⟩
  · rw [tickCut_unreached (limitReached_before before), tickClock_before before]
  · rw [tickCut_unreached (limitReached_closed closed), tickClock_midnight last closed]
  · rw [tickCut_reached ((limitReached_iff _).mpr ⟨opened, last.ge, clear⟩), tickClock_stays last opened]
  · rw [tickCut_unreached (limitReached_again set), tickClock_stays last opened]

/-- A second while main supply is good, by the clock and the state of the day (R31). -/
theorem clockTick_cases (good : s.retention.supply = .good) :
    let b := tickTimers (tickLimits (begun s))
    (s.day.clock < 86399 → exec .clockTick s = .next (ended { b with day := { s.day with clock := s.day.clock + 1 } }))
    ∧ (s.day.clock = 86399 → s.day.state = .closed →
      exec .clockTick s = .next (ended { b with day := { s.day with clock := 0 } }))
    ∧ (s.day.clock = 86399 → s.day.state ≠ .closed → s.day.clockLimit = false →
      exec .clockTick s = .next (ended (raise .clockLimit .day [] { b with day := { s.day with clockLimit := true } })))
    ∧ (s.day.clock = 86399 → s.day.state ≠ .closed → s.day.clockLimit = true → exec .clockTick s = .next (ended b)) := by
  intro b
  have step : ∀ t, tickDay b = t → exec .clockTick s = .next (ended t) :=
    fun t h => (clockTick_good good).trans (congrArg (fun t => Host.Outcome.next (ended t)) h)
  obtain ⟨before, midnight, limit, stays⟩ := tickDay_cases b
  exact ⟨fun h => step _ (before h), fun h c => step _ (midnight h c), fun h o f => step _ (limit h o f),
    fun h o f => step _ (stays h o f)⟩

/-- A second of a cut, by the clock and the state of the day (R31). -/
theorem clockTick_cut_cases (cut : s.retention.supply = .cut) :
    (s.day.clock < 86399 → exec .clockTick s = .next { tickLimits s with day := { s.day with clock := s.day.clock + 1 } })
    ∧ (s.day.clock = 86399 → s.day.state = .closed →
      exec .clockTick s = .next { tickLimits s with day := { s.day with clock := 0 } })
    ∧ (s.day.clock = 86399 → s.day.state ≠ .closed → s.day.clockLimit = false →
      exec .clockTick s = .next { tickLimits s with day := { s.day with clockLimit := true, limitOwed := true } })
    ∧ (s.day.clock = 86399 → s.day.state ≠ .closed → s.day.clockLimit = true →
      exec .clockTick s = .next { tickLimits s with day := s.day }) := by
  have step : ∀ t, tickCut (tickLimits s) = t → exec .clockTick s = .next t :=
    fun t h => (clockTick_cut cut).trans (congrArg Host.Outcome.next h)
  obtain ⟨before, midnight, limit, stays⟩ := tickCut_cases (tickLimits s)
  exact ⟨fun h => step _ (before h), fun h c => step _ (midnight h c), fun h o f => step _ (limit h o f),
    fun h o f => step _ (stays h o f)⟩

/-! ## The entries that are due (R36) -/

theorem dueIn_sublist (s : State) (l : List PlanIx) : (dueIn s l).Sublist l := by
  induction l with
  | nil => exact List.Sublist.slnil
  | cons i l ih =>
    unfold dueIn
    split
    · exact List.nil_sublist _
    · split
      · exact (List.nil_sublist l).cons_cons i
      · exact ih.cons_cons i

/-- Of a list in ascending order, an entry is due where it and those before it are at or before the clock and none before it is an
END. -/
theorem mem_dueIn {l : List PlanIx} (ordered : l.Pairwise (· < ·)) (i : PlanIx) : i ∈ dueIn s l ↔
    i ∈ l ∧ (∀ j ∈ l, j ≤ i → (planAt s j).time ≤ s.day.clock) ∧ ∀ j ∈ l, j < i → (planAt s j).action ≠ .stop := by
  induction l with
  | nil => simp [dueIn]
  | cons a l ih =>
    obtain ⟨first, rest⟩ := List.pairwise_cons.mp ordered
    unfold dueIn
    by_cases later : s.day.clock < (planAt s a).time
    · rw [if_pos later]
      refine iff_of_false List.not_mem_nil fun ⟨mem, times, _⟩ => ?_
      have before : a ≤ i := (List.mem_cons.mp mem).elim (fun same => same.ge) fun inside => (first i inside).le
      exact Nat.not_le.mpr later (times a List.mem_cons_self before)
    · rw [if_neg later]
      by_cases last : (planAt s a).action = .stop
      · rw [if_pos (beq_iff_eq.mpr last), List.mem_singleton]
        refine ⟨fun same => ?_, fun ⟨mem, _, live⟩ => ?_⟩
        · subst same
          refine ⟨List.mem_cons_self, fun j hj le => ?_, fun j hj lt => ?_⟩
          · obtain rfl | inside := List.mem_cons.mp hj
            · exact Nat.not_lt.mp later
            · exact absurd (first j inside) le.not_gt
          · obtain rfl | inside := List.mem_cons.mp hj
            · exact absurd lt (lt_irrefl _)
            · exact absurd (first j inside) lt.asymm
        · exact (List.mem_cons.mp mem).elim id fun inside => absurd last (live a List.mem_cons_self (first i inside))
      · rw [if_neg (by simp [last]), List.mem_cons, ih rest, List.forall_mem_cons, List.forall_mem_cons]
        refine ⟨fun h => ?_, fun ⟨mem, ⟨_, times⟩, ⟨_, live⟩⟩ =>
          Or.imp_right (fun inside => ⟨inside, times, live⟩) (List.mem_cons.mp mem)⟩
        obtain rfl | ⟨inside, times, live⟩ := h
        · exact ⟨List.mem_cons_self, ⟨fun _ => Nat.not_lt.mp later, fun j hj le => absurd (first j hj) le.not_gt⟩,
            fun _ => last, fun j hj lt => absurd (first j hj) lt.asymm⟩
        · exact ⟨List.mem_cons_of_mem a inside, ⟨fun _ => Nat.not_lt.mp later, times⟩, fun _ => last, live⟩

theorem mem_drop_finRange (p : Nat) (i : PlanIx) : i ∈ (List.finRange 64).drop p ↔ p ≤ i.1 := by
  simp only [List.mem_drop_iff_getElem, List.getElem_finRange, List.length_finRange]
  constructor
  · rintro ⟨k, inside, rfl⟩
    exact Nat.le_add_right ..
  · intro le
    exact ⟨i.1 - p, by omega, Fin.ext (by simp; omega)⟩

theorem dueIn_begun (s : State) (l : List PlanIx) : dueIn (begun s) l = dueIn s l := by
  induction l with
  | nil => rfl
  | cons i l ih =>
    unfold dueIn
    rw [ih]
    rfl

theorem dueSet_begun (s : State) : dueSet (begun s) = dueSet s := dueIn_begun s _

theorem dueSet_ordered (s : State) : (dueSet s).Pairwise (· < ·) :=
  ((List.pairwise_lt_finRange 64).sublist (List.drop_sublist _ _)).sublist (dueIn_sublist s _)

theorem mem_dueSet (s : State) (i : PlanIx) : i ∈ dueSet s ↔ s.day.pointer ≤ i.1
    ∧ (∀ j : PlanIx, s.day.pointer ≤ j.1 → j ≤ i → (look s.day.plan j).time ≤ s.day.clock)
    ∧ ∀ j : PlanIx, s.day.pointer ≤ j.1 → j < i → (look s.day.plan j).action ≠ .stop := by
  rw [dueSet, mem_dueIn ((List.pairwise_lt_finRange 64).sublist (List.drop_sublist _ _))]
  simp only [mem_drop_finRange]
  rfl

/-! ## What each action does (R37, R155, R156) -/

theorem openWindowAt_eq (w : WindowIx) (s : State) : openWindowAt w s
    = if s.day.state = .closed then .error .dayNotOpen
      else if (windowOf s w).badge = none ∨ (windowOf s w).comp = none then .error .badState
      else if (windowOf s w).state = .opened then .ok s
      else .ok (modWindow w (fun r => { r with state := .opened, unstagePending := false })
        (raise .windowOpen (.window w) (windowContent s w) s)) := by
  simp only [openWindowAt, Bool.or_eq_true, Option.isNone_iff_eq_none]
  cases (windowOf s w).state <;> rfl

theorem closeWindowAt_eq (w : WindowIx) (s : State) : closeWindowAt w s
    = if (windowOf s w).state = .planned ∨ (windowOf s w).state = .opened then
        unstageOrWait w (modWindow w (fun r => { r with state := .closed }) (raise .windowClosed (.window w) (windowContent s w) s))
      else s := by
  unfold closeWindowAt
  cases (windowOf s w).state <;> rfl

section Actions

variable {i : PlanIx}

theorem executeEntry_done (h : planAction (look s.day.plan i).action (passEntry i s) = .ok t) : executeEntry i s = t := by
  rw [executeEntry, planAt, h]

theorem executeEntry_refused {c : Code} (h : planAction (look s.day.plan i).action (passEntry i s) = .error c) :
    executeEntry i s = raise .planEntryRefused (.planEntry i) [.u8 (outcomeCode c)] (passEntry i s) := by
  rw [executeEntry, planAt, h]

theorem executeEntry_windowOpen {w : WindowIx} (ha : (look s.day.plan i).action = .windowOpen w) : executeEntry i s
    = if s.day.state = .closed then raise .planEntryRefused (.planEntry i) [.u8 (outcomeCode .dayNotOpen)] (passEntry i s)
      else if (windowOf s w).badge = none ∨ (windowOf s w).comp = none then
        raise .planEntryRefused (.planEntry i) [.u8 (outcomeCode .badState)] (passEntry i s)
      else if (windowOf s w).state = .opened then passEntry i s
      else modWindow w (fun r => { r with state := .opened, unstagePending := false })
        (raise .windowOpen (.window w) (windowContent s w) (passEntry i s)) := by
  have action : planAction (look s.day.plan i).action (passEntry i s) = openWindowAt w (passEntry i s) := by rw [ha]; rfl
  rw [openWindowAt_eq] at action
  split
  · next closed => exact executeEntry_refused (action.trans (if_pos closed))
  · next opened =>
    have action := action.trans (if_neg opened)
    split
    · next bare => exact executeEntry_refused (action.trans (if_pos bare))
    · next assigned =>
      have action := action.trans (if_neg assigned)
      split
      · next already => exact executeEntry_done (action.trans (if_pos already))
      · next other => exact executeEntry_done (action.trans (if_neg other))

theorem executeEntry_windowClose {w : WindowIx} (ha : (look s.day.plan i).action = .windowClose w) : executeEntry i s
    = if (windowOf s w).state = .planned ∨ (windowOf s w).state = .opened then
        let closed := modWindow w (fun r => { r with state := .closed })
          (raise .windowClosed (.window w) (windowContent s w) (passEntry i s))
        if sessionAt s w = true then modWindow w (fun r => { r with unstagePending := true }) closed else unstage w closed
      else passEntry i s := by
  have action : planAction (look s.day.plan i).action (passEntry i s) = .ok (closeWindowAt w (passEntry i s)) := by rw [ha]; rfl
  rw [executeEntry_done action, closeWindowAt_eq, unstageOrWait_eq, sessionAt_windowEnds]
  rfl

theorem executeEntry_openRange {low : CompIx} {high : Nat} (ha : (look s.day.plan i).action = .openRange low high) :
    executeEntry i s = if s.safe.frozen = true then raise .planEntryRefused (.planEntry i) [.u8 (outcomeCode .frozen)] (passEntry i s)
      else { passEntry i s with safe := { s.safe with range := { low := low.1, high := min high 15 } } } := by
  have action : planAction (look s.day.plan i).action (passEntry i s) = openRangeTo low.1 high (passEntry i s) := by rw [ha]; rfl
  split
  · next frozen => exact executeEntry_refused (action.trans (if_pos frozen))
  · next thawed => exact executeEntry_done (action.trans (if_neg thawed))

theorem executeEntry_lockAll (ha : (look s.day.plan i).action = .lockAll) :
    executeEntry i s = if s.safe.frozen = true then raise .planEntryRefused (.planEntry i) [.u8 (outcomeCode .frozen)] (passEntry i s)
      else { passEntry i s with safe := { s.safe with range := SafeRange.empty } } := by
  have action : planAction (look s.day.plan i).action (passEntry i s) = lockAllNow (passEntry i s) := by rw [ha]; rfl
  split
  · next frozen => exact executeEntry_refused (action.trans (if_pos frozen))
  · next thawed => exact executeEntry_done (action.trans (if_neg thawed))

end Actions

/-! ## The timers (R31) -/

theorem compOf_tickTimers (s : State) (c : CompIx) : compOf (tickTimers s) c = tickComp (compOf s c) := look_map ..

/-- Settles O51: a second by the supply and the clock, the entries due, each action, and the timers. -/
theorem secondsAndPlan : Obligations.SecondsAndPlan := by
  refine ⟨fun s good => ?second, fun s => clockTick_cut_cases, fun s => clockTick_dead, fun s => ⟨dueSet_ordered s, mem_dueSet s⟩,
    fun s i => ?entry, fun s => rfl, fun s => ?timers⟩
  case second =>
    obtain ⟨before, midnight, limit, stays⟩ := clockTick_cases good
    refine ⟨before, midnight, limit, stays, fun opened running => ?_, fun h => ?_⟩
    · rw [planEntryDue_good good, runPlan_runs (s := begun s) opened running, dueSet_begun]
    · rw [planEntryDue_good good, runPlan_rests (s := begun s) h]
  case entry =>
    dsimp only
    cases ha : (look s.day.plan i).action with
    | windowOpen w => rw [executeEntry_windowOpen ha, passEntry_eq, ha]; rfl
    | windowClose w => rw [executeEntry_windowClose ha, passEntry_eq, ha]; rfl
    | openRange low high => rw [executeEntry_openRange ha, passEntry_eq, ha]
    | lockAll => rw [executeEntry_lockAll ha, passEntry_eq, ha]
    | freeze => rw [executeEntry_done (by rw [ha]; rfl), freezeNow, passEntry_eq, ha]
    | pickupRound => rw [executeEntry_done (by rw [ha]; rfl), passEntry_eq, ha]
    | stop => rw [executeEntry_done (by rw [ha]; rfl), passEntry_eq, ha]
  case timers =>
    refine ⟨by simp [tickTimers], by simp [tickTimers], by simp [tickTimers], fun x hx => by simp [tickTimers, hx], fun r hr => ?_,
      fun none => by simp [tickTimers, none], fun c => ?_, fun c unheld => ?_, rfl, rfl, rfl, rfl⟩
    · refine ⟨{ r with step := r.step.map fun x => { x with elapsed := x.elapsed + 1 } }, by simp [tickTimers, hr], rfl, ?_, ?_⟩
      · intro none
        simp [none]
      · intro x hx
        simp [hx]
    · rw [compOf_tickTimers, tickComp]
    · rw [compOf_tickTimers, tickComp, unheld]
      rfl

end Sys2Proof.Machine
end

section
/-! Loss of supply, power return and cold start (R208 to R212). -/

namespace Sys2Proof.Machine

variable {s t : State}

/-! ## The supply lost, and the cold start (R209, R212) -/

theorem mainSupplyLoss_good (good : s.retention.supply = .good) (backup : Bool) :
    exec (.mainSupplyLoss backup) s = .next (setSupply (if backup then .cut else .dead) s) :=
  congrArg Host.Outcome.next (if_pos good)

theorem backupSupplyLoss_cut (cut : s.retention.supply = .cut) : exec .backupSupplyLoss s = .next (setSupply .dead s) :=
  congrArg Host.Outcome.next (if_pos cut)

section Return

variable (doors : List CompIx) (spacing : List Port) (drift : BitVec 32)

theorem powerReturn_dead (dead : s.retention.supply = .dead) :
    exec (.powerReturn doors spacing drift) s = .next { State.cold doors spacing with pending := s.pending } := by
  refine congrArg Host.Outcome.next ?_
  rw [dead]
  rfl

theorem powerReturn_cut (cut : s.retention.supply = .cut) :
    exec (.powerReturn doors spacing drift) s = .next (warmStart doors spacing drift s) := by
  refine congrArg Host.Outcome.next ?_
  rw [cut]

/-! ## Power return unit by unit (R54, R96, R119, R132, R142, R200) -/

/-- Every port controller at its cold state, the routing kept. -/
def replugged (s : State) : State := { s with ports := { s.ports with
  office := PortRec.cold (spacing.contains .office), till := PortRec.cold (spacing.contains .till)
  courier := PortRec.cold (spacing.contains .courier) } }

theorem portOf_replugged (s : State) (p : Port) : portOf (replugged spacing s) p = PortRec.cold (spacing.contains p) := by
  cases p <;> rfl

/-- A count that was running ended without a result, as R89 says. -/
def lapsed (s : State) : State :=
  match s.count.running with
  | some r => abandoned r s
  | none => s

theorem lapsed_running {r : RunningCount} (h : s.count.running = some r) : lapsed s = abandoned r s := by rw [lapsed, h]

theorem lapsed_idle (h : s.count.running = none) : lapsed s = s := by rw [lapsed, h]

theorem returnCount_eq (s : State) : returnCount s = { s with
    store := (lapsed s).store
    count := { (lapsed s).count with
      waiters := [], selectWaiting := false, exchange := if s.count.running.isSome then some .abandon else none }
    event := (lapsed s).event } := by
  have none_kept (l : List CountWaiter) : (l.filter fun w => !(fun _ => true) w) = [] := by simp
  cases running : s.count.running with
  | none =>
    have idle : abandonCount (modCount (fun u => { u with exchange := none, selectWaiting := false }) s)
        = modCount (fun u => { u with exchange := none, selectWaiting := false }) s := by
      rw [abandonCount, show (modCount (fun u => { u with exchange := none, selectWaiting := false }) s).count.running = none
        from running]
    rw [returnCount, discardCounts, none_kept, idle, lapsed_idle running]
    rfl
  | some r =>
    rw [returnCount, discardCounts, none_kept,
      abandonCount_eq (s := modCount (fun u => { u with exchange := none, selectWaiting := false }) s) running, lapsed_running running]
    rfl

theorem returnComp_contains (c : CompIx) (r : CompRec) : returnComp (doors.contains c) r = { r with
    latch := .engaged, latchTimer := none, hold := false, heldRaised := false
    door := if c ∈ doors then .opened else .closed, heldTimer := if c ∈ doors then some 0 else none
    alarm := if c ∉ doors ∧ r.alarm = .held then .none else r.alarm } := by
  by_cases opened : c ∈ doors <;> simp [returnComp, opened]

/-- The state after every unit's change of a power return but the end of the session. -/
def unitsReset (s : State) : State := { s with
  retention := { s.retention with supply := .good, drift := s.retention.drift + drift }
  store := (lapsed s).store
  count := { (lapsed s).count with
    waiters := [], selectWaiting := false, exchange := if s.count.running.isSome then some .abandon else none }
  float := { s.float with waiters := [], retryDue := 0 }
  recon := { s.recon with attemptDue := Vector.replicate 2 false, reported := Vector.replicate 2 false }
  safe := { s.safe with waiters := [], comps := Vector.ofFn fun c => returnComp (doors.contains c) (compOf s c) }
  ports := (raise .powerReturn .part [.u8 0] (replugged spacing s)).ports
  event := { signals := if s.count.running.isSome then [.countPass] else [], reported := s.count.running.isSome } }

/-- Main supply back and the port controllers reset, POWER_RETURN in their queues (R200, R210). -/
def resupplied (s : State) : State := { s with
  retention := { s.retention with supply := .good, drift := s.retention.drift + drift }
  ports := (raise .powerReturn .part [.u8 0] (replugged spacing s)).ports
  event := Scratch.empty }

theorem resetPorts_eq (s : State) : resetPorts spacing { s with
      retention := { s.retention with supply := .good, drift := s.retention.drift + drift }, event := Scratch.empty }
    = resupplied spacing drift s := by
  let restored : State := { s with
    retention := { s.retention with supply := .good, drift := s.retention.drift + drift }, event := Scratch.empty }
  have ports : (raise .powerReturn .part [.u8 0] (replugged spacing restored)).ports
      = (raise .powerReturn .part [.u8 0] (replugged spacing s)).ports :=
    raise_ports_congr (t := replugged spacing restored) (s := replugged spacing s) rfl rfl _ _ _
  rw [resupplied, ← ports]
  exact raise_eq ..

theorem unitsReset_of_steps (s : State) :
    returnSafe doors (returnRecon (returnFloat (returnCount (resupplied spacing drift s)))) = unitsReset doors spacing drift s := by
  rw [returnCount_eq]
  cases running : s.count.running with
  | none =>
    rw [lapsed_idle (s := resupplied spacing drift s) running, unitsReset, lapsed_idle running, running]
    rw [show (resupplied spacing drift s).count.running = none from running]
    rfl
  | some r =>
    rw [lapsed_running (s := resupplied spacing drift s) running, unitsReset, lapsed_running running, running]
    rw [show (resupplied spacing drift s).count.running = some r from running]
    rfl

end Return

/-! ## A session ended by the power return (R173, R174) -/

section Session

variable (x : Session)

theorem windowOf_parted (s : State) (w : WindowIx) : windowOf (parted x s) w = windowOf s w := by simp [parted, windowOf, signal]

theorem bagOf_parted (s : State) (b : BagIx) : bagOf (parted x s) b = bagOf s b := by simp [parted, bagOf, signal]

theorem endSession_recon (s : State) : (endSession x s).recon = { s.recon with
    reported := reportedMarks (fun _ => true) (liftLatch x.comp s) } := by
  have marks : (parted x s).recon = { s.recon with reported := reportedMarks (fun _ => true) (liftLatch x.comp s) } := by
    rw [parted, parkingEnded_eq]
    rfl
  rw [endSession_eq, ← marks]
  split <;> simp [report]

theorem endSession_safe (s : State) : (endSession x s).safe = (liftLatch x.comp s).safe := by
  have safe : (parted x s).safe = (liftLatch x.comp s).safe := by
    rw [parted, parkingEnded_eq]
    rfl
  rw [endSession_eq, ← safe]
  split <;> simp [report]

theorem windowOf_unstage (w v : WindowIx) (s : State) : windowOf (unstage w s) v
    = if v = w then { windowOf s v with staged := [], unstagePending := false } else windowOf s v := by
  rw [unstage, windowOf_modWindow, fold_modBag_eq]
  rfl

theorem bagOf_unstage (w : WindowIx) (b : BagIx) (s : State) :
    bagOf (unstage w s) b = if b ∈ (windowOf s w).staged then unstaged (bagOf s b) else bagOf s b :=
  bagOf_fold_modBag (f := unstaged) (fun _ => rfl) ..

theorem windowOf_endSession (s : State) (w : WindowIx) : windowOf (endSession x s) w
    = if w = x.window ∧ (windowOf s x.window).unstagePending = true then { windowOf s w with staged := [], unstagePending := false }
      else windowOf s w := by
  have reported (t : State) : windowOf (report t) w = windowOf t w := rfl
  rw [endSession_eq, reported, windowOf_parted]
  by_cases pending : (windowOf s x.window).unstagePending = true
  · rw [if_pos pending, windowOf_unstage, windowOf_parted]
    simp only [pending, and_true]
  · rw [if_neg pending, if_neg fun both => pending both.2, windowOf_parted]

theorem bagOf_endSession (s : State) (b : BagIx) : bagOf (endSession x s) b
    = if (windowOf s x.window).unstagePending = true ∧ b ∈ (windowOf s x.window).staged then unstaged (bagOf s b)
      else bagOf s b := by
  have reported (t : State) : bagOf (report t) b = bagOf t b := rfl
  rw [endSession_eq, reported, windowOf_parted]
  by_cases pending : (windowOf s x.window).unstagePending = true
  · rw [if_pos pending, bagOf_unstage, windowOf_parted, bagOf_parted]
    simp only [pending, true_and]
  · rw [if_neg pending, if_neg fun both => pending both.1, bagOf_parted]

theorem endSession_courier (s : State) : (endSession x s).courier = { s.courier with
    session := none, bags := (endSession x s).courier.bags, windows := (endSession x s).courier.windows } := by
  rw [endSession_eq]
  split
  · rw [unstage, fold_modBag_eq]
    simp [report, parted, signal, modWindow, liftLatch, modComp]
  · simp [report, parted, signal, liftLatch, modComp]

/-- The bags received in a session free again, as they are at its abort. -/
def inboundFreed (s : State) : State := x.inbound.foldl (fun acc b => modBag b (fun _ => BagRec.free) acc) s

theorem inboundFreed_eq (s : State) :
    inboundFreed x s = { s with courier := { s.courier with bags := (inboundFreed x s).courier.bags } } :=
  fold_modBag_eq ..

theorem bagOf_inboundFreed (s : State) (b : BagIx) :
    bagOf (inboundFreed x s) b = if b ∈ x.inbound then BagRec.free else bagOf s b :=
  bagOf_fold_modBag (f := fun _ => BagRec.free) (fun _ => rfl) ..

theorem abortSession_eq (s : State) : abortSession .powerReturn x s
    = raise .handoverAborted (.window x.window) [.u8 4, .u8 (windowOf s x.window).staged.length, .u8 x.inbound.length]
        (endSession x (inboundFreed x s)) := rfl

/-- A latch lifted over a compartment already at rest changes nothing. -/
theorem liftLatch_resting {c : CompIx} (hold : (compOf s c).hold = false) (latch : (compOf s c).latch = .engaged)
    (open_ : (compOf s c).door = .opened → (compOf s c).heldTimer = some 0 ∧ (compOf s c).heldRaised = false) :
    liftLatch c s = s := by
  have same : ∀ d, compOf (liftLatch c s) d = compOf s d := fun d => by
    by_cases here : d = c
    · subst here
      cases door : (compOf s d).door with
      | closed => rw [compOf_liftLatch_closed door, ← hold, ← latch]
      | opened =>
        obtain ⟨timer, raised⟩ := open_ door
        calc compOf (liftLatch d s) d
          _ = { compOf s d with hold := (compOf s d).hold, heldTimer := (compOf s d).heldTimer
                                heldRaised := (compOf s d).heldRaised } := by
            rw [compOf_liftLatch_opened door, hold, timer, raised]
          _ = compOf s d := rfl
    · exact compOf_liftLatch_of_ne here s
  have comps : (liftLatch c s).safe.comps = s.safe.comps := eq_of_look same
  calc liftLatch c s = { s with safe := { s.safe with comps := (liftLatch c s).safe.comps } } := rfl
    _ = s := by rw [comps]

end Session

end Sys2Proof.Machine
end

section
/-! Loss of supply, power return and cold start, continued: the units' changes together, and what follows them. -/

namespace Sys2Proof.Machine

variable {s t u : State}

theorem endSession_float (x : Session) (s : State) :
    (endSession x s).float = { s.float with retryDue := (endSession x s).float.retryDue } := by
  have marks : (parted x s).float = { s.float with retryDue := (parted x s).float.retryDue } := by
    rw [parted, parkingEnded_eq]
    rfl
  rw [endSession_eq]
  split <;> simpa [report] using marks

section Return

variable (doors : List CompIx) (spacing : List Port) (drift : BitVec 32)

/-! ## What every unit's change leaves -/

/-- The state once the units have made their changes, before the check word is compared (R210). -/
def restored (s : State) : State :=
  let a := abortAny .powerReturn (unitsReset doors spacing drift s)
  { returnFloat a with event := { a.event with signals := [] } }

theorem warmStart_eq (s : State) :
    warmStart doors spacing drift s = finish (returnDay (reportedCheck (compareWords (restored doors spacing drift s)))) := by
  rw [restored, ← unitsReset_of_steps, ← resetPorts_eq]
  rfl

theorem abortAny_alone (none : s.courier.session = none) :
    abortAny .powerReturn (unitsReset doors spacing drift s) = unitsReset doors spacing drift s := by
  rw [abortAny, show (unitsReset doors spacing drift s).courier.session = .none from none]

theorem abortAny_session {x : Session} (hx : s.courier.session = some x) :
    abortAny .powerReturn (unitsReset doors spacing drift s)
      = raise .handoverAborted (.window x.window) [.u8 4, .u8 (windowOf s x.window).staged.length, .u8 x.inbound.length]
          (endSession x (inboundFreed x (unitsReset doors spacing drift s))) := by
  rw [abortAny, show (unitsReset doors spacing drift s).courier.session = some x from hx]
  exact abortSession_eq ..

theorem liftLatch_restored (x : Session) (s : State) :
    liftLatch x.comp (inboundFreed x (unitsReset doors spacing drift s)) = inboundFreed x (unitsReset doors spacing drift s) := by
  have comp : compOf (inboundFreed x (unitsReset doors spacing drift s)) x.comp
      = returnComp (doors.contains x.comp) (compOf s x.comp) := by
    rw [inboundFreed_eq]
    exact look_ofFn ..
  refine liftLatch_resting ?_ ?_ ?_ <;> rw [comp]
  · rfl
  · rfl
  · intro opened
    refine ⟨?_, rfl⟩
    cases inside : doors.contains x.comp with
    | true => rfl
    | false => rw [inside] at opened; exact absurd opened (by simp [returnComp])

theorem restored_retention (s : State) : (restored doors spacing drift s).retention
    = { s.retention with supply := .good, drift := s.retention.drift + drift } := by
  simp only [restored, returnFloat, abortAny_frame]
  rfl

theorem restored_day (s : State) : (restored doors spacing drift s).day = s.day := by
  simp only [restored, returnFloat, abortAny_frame]
  rfl

theorem restored_stamp (s : State) : (restored doors spacing drift s).stamp = s.stamp := by
  simp only [restored, returnFloat, abortAny_frame]
  rfl

theorem restored_pending (s : State) : (restored doors spacing drift s).pending = s.pending := by
  simp only [restored, returnFloat, abortAny_frame]
  rfl

theorem restored_store (s : State) : (restored doors spacing drift s).store = (lapsed s).store := by
  simp only [restored, returnFloat, abortAny_frame]
  rfl

theorem restored_count (s : State) : (restored doors spacing drift s).count = { (lapsed s).count with
    waiters := [], selectWaiting := false, exchange := if s.count.running.isSome then some .abandon else none } := by
  simp only [restored, returnFloat, abortAny_frame]
  rfl

theorem restored_event (s : State) : (restored doors spacing drift s).event
    = { signals := [], reported := s.count.running.isSome || s.courier.session.isSome } := by
  cases session : s.courier.session with
  | none =>
    rw [restored, abortAny_alone doors spacing drift session, Option.isSome_none, Bool.or_false]
    rfl
  | some x => simp [restored, abortAny_session doors spacing drift session, endSession_event]

theorem restored_float (s : State) : (restored doors spacing drift s).float = { s.float with waiters := [], retryDue := 0 } := by
  cases session : s.courier.session with
  | none =>
    rw [restored, abortAny_alone doors spacing drift session]
    rfl
  | some x =>
    simp only [restored, returnFloat, abortAny_session doors spacing drift session, raise_frame]
    rw [endSession_float, inboundFreed_eq]
    rfl

theorem restored_safe (s : State) : (restored doors spacing drift s).safe = { s.safe with
    waiters := [], comps := Vector.ofFn fun c => returnComp (doors.contains c) (compOf s c) } := by
  cases session : s.courier.session with
  | none =>
    rw [restored, abortAny_alone doors spacing drift session]
    rfl
  | some x =>
    simp only [restored, returnFloat, abortAny_session doors spacing drift session, raise_frame]
    rw [endSession_safe, liftLatch_restored, inboundFreed_eq]
    rfl

/-! ## Auto-posts reported at the end of the session (R119, R130) -/

theorem restored_recon_session {x : Session} (session : s.courier.session = some x) : (restored doors spacing drift s).recon
    = { s.recon with attemptDue := Vector.replicate 2 false
                     reported := reportedMarks (fun _ => true) (inboundFreed x (unitsReset doors spacing drift s)) } := by
  simp only [restored, returnFloat, abortAny_session doors spacing drift session, raise_frame]
  rw [endSession_recon, liftLatch_restored, inboundFreed_eq]
  rfl

theorem restored_recon_alone (none : s.courier.session = none) : (restored doors spacing drift s).recon
    = { s.recon with attemptDue := Vector.replicate 2 false, reported := Vector.replicate 2 false } := by
  rw [restored, abortAny_alone doors spacing drift none]
  rfl

theorem restored_recon (s : State) : (restored doors spacing drift s).recon = { s.recon with
    attemptDue := Vector.replicate 2 false, reported := (restored doors spacing drift s).recon.reported } := by
  cases session : s.courier.session with
  | none => rw [restored_recon_alone doors spacing drift session]
  | some x => rw [restored_recon_session doors spacing drift session]

theorem lapsed_source (s : State) (y : TrayIx) : (trayOf (lapsed s) y).source = (trayOf s y).source := by
  cases running : s.count.running with
  | none => rw [lapsed_idle running]
  | some r =>
    rw [lapsed_running running]
    simp only [abandoned, trayOf, look_put]
    split
    · next here => rw [here]
    · rfl

/-- Where a tray goes first depends on the trays' sources and the roles alone. -/
theorem destinationOf_congr (y : TrayIx) (source : (trayOf t y).source = (trayOf s y).source)
    (roles : ∀ c, (compOf t c).role = (compOf s c).role) : destinationOf t y = destinationOf s y := by
  have sorted : compsWithRole t = compsWithRole s := funext fun r => by simp only [compsWithRole, roles]
  have first : firstDestination t = firstDestination s := funext fun src => by cases src <;> simp only [firstDestination, sorted]
  rw [destinationOf, destinationOf, source, first]

theorem restored_reported (s : State) (y : TrayIx) : look (restored doors spacing drift s).recon.reported y = true ↔
    s.courier.session ≠ none ∧ look s.recon.pending y = true
      ∧ (trayOf (restored doors spacing drift s) y).state = .counted ∧ destinationOf s y ≠ none := by
  cases session : s.courier.session with
  | none => simp [restored_recon_alone doors spacing drift session]
  | some x =>
    have tray : trayOf (restored doors spacing drift s) y = trayOf (unitsReset doors spacing drift s) y :=
      congrArg (fun c : CountUnit => look c.trays y) (restored_count doors spacing drift s)
    have dest : destinationOf (inboundFreed x (unitsReset doors spacing drift s)) y = destinationOf s y := by
      rw [inboundFreed_eq]
      refine destinationOf_congr y (lapsed_source s y) fun c => ?_
      have comp : compOf (unitsReset doors spacing drift s) c = returnComp (doors.contains c) (compOf s c) := look_ofFn ..
      exact (congrArg CompRec.role comp).trans rfl
    rw [restored_recon_session doors spacing drift session, look_reportedMarks, reportedFor, dest, tray, inboundFreed_eq]
    simp [unitsReset, Option.ne_none_iff_exists', trayOf]

/-! ## Bags, windows and ports (R173, R174, R200) -/

theorem restored_courier_alone (none : s.courier.session = none) : (restored doors spacing drift s).courier = s.courier := by
  rw [restored, abortAny_alone doors spacing drift none]
  rfl

section Ended

variable {x : Session} (session : s.courier.session = some x)
include session

theorem restored_courier : (restored doors spacing drift s).courier = { s.courier with
    session := none, bags := (restored doors spacing drift s).courier.bags
    windows := (restored doors spacing drift s).courier.windows } := by
  have courier : (restored doors spacing drift s).courier
      = (endSession x (inboundFreed x (unitsReset doors spacing drift s))).courier := by
    simp only [restored, returnFloat, abortAny_session doors spacing drift session, raise_frame]
  rw [courier]
  refine (endSession_courier ..).trans ?_
  generalize (endSession x (inboundFreed x (unitsReset doors spacing drift s))).courier = c
  rw [inboundFreed_eq]
  rfl

theorem windowOf_restored (w : WindowIx) : windowOf (restored doors spacing drift s) w
    = if w = x.window ∧ (windowOf s x.window).unstagePending = true then { windowOf s w with staged := [], unstagePending := false }
      else windowOf s w := by
  have window (v : WindowIx) : windowOf (inboundFreed x (unitsReset doors spacing drift s)) v = windowOf s v := by
    rw [inboundFreed_eq]
    rfl
  have same : windowOf (restored doors spacing drift s) w
      = windowOf (endSession x (inboundFreed x (unitsReset doors spacing drift s))) w := by
    simp only [windowOf, restored, returnFloat, abortAny_session doors spacing drift session, raise_frame]
  rw [same, windowOf_endSession, window, window]

theorem bagOf_restored (b : BagIx) : bagOf (restored doors spacing drift s) b =
    let kept := if b ∈ x.inbound then BagRec.free else bagOf s b
    if (windowOf s x.window).unstagePending = true ∧ b ∈ (windowOf s x.window).staged then unstaged kept else kept := by
  have window (v : WindowIx) : windowOf (inboundFreed x (unitsReset doors spacing drift s)) v = windowOf s v := by
    rw [inboundFreed_eq]
    rfl
  have same : bagOf (restored doors spacing drift s) b
      = bagOf (endSession x (inboundFreed x (unitsReset doors spacing drift s))) b := by
    simp only [bagOf, restored, returnFloat, abortAny_session doors spacing drift session, raise_frame]
  rw [same, bagOf_endSession, window, bagOf_inboundFreed]
  rfl

theorem restored_ports_session : (restored doors spacing drift s).ports
    = (raise .handoverAborted (.window x.window) [.u8 4, .u8 (windowOf s x.window).staged.length, .u8 x.inbound.length]
        (raise .powerReturn .part [.u8 0] (replugged spacing s))).ports := by
  let ended := endSession x (inboundFreed x (unitsReset doors spacing drift s))
  have ports : ended.ports = (raise .powerReturn .part [.u8 0] (replugged spacing s)).ports := by
    simp only [ended, endSession_frame]
    rw [inboundFreed_eq]
    rfl
  have day : ended.day = (raise .powerReturn .part [.u8 0] (replugged spacing s)).day := by
    simp only [ended, endSession_frame, raise_frame]
    rw [inboundFreed_eq]
    rfl
  simp only [restored, returnFloat, abortAny_session doors spacing drift session]
  exact raise_ports_congr (t := ended) ports day _ _ _

end Ended

theorem restored_ports_alone (none : s.courier.session = none) :
    (restored doors spacing drift s).ports = (raise .powerReturn .part [.u8 0] (replugged spacing s)).ports := by
  rw [restored, abortAny_alone doors spacing drift none]
  rfl

end Return

end Sys2Proof.Machine
end

section
/-! Loss of supply, power return and cold start, concluded: the check word, the day's part, and the statement. -/

namespace Sys2Proof.Machine

variable {s t u : State}

/-! ## The rest of a power return (R28, R38, R40, R210) -/

/-- What the check, catch-up and the notices that follow the units' changes leave of a state. -/
structure UnitsStand (s t : State) : Prop where
  store : t.store = s.store
  float : t.float = s.float
  count : t.count = s.count
  retention : t.retention = s.retention
  event : t.event = s.event
  comps : t.safe.comps = s.safe.comps
  safeWaiters : t.safe.waiters = s.safe.waiters
  session : t.courier.session = s.courier.session
  ports : NoticesAlone s t

theorem UnitsStand.refl (s : State) : UnitsStand s s := ⟨rfl, rfl, rfl, rfl, rfl, rfl, rfl, rfl, .of_eq rfl⟩

theorem UnitsStand.trans (h : UnitsStand s t) (k : UnitsStand t u) : UnitsStand s u where
  store := k.store.trans h.store
  float := k.float.trans h.float
  count := k.count.trans h.count
  retention := k.retention.trans h.retention
  event := k.event.trans h.event
  comps := k.comps.trans h.comps
  safeWaiters := k.safeWaiters.trans h.safeWaiters
  session := k.session.trans h.session
  ports := h.ports.trans k.ports

theorem PlanRan.unitsStand (h : PlanRan s t) : UnitsStand s t where
  store := h.store
  float := h.float
  count := h.count
  retention := h.retention
  event := h.event
  comps := by rw [h.safe]
  safeWaiters := by rw [h.safe]
  session := by rw [h.courier]
  ports := h.ports

theorem unitsStand_completionCheck (s : State) : UnitsStand s (completionCheck s) := by
  by_cases ready : s.day.state = .closing ∧ quiet s = true
  · rw [completionCheck_ready ready.1 ready.2, completeClose_eq]
    have raised := noticesAlone_raise .dayState .day [.u8 0, .u16 s.day.number] s
    exact ⟨rfl, rfl, rfl, rfl, rfl, rfl, rfl, rfl, raised.trans (.of_eq rfl)⟩
  · rw [completionCheck_open (not_and_or.mp ready)]
    exact .refl s

theorem unitsStand_returnDay (s : State) : UnitsStand s (returnDay s) := by
  have caught := (planRan_catchUp s).unitsStand
  unfold returnDay
  dsimp only
  split
  · have owed : UnitsStand (catchUp s) (modDay (fun d => { d with limitOwed := false }) (catchUp s)) :=
      ⟨rfl, rfl, rfl, rfl, rfl, rfl, rfl, rfl, .of_eq rfl⟩
    exact (caught.trans owed).trans (planRan_raise ..).unitsStand
  · exact caught

theorem UnitsStand.withEvent (h : UnitsStand s t) (e : Scratch) : UnitsStand { s with event := e } { t with event := e } :=
  { h with event := rfl, ports := fun p => h.ports p }

/-- The check on the units' reports ends them (R40). -/
theorem reportedCheck_stands (called : s.event.signals = []) : UnitsStand { s with event := Scratch.empty } (reportedCheck s) := by
  unfold reportedCheck
  split
  · exact unitsStand_completionCheck _
  · next unreported =>
    have empty : s.event = Scratch.empty := by
      rw [Scratch.empty, ← called, ← Bool.eq_false_iff.mpr unreported]
    rw [← empty]
    exact .refl s

theorem compareWords_of {damage : BitVec 32} (h : s.retention.drift = damage) : compareWords s = if damage = 0 then s
    else raise .memorySuspect .part
      [.u32 (checkWord (Config.retainedWords s) + damage).toNat, .u32 (checkWord (Config.retainedWords s)).toNat]
      { s with retention := { s.retention with suspect := true, drift := 0 } } := by
  subst h
  rfl

/-- The check word compared changes the mark of damage alone, beside the notice (R210). -/
theorem compareWords_stands (s : State) : UnitsStand { s with retention := { s.retention with
    suspect := s.retention.suspect || decide (s.retention.drift ≠ 0), drift := 0 } } (compareWords s) := by
  rw [compareWords_of rfl]
  split
  · next undamaged =>
    rw [decide_eq_false (not_not.mpr undamaged), Bool.or_false, ← undamaged]
    exact .refl s
  · next damaged =>
    rw [decide_eq_true damaged, Bool.or_true]
    exact (planRan_raise ..).unitsStand

theorem compareWords_event (s : State) : (compareWords s).event = s.event := (compareWords_stands s).event

/-! ## The ports at the end of the event (R195, R200) -/

theorem startFrame_resting {r : PortRec} (link : r.link ≠ .active) (none : r.responses = []) : startFrame r = r := by
  unfold startFrame
  rw [none]
  cases r.line with
  | some f => rfl
  | none =>
    cases resting : r.link with
    | brk => rfl
    | quiet => rfl
    | active => exact absurd resting link

theorem portOf_startFrames (s : State) (p : Port) : portOf (startFrames s) p = startFrame (portOf s p) := by
  cases p <;> rfl

/-- A port after `replugged` and the notices that follow: its line quiet or in a break, its slots free. -/
theorem portOf_ended_of_replugged {spacing : List Port} (h : NoticesAlone (replugged spacing s) t) (p : Port) :
    (portOf (ended t) p).link = (if p ∈ spacing then .brk else .quiet) ∧ (portOf (ended t) p).responses = []
      ∧ ∀ k, (slotOf (ended t) p k).state = .free := by
  have shape := (h p).trans (by rw [portOf_replugged])
  have link : (portOf t p).link = if p ∈ spacing then .brk else .quiet := by
    rw [shape]
    simp [PortRec.cold]
  have idle : (portOf t p).link ≠ .active := by
    rw [link]
    split <;> decide
  have resting : portOf (ended t) p = portOf t p := by
    refine (portOf_startFrames { t with event := Scratch.empty } p).trans ?_
    exact startFrame_resting (r := portOf t p) idle (by rw [shape]; rfl)
  refine ⟨resting ▸ link, ?_, fun k => ?_⟩
  · rw [resting, shape]
    rfl
  · rw [slotOf, resting, shape]
    exact congrArg Slot.state (look_replicate ..)

/-! ## The whole of a power return -/

section Return

variable (doors : List CompIx) (spacing : List Port) (drift : BitVec 32)

/-- The state a power return leaves, before the next frames start. -/
def settledAgain (s : State) : State := returnDay (reportedCheck (compareWords (restored doors spacing drift s)))

theorem settledAgain_stands (s : State) :
    UnitsStand { restored doors spacing drift s with
      retention := { s.retention with
        supply := .good, suspect := s.retention.suspect || decide (s.retention.drift + drift ≠ 0), drift := 0 }
      event := Scratch.empty } (settledAgain doors spacing drift s) := by
  let u := restored doors spacing drift s
  have called : (compareWords u).event.signals = [] := by
    rw [compareWords_event, restored_event]
  have compared := (compareWords_stands u).withEvent Scratch.empty
  rw [restored_retention] at compared
  exact (compared.trans (reportedCheck_stands called)).trans (unitsStand_returnDay _)

theorem powerReturn_settled (cut : s.retention.supply = .cut) :
    exec (.powerReturn doors spacing drift) s = .next (ended (settledAgain doors spacing drift s)) := by
  rw [powerReturn_cut doors spacing drift cut, warmStart_eq]
  exact congrArg Host.Outcome.next (finish_plain _ (settledAgain_stands doors spacing drift s).event)

theorem settledAgain_eq (s : State) : settledAgain doors spacing drift s =
    let u := restored doors spacing drift s
    let damage := s.retention.drift + drift
    let word := checkWord (Config.retainedWords u)
    let v := if damage = 0 then u else raise .memorySuspect .part [.u32 (word + damage).toNat, .u32 word.toNat]
      { u with retention := { u.retention with suspect := true, drift := 0 } }
    let w := if u.event.reported = true then completionCheck { v with event := Scratch.empty } else v
    let z := catchUp w
    if z.day.limitOwed = true then raise .clockLimit .day [] { z with day := { z.day with limitOwed := false } } else z := by
  have drifted : (restored doors spacing drift s).retention.drift = s.retention.drift + drift := by rw [restored_retention]
  dsimp only
  rw [← compareWords_of drifted, ← compareWords_event]
  rfl

theorem lapsed_store (s : State) : (lapsed s).store = { s.store with journal := { s.store.journal with
    held := (lapsed s).store.journal.held, high := (lapsed s).store.journal.high, full := (lapsed s).store.journal.full } } := by
  cases running : s.count.running with
  | none => rw [lapsed_idle running]
  | some r => rw [lapsed_running running]; rfl

theorem holding_lapsed (s : State) (c : Container) : holding (lapsed s) c = holding s c := by
  cases c <;> simp only [holding] <;> rw [lapsed_store]

theorem restored_noticesAlone (s : State) : NoticesAlone (replugged spacing s) (restored doors spacing drift s) := by
  have returned := noticesAlone_raise .powerReturn .part [.u8 0] (replugged spacing s)
  cases session : s.courier.session with
  | none => exact returned.trans (.of_eq (restored_ports_alone doors spacing drift session))
  | some x =>
    exact (returned.trans (noticesAlone_raise .handoverAborted _ _ _)).trans
      (.of_eq (restored_ports_session doors spacing drift session))

theorem compOf_restored (s : State) (c : CompIx) :
    compOf (restored doors spacing drift s) c = returnComp (doors.contains c) (compOf s c) := by
  rw [compOf, restored_safe]
  exact look_ofFn ..

theorem trayOf_lapsed {r : RunningCount} (running : s.count.running = some r) : (trayOf (lapsed s) r.tray).state = .invalid := by
  rw [lapsed_running running]
  simp [abandoned, trayOf]

theorem running_lapsed (s : State) : (lapsed s).count.running = none := by
  cases running : s.count.running with
  | none => rw [lapsed_idle running, running]
  | some r => rw [lapsed_running running, abandoned]

theorem restored_session (s : State) : (restored doors spacing drift s).courier.session = none := by
  cases session : s.courier.session with
  | none => rw [restored_courier_alone doors spacing drift session, session]
  | some x => rw [restored_courier doors spacing drift session]

theorem bagOf_restored_outside {x : Session} (session : s.courier.session = some x) {b : BagIx} (out : b ∉ x.inbound) :
    bagOf (restored doors spacing drift s) b
      = if (windowOf s x.window).unstagePending = true ∧ b ∈ (windowOf s x.window).staged then unstaged (bagOf s b)
        else bagOf s b := by
  rw [bagOf_restored doors spacing drift session, if_neg out]

theorem bagOf_restored_inbound {x : Session} (session : s.courier.session = some x) {b : BagIx} (inbound : b ∈ x.inbound)
    (unlisted : b ∉ (windowOf s x.window).staged) : bagOf (restored doors spacing drift s) b = BagRec.free := by
  rw [bagOf_restored doors spacing drift session, if_pos inbound]
  exact if_neg fun both => unlisted both.2

end Return

/-- Settles O52: the supply by its state, what a power return leaves, and the power return unit by unit. -/
theorem supplyAndReturn : Obligations.SupplyAndReturn := by
  refine ⟨fun s => ⟨fun good => ⟨mainSupplyLoss_good good true, mainSupplyLoss_good good false⟩, backupSupplyLoss_cut,
    fun doors spacing => ⟨rfl, fun dead drift => powerReturn_dead doors spacing drift dead⟩⟩, ?left, ?units⟩
  case left =>
    intro s doors spacing drift cut
    refine ⟨ended (settledAgain doors spacing drift s), powerReturn_settled doors spacing drift cut, ?_⟩
    have stands := settledAgain_stands doors spacing drift s
    have ports : NoticesAlone (replugged spacing s) (settledAgain doors spacing drift s) :=
      ((restored_noticesAlone doors spacing drift s).trans (.of_eq rfl)).trans stands.ports
    obtain ⟨storeEnd, -, floatEnd, countEnd, -, safeEnd, courierEnd, retentionEnd, -⟩ :=
      startFrames_frame { settledAgain doors spacing drift s with event := Scratch.empty }
    have store : (ended (settledAgain doors spacing drift s)).store = (lapsed s).store :=
      storeEnd.trans (stands.store.trans (restored_store ..))
    have float := floatEnd.trans (stands.float.trans (restored_float ..))
    have count := countEnd.trans (stands.count.trans (restored_count ..))
    have waiters := (congrArg SafeUnit.waiters safeEnd).trans (stands.safeWaiters.trans (congrArg SafeUnit.waiters (restored_safe ..)))
    have comps := (congrArg SafeUnit.comps safeEnd).trans stands.comps
    have session := (congrArg CourierUnit.session courierEnd).trans
      (stands.session.trans (restored_session doors spacing drift s))
    have retention := retentionEnd.trans stands.retention
    have comp (c : CompIx) : compOf (ended (settledAgain doors spacing drift s)) c = returnComp (doors.contains c) (compOf s c) :=
      (congrArg (fun v => look v c) comps).trans (compOf_restored ..)
    have kept := store.trans (lapsed_store s)
    refine ⟨fun c => (holding_congr _ _ store c).trans (holding_lapsed s c), by rw [kept], by rw [kept], by rw [kept], by rw [kept],
      by rw [kept], by rw [kept], by rw [kept], by rw [kept], congrArg FloatUnit.waiters float, congrArg CountUnit.waiters count,
      waiters, session, (congrArg CountUnit.running count).trans (running_lapsed s), (congrArg FloatUnit.tills float).trans rfl,
      (congrArg FloatUnit.profiles float).trans rfl, fun r running => ?_, fun c => ?_, portOf_ended_of_replugged ports,
      congrArg Retention.suspect retention, congrArg Retention.drift retention, congrArg Retention.supply retention⟩
    · exact (congrArg (fun u : CountUnit => (look u.trays r.tray).state) count).trans (trayOf_lapsed running)
    · rw [comp, returnComp_contains]
      exact ⟨rfl, rfl, rfl, rfl⟩
  case units =>
    intro s doors spacing drift cut
    refine ⟨restored doors spacing drift s, ?_, restored_retention .., restored_event .., restored_day .., restored_stamp ..,
      restored_pending .., restored_float .., ⟨restored_store .., restored_count ..⟩, restored_recon ..,
      restored_reported doors spacing drift s, ?safe, restored_courier_alone doors spacing drift,
      fun x session => ⟨restored_courier doors spacing drift session, windowOf_restored doors spacing drift session,
        fun b out => bagOf_restored_outside doors spacing drift session out,
        fun b => bagOf_restored_inbound doors spacing drift session⟩, ?ports⟩
    · exact (powerReturn_settled doors spacing drift cut).trans
        (congrArg (fun t => Host.Outcome.next (ended t)) (settledAgain_eq doors spacing drift s))
    case safe => simp only [restored_safe, returnComp_contains]
    case ports =>
      cases session : s.courier.session with
      | none => exact restored_ports_alone doors spacing drift session
      | some x => exact restored_ports_session doors spacing drift session

end Sys2Proof.Machine
end

section
/-! Composition index by index (R45 to R47): the order in which the second stage visits, what each index takes against the
shortfall that the indices before it have left, and the validation of a profile. -/

namespace Sys2Proof.Machine

variable {denoms : Vector DenomEntry 16} {stock : Counts} {mask : BitVec 16} {template : Option Counts} {target : Int}

/-! ## The order of the second stage (R47) -/

theorem issuable_perm (denoms : Vector DenomEntry 16) (mask : BitVec 16) : (issuable denoms mask).Perm
    ((List.finRange 16).filter fun i => (look denoms i).status == .active && mask.getLsbD i.1) :=
  List.perm_insertionSort ..

theorem issuable_nodup (denoms : Vector DenomEntry 16) (mask : BitVec 16) : (issuable denoms mask).Nodup :=
  (issuable_perm denoms mask).nodup_iff.mpr ((List.nodup_finRange 16).filter _)

theorem mem_issuable (denoms : Vector DenomEntry 16) (mask : BitVec 16) (i : DenomIx) :
    i ∈ issuable denoms mask ↔ (look denoms i).status = .active ∧ mask.getLsbD i.1 = true := by
  simp [(issuable_perm denoms mask).mem_iff]

theorem issuable_descending (denoms : Vector DenomEntry 16) (mask : BitVec 16) :
    (issuable denoms mask).Pairwise fun i j => faceAt denoms j ≤ faceAt denoms i :=
  haveI : Std.Total fun i j : DenomIx => faceAt denoms j ≤ faceAt denoms i := ⟨fun _ _ => le_total _ _⟩
  haveI : IsTrans DenomIx fun i j => faceAt denoms j ≤ faceAt denoms i := ⟨fun _ _ _ first second => second.trans first⟩
  List.pairwise_insertionSort ..

/-! ## The second stage along its order (R47) -/

theorem look_takeMore_ne (acc : Counts × Int) {i j : DenomIx} (h : j ≠ i) :
    look (takeMore denoms stock acc i).1 j = look acc.1 j := look_put_ne _ _ h

theorem look_takeMore_self (acc : Counts × Int) (i : DenomIx) :
    look (takeMore denoms stock acc i).1 i = look acc.1 i + stageTwo denoms stock acc.1 acc.2 i := look_put_self ..

/-- An index the second stage does not visit keeps its count. -/
theorem look_foldl_takeMore {l : List DenomIx} (acc : Counts × Int) {j : DenomIx} (h : j ∉ l) :
    look (l.foldl (takeMore denoms stock) acc).1 j = look acc.1 j := by
  induction l generalizing acc with
  | nil => rfl
  | cons i l ih =>
    rw [List.foldl_cons, ih _ (List.not_mem_of_not_mem_cons h), look_takeMore_ne acc (List.ne_of_not_mem_cons h)]

/-- What the indices visited have taken is gone from the shortfall. -/
theorem foldl_takeMore_short {l : List DenomIx} (once : l.Nodup) (acc : Counts × Int) :
    (l.foldl (takeMore denoms stock) acc).2 = acc.2
      - (l.map fun j => (look (l.foldl (takeMore denoms stock) acc).1 j - look acc.1 j) * faceAt denoms j).sum := by
  induction l generalizing acc with
  | nil => simp
  | cons i l ih =>
    obtain ⟨fresh, once⟩ := List.nodup_cons.mp once
    have later : l.map (fun j => (look (l.foldl (takeMore denoms stock) (takeMore denoms stock acc i)).1 j
          - look (takeMore denoms stock acc i).1 j) * faceAt denoms j)
        = l.map fun j => (look (l.foldl (takeMore denoms stock) (takeMore denoms stock acc i)).1 j - look acc.1 j)
          * faceAt denoms j :=
      List.map_congr_left fun j hj => by rw [look_takeMore_ne acc (ne_of_mem_of_not_mem hj fresh)]
    have spent : (takeMore denoms stock acc i).2 = acc.2 - stageTwo denoms stock acc.1 acc.2 i * faceAt denoms i := rfl
    rw [List.foldl_cons, ih once, later, List.map_cons, List.sum_cons, look_foldl_takeMore _ fresh, look_takeMore_self, spent]
    ring

/-- At its turn an index gains what the second stage takes against the shortfall that the indices before it have left. -/
theorem look_compose {before later : List DenomIx} {i : DenomIx} (order : issuable denoms mask = before ++ i :: later) :
    let made := compose denoms stock mask template target
    let first := firstStage denoms stock template
    look made.1 i = look first i + stageTwo denoms stock first
      (target - valueWith denoms first - (before.map fun j => (look made.1 j - look first j) * faceAt denoms j).sum) i := by
  intro made first
  have once : (before ++ i :: later).Nodup := order ▸ issuable_nodup denoms mask
  obtain ⟨onceBefore, onceLater, apart⟩ := List.nodup_append.mp once
  have unseen : i ∉ before := fun h => apart i h i List.mem_cons_self rfl
  set start : Counts × Int := (first, target - valueWith denoms first) with hstart
  set mid := before.foldl (takeMore denoms stock) start with hmid
  have split : made = later.foldl (takeMore denoms stock) (takeMore denoms stock mid i) := by
    rw [show made = _ from compose_eq .., order, List.foldl_append, List.foldl_cons]
  have seen (j : DenomIx) (hj : j ∈ before) : look made.1 j = look mid.1 j := by
    have other : j ≠ i := apart j hj i List.mem_cons_self
    rw [split, look_foldl_takeMore _ fun h => apart j hj j (List.mem_cons_of_mem i h) rfl, look_takeMore_ne _ other]
  have here : look mid.1 i = look first i := look_foldl_takeMore start unseen
  have short : mid.2 = target - valueWith denoms first
      - (before.map fun j => (look made.1 j - look first j) * faceAt denoms j).sum := by
    rw [List.map_congr_left fun j hj => by rw [seen j hj]]
    exact foldl_takeMore_short onceBefore start
  rw [← short, split, look_foldl_takeMore _ (List.nodup_cons.mp onceLater).1, look_takeMore_self, here]
  unfold stageTwo
  rw [here]

theorem look_compose_rest {i : DenomIx} (h : i ∉ issuable denoms mask) :
    look (compose denoms stock mask template target).1 i = look (firstStage denoms stock template) i := by
  rw [compose_eq, look_foldl_takeMore _ h]

/-- The first stage places nothing at an index that is not ACTIVE, and the second does not visit it (R46, R47). -/
theorem look_compose_inactive {i : DenomIx} (h : (look denoms i).status ≠ .active) :
    look (compose denoms stock mask template target).1 i = 0 := by
  rw [look_compose_rest fun mem => h ((mem_issuable ..).mp mem).1]
  cases template with
  | none => exact look_zero i
  | some q => rw [firstStage, look_ofFn, stageOne, if_pos h]

/-! ## The stages in the form in which the rules give them -/

theorem stageOne_eq (q : Counts) (i : DenomIx) : stageOne denoms q stock i =
    if (look denoms i).status ≠ .active then 0
    else if (look denoms i).form = some .coin then
      min (look q i) (look stock i) - min (look q i) (look stock i) % (((look denoms i).pack.getD 1 : Nat) : Int)
    else min (look q i) (look stock i) := by
  unfold stageOne
  dsimp only
  split
  · rfl
  · split
    · next coin => rw [if_pos coin]
    · next other => rw [if_neg other]

theorem stageTwo_eq (taken : Counts) (short : Int) (i : DenomIx) : stageTwo denoms stock taken short i =
    if short < faceAt denoms i then 0
    else if (look denoms i).form = some .coin then
      (((look denoms i).pack.getD 1 : Nat) : Int) * min ((look stock i - look taken i) / ((look denoms i).pack.getD 1 : Nat))
        (short / (faceAt denoms i * ((look denoms i).pack.getD 1 : Nat)))
    else min (look stock i - look taken i) (short / faceAt denoms i) := by
  unfold stageTwo
  dsimp only
  split
  · rfl
  · split
    · next coin => rw [if_pos coin]
    · next other => rw [if_neg other]

/-! ## The validation of a profile (R45) -/

theorem profileOk_iff (denoms : Vector DenomEntry 16) (p : Profile) : profileOk denoms p = true ↔
    p.defined = true ∧ (∀ i, look p.template i ≠ 0 → (look denoms i).status ≠ .unused)
    ∧ valueWith denoms p.template = p.target
    ∧ ∀ i, (look denoms i).form = some .coin → look p.template i % (((look denoms i).pack.getD 1 : Nat) : Int) = 0 := by
  simp only [profileOk, Bool.and_eq_true, List.all_eq_true, List.mem_finRange, forall_const, Bool.or_eq_true, decide_eq_true_eq,
    imp_iff_not_or, not_not, and_assoc]

/-- Settles O11: the laws of a composition, what each index takes in the order of faces, and the validation. -/
theorem compositionIsExact : Obligations.CompositionIsExact := by
  refine ⟨?_, ?_, profileOk_iff⟩
  · intro denoms stock mask template target hs hq made
    refine ⟨compose_value .., fun i => ?_⟩
    obtain ⟨low, high⟩ := compose_within denoms stock mask template target hq hs i
    refine ⟨low, high, fun placed => ?_, fun pack coin hp => ?_⟩
    · by_contra inactive
      exact placed (look_compose_inactive inactive)
    · have rolls := compose_inRolls denoms stock mask template target i coin
      rwa [hp] at rolls
  · intro denoms stock mask template target made pack coin first order
    have stage : first = firstStage denoms stock template := by
      cases template with
      | none => rfl
      | some q => exact eq_of_look fun i => by simp only [first, firstStage, look_ofFn, stageOne_eq, coin, pack]
    refine ⟨issuable_nodup .., mem_issuable _ _, issuable_descending .., fun i hi => ?_, fun before i later split => ?_⟩
    · rw [stage]
      exact look_compose_rest hi
    · have turn := look_compose (stock := stock) (template := template) (target := target) split
      dsimp only at turn
      rw [stageTwo_eq, ← stage] at turn
      exact turn

end Sys2Proof.Machine
end

section
/-! SET FLOAT PROFILE, SET TILL, SET TOLERANCE CLASS and SET LIMIT (R44, R53, R67, R112, R118). -/

namespace Sys2Proof.Machine

variable {s : State} {h : Req}

/-! ## SET FLOAT PROFILE (R44) -/

/-- Counts in range at indices that are not UNUSED make a vector that a request may carry (R5). -/
theorem unsignedOk_of {denoms : Vector DenomEntry 16} {v : Counts} (range : ∀ i : DenomIx, 0 ≤ look v i ∧ look v i ≤ 65535)
    (used : ∀ i : DenomIx, look v i ≠ 0 → (look denoms i).status ≠ .unused) : unsignedOk denoms v = true := by
  have bounds (i : DenomIx) : 0 ≤ look v i ∧ look v i ≤ Config.maxCount := range i
  have absent (i : DenomIx) : (look denoms i).status ≠ .unused ∨ look v i = 0 := by
    by_cases none : look v i = 0
    · exact .inr none
    · exact .inl (used i none)
  simp only [unsignedOk, usedOnly, Bool.and_eq_true, List.all_eq_true, decide_eq_true_eq, Bool.or_eq_true]
  exact ⟨fun i _ => bounds i, fun i _ => absent i⟩

theorem profileFits_iff {denoms : Vector DenomEntry 16} {target : Nat} {v : Counts} {mask : BitVec 16} :
    profileFits denoms target v mask = true ↔ valueWith denoms v = target
      ∧ (∀ i, look v i ≠ 0 → (look denoms i).status = .active ∧ mask.getLsbD i.1 = true)
      ∧ ∀ i, (look denoms i).form = some .coin → look v i % (((look denoms i).pack.getD 1 : Nat) : Int) = 0 := by
  simp only [profileFits, Bool.and_eq_true, List.all_eq_true, List.mem_finRange, forall_const, Bool.or_eq_true, decide_eq_true_eq,
    beq_iff_eq, imp_iff_not_or, not_not, ne_eq, and_assoc]

theorem putProfile_accepted (i : ProfileIx) (p : Profile) (code : Nat) : putProfile i p (accepted h code s)
    = { accepted h code s with float := { s.float with profiles := put s.float.profiles i p } } := by
  rw [putProfile, (accepted_frame h code s).2.2.1]

/-- Settles O18: the reply to EMPTY and to a DEFINED profile that fits. -/
theorem setFloatProfileStores : Obligations.SetFloatProfileStores := by
  intro s h p hr
  refine ⟨?_, fun target v mask low high range worth placed rolls => ?_⟩
  · have reply : replySetFloatProfile p.1 (.ok none) (accepted h 0x03 s)
        = Reply.ok [] (putProfile p Profile.empty (accepted h 0x03 s)) := by
      simp [replySetFloatProfile]
    rw [putProfile_accepted] at reply
    exact congrArg Host.Outcome.next (office_answered hr rfl reply (by simp))
  · have vector : unsignedArg (accepted h 0x03 s) (.ok v) = some v :=
      if_pos (unsignedOk_of range fun i hi unused => by simp [(placed i hi).1] at unused)
    have fits : profileFits s.store.denoms target v mask = true :=
      profileFits_iff.mpr ⟨worth, placed, fun i coin => rolls i _ coin rfl⟩
    have inRange : valueIn 1 Config.maxValue target = true := by simp [valueIn, Config.maxValue, low, high]
    have reply : replySetFloatProfile p.1 (.ok (some { target, template := .ok v, mask })) (accepted h 0x03 s)
        = Reply.ok [] (putProfile p { defined := true, target, template := v, mask } (accepted h 0x03 s)) := by
      simp [replySetFloatProfile, vector, fits, inRange]
    rw [putProfile_accepted] at reply
    exact congrArg Host.Outcome.next (office_answered hr rfl reply (by simp))

/-! ## SET TILL and SET TOLERANCE CLASS (R67, R112) -/

/-- The limit and the tolerance class of a till (R67). -/
def tillSet (i : TillIx) (limit : Nat) (k : ClassIx) (s : State) : State := modTill i (fun r => { r with limit, cls := k }) s

@[simp] theorem tillSet_event (i : TillIx) (limit : Nat) (k : ClassIx) (s : State) : (tillSet i limit k s).event = s.event := rfl

theorem setTill_settled (hr : officeReady s h = true) (i : TillIx) {limit : Nat} (k : ClassIx) (hl : limit ≤ 999999999) :
    exec (.setTill h i.1 limit k.1) s = .next (settled h .ok []
      (if (tillOf s i).limit = limit then tillSet i limit k (accepted h 0x04 s)
        else evaluate i (tillSet i limit k (accepted h 0x04 s)))) := by
  have inRange : valueIn 0 Config.maxValue limit = true := by simp [valueIn, Config.maxValue, hl]
  have reply : replySetTill i.1 limit k.1 (accepted h 0x04 s) = Reply.ok []
      (if (tillOf s i).limit = limit then tillSet i limit k (accepted h 0x04 s)
        else evaluate i (tillSet i limit k (accepted h 0x04 s))) := by
    simp [replySetTill, inRange, tillSet]
  refine congrArg Host.Outcome.next (office_answered hr rfl reply ?_)
  split <;> simp

theorem setToleranceClass_settled (hr : officeReady s h = true) (k : ClassIx) {a p : Nat} (ha : a ≤ 100000) (hp : p ≤ 500) :
    exec (.setToleranceClass h k.1 a p) s = .next (settled h .ok [] { accepted h 0x05 s with
      recon := { s.recon with classes := put s.recon.classes k { a, p } } }) := by
  have reply : replySetToleranceClass k.1 a p (accepted h 0x05 s) = Reply.ok [] { accepted h 0x05 s with
      recon := { s.recon with classes := put s.recon.classes k { a, p } } } := by
    simp [replySetToleranceClass, valueIn, ha, hp]
  exact congrArg Host.Outcome.next (office_answered hr rfl reply (by simp))

/-! ## SET LIMIT (R53, R85, R116, R118, R131, R139, R165) -/

theorem putLimit_event (l : Limit) (v : Nat) (s : State) : (putLimit l v s).event = s.event := by
  cases l with
  | autoPost => unfold putLimit; dsimp only; split <;> rfl
  | _ => rfl

/-- A limit inside its range is replaced. -/
theorem setLimit_settled (hr : officeReady s h = true) {l : Limit} {v : Nat}
    (range : (limitRange l).1 ≤ v ∧ v ≤ (limitRange l).2) :
    exec (.setLimit h (.ok l) v) s = .next (settled h .ok [] (putLimit l v (accepted h 0x06 s))) := by
  have reply : replySetLimit (.ok l) v (accepted h 0x06 s) = Reply.ok [] (putLimit l v (accepted h 0x06 s)) := by
    simp [replySetLimit, valueIn, range]
  exact congrArg Host.Outcome.next (office_answered hr rfl reply (by simp [putLimit_event]))

theorem put_put_false (v : Vector Bool 2) : put (put v 0 false) 1 false = Vector.replicate 2 false :=
  eq_of_look fun i => by
    rw [look_put, look_put, look_replicate]
    match i with
    | 0 => rfl
    | 1 => rfl

/-- AUTO_POST OFF clears the pending marks and every attempt owed (R118, log 15). -/
theorem putLimit_autoPost_off (s : State) : putLimit .autoPost 0 s = { s with recon := { s.recon with
    autoPost := false, pending := Vector.replicate 2 false, reported := Vector.replicate 2 false
    attemptDue := Vector.replicate 2 false } } := by
  simp only [putLimit, ↓reduceIte, clearAutoPost, clearPending, put_put_false]

/-- Settles O19: each setting is the reply's one change. -/
theorem settingsReplaced : Obligations.SettingsReplaced := by
  intro s h hr
  refine ⟨fun i limit k hl => setTill_settled hr i k hl, fun k a p ha hp => setToleranceClass_settled hr k ha hp, fun v => ?_⟩
  obtain ⟨-, -, float, count, recon, safe, -⟩ := accepted_frame h 0x06 s
  have courier : (accepted h 0x06 s).courier = s.courier :=
    accepted_courier h 0x06 s (by rw [(officeReady_iff.mp hr).2]; decide)
  dsimp only
  rw [← float, ← count, ← recon, ← safe, ← courier]
  refine ⟨fun low high => ⟨?_, ?_, ?_, ?_⟩, fun low high => ?_, fun low high => ?_, fun low high => ?_, ?_, ?_⟩
  · exact setLimit_settled hr (l := .floatWait) ⟨low, high⟩
  · exact setLimit_settled hr (l := .accessWait) ⟨low, high⟩
  · exact setLimit_settled hr (l := .counterWait) ⟨low, high⟩
  · exact setLimit_settled hr (l := .destinationWait) ⟨low, high⟩
  · exact setLimit_settled hr (l := .counterStep) ⟨low, high⟩
  · exact setLimit_settled hr (l := .doorHeld) ⟨low, high⟩
  · exact setLimit_settled hr (l := .handoverIdle) ⟨low, high⟩
  · exact setLimit_settled hr (l := .autoPost) ⟨Nat.zero_le 1, le_rfl⟩
  · have off := setLimit_settled hr (l := .autoPost) (v := 0) ⟨le_rfl, Nat.zero_le 1⟩
    rwa [putLimit_autoPost_off] at off

end Sys2Proof.Machine
end

section
/-! The pickup estimate and its arming rule, the pickup round, a late FINAL TAKINGS (R57 to R59, R105), and the requests about
takings and pouches (R55, R56, R61, R62). -/

namespace Sys2Proof.Machine

variable {s : State} {h : Req} {i : TillIx}

/-! ## Requests of the Till Port -/

theorem tillReady_iff : tillReady s h = true ↔ ready s h = true ∧ h.port = .till := by
  simp [tillReady]

/-- A ready request of the Till Port answered OK in an event that calls for no pass and no completion check. -/
theorem till_answered {code : Nat} {owner : State → Reply} {fields : List Field} {t : State} (hr : tillReady s h = true)
    (hg : granted code .till = true) (ho : owner (accepted h code s) = Reply.ok fields t) (he : t.event = Scratch.empty) :
    immediate h code owner s = settled h .ok fields t :=
  have ⟨isReady, port⟩ := tillReady_iff.mp hr
  ready_settled isReady (port ▸ hg) ho he

/-- A ready request of the Till Port answered OK, with what its event calls for. -/
theorem till_replied {code : Nat} {owner : State → Reply} {fields : List Field} {t : State} (hr : tillReady s h = true)
    (hg : granted code .till = true) (ho : owner (accepted h code s) = Reply.ok fields t) :
    immediate h code owner s = replied h .ok fields t := by
  obtain ⟨isReady, port⟩ := tillReady_iff.mp hr
  rw [immediate_ready h code owner s isReady (port ▸ hg), ho]
  rfl

/-- A ready request of the Office Port answered OK, with what its event calls for. -/
theorem office_replied_ok {code : Nat} {owner : State → Reply} {fields : List Field} {t : State} (hr : officeReady s h = true)
    (hg : granted code .office = true) (ho : owner (accepted h code s) = Reply.ok fields t) :
    immediate h code owner s = replied h .ok fields t := by
  rw [office_replied code hr hg, ho]
  rfl

/-! ## The evaluation (R57, R58) -/

/-- The arming rule and the pickup rounds act on the till (R58, R59). -/
theorem armable_iff (r : TillRec) : armable r = true ↔ r.state = .trading ∧ r.signedOff = false ∧ r.limit ≠ 0 := by
  simp [armable, and_assoc]

theorem evaluate_eq (i : TillIx) (s : State) : evaluate i s = modTill i (fun r => { r with armed := armedAfter (tillOf s i) })
    (if pickupDue (tillOf s i) then
      raise .pickupDue (.till i) [.value (estimate (tillOf s i)), .value (tillOf s i).limit, .u8 0] s else s) := by
  unfold evaluate raisePickup modTill
  dsimp only
  split
  · rw [show tillOf (raise .pickupDue (.till i) _ s) i = tillOf s i by simp [tillOf]]
  · rfl

/-- An evaluation changes the armed flag of a till's record alone (R58). -/
theorem tillOf_evaluate (i : TillIx) (s : State) :
    tillOf (evaluate i s) i = { tillOf s i with armed := armedAfter (tillOf s i) } := by
  rw [evaluate_eq, tillOf_modTill, if_pos rfl]
  split <;> simp [tillOf]

/-- The armed flag is no part of the estimate (R57). -/
theorem estimate_evaluate (i : TillIx) (s : State) : estimate (tillOf (evaluate i s) i) = estimate (tillOf s i) := by
  rw [tillOf_evaluate]
  rfl

theorem modTill_same {f : TillRec → TillRec} (same : f (tillOf s i) = tillOf s i) : modTill i f s = s := by
  have tills : put s.float.tills i (tillOf s i) = s.float.tills := eq_of_look fun j => by
    rw [look_put]
    split
    · next here => rw [here, tillOf]
    · rfl
  rw [modTill, same, tills]

theorem evaluate_idle (due : pickupDue (tillOf s i) = false) (armed : armedAfter (tillOf s i) = (tillOf s i).armed) :
    evaluate i s = s := by
  rw [evaluate_eq, due, if_neg Bool.false_ne_true, armed]
  exact modTill_same rfl

theorem evaluate_unruled (ruled : ¬ ((tillOf s i).state = .trading ∧ (tillOf s i).signedOff = false ∧ (tillOf s i).limit ≠ 0)) :
    evaluate i s = s := by
  have unarmable : armable (tillOf s i) = false := Bool.eq_false_iff.mpr (mt (armable_iff _).mp ruled)
  exact evaluate_idle (by simp [pickupDue, unarmable]) (by simp [armedAfter, unarmable])

section Ruled

variable (ruled : (tillOf s i).state = .trading ∧ (tillOf s i).signedOff = false ∧ (tillOf s i).limit ≠ 0)
include ruled

theorem evaluate_due (reached : ((tillOf s i).limit : Int) ≤ estimate (tillOf s i)) (armed : (tillOf s i).armed = true) :
    evaluate i s = modTill i (fun r => { r with armed := false })
      (raise .pickupDue (.till i) [.value (estimate (tillOf s i)), .value (tillOf s i).limit, .u8 0] s) := by
  have due : pickupDue (tillOf s i) = true := by simp [pickupDue, (armable_iff _).mpr ruled, reached, armed]
  have after : armedAfter (tillOf s i) = false := by simp [armedAfter, (armable_iff _).mpr ruled, reached]
  rw [evaluate_eq, due, after, if_pos rfl]

theorem evaluate_disarmed (reached : ((tillOf s i).limit : Int) ≤ estimate (tillOf s i)) (armed : (tillOf s i).armed = false) :
    evaluate i s = s :=
  evaluate_idle (by simp [pickupDue, armed]) (by simp [armedAfter, (armable_iff _).mpr ruled, reached, armed])

/-- Below the limit no notice is due, and the flag is set below eight tenths of it (R58). -/
theorem evaluate_below (below : estimate (tillOf s i) < (tillOf s i).limit) : evaluate i s
    = if estimate (tillOf s i) < ((tillOf s i).limit * 8 / 10 : Nat) then modTill i (fun r => { r with armed := true }) s else s := by
  have due : pickupDue (tillOf s i) = false := by simp [pickupDue, below]
  have after : armedAfter (tillOf s i) = if estimate (tillOf s i) < ((tillOf s i).limit * 8 / 10 : Nat) then true
      else (tillOf s i).armed := by
    rw [armedAfter, if_pos ((armable_iff _).mpr ruled), if_neg below.not_ge]
  split
  · next low => rw [evaluate_eq, due, after, if_pos low, if_neg Bool.false_ne_true]
  · next near => exact evaluate_idle due (by rw [after, if_neg near])

end Ruled

/-! ## The pickup round (R59) -/

/-- A till that a pickup round reports. -/
def roundDue (s : State) (i : TillIx) : Bool :=
  armable (tillOf s i) && decide (((tillOf s i).limit / 2 : Nat) ≤ estimate (tillOf s i))

/-- A round changes no till, so what it reports is read in the state it begins in. -/
theorem pickupRound_eq (s : State) : pickupRound s = ((List.finRange 64).filter (roundDue s)).foldl (fun acc i =>
    raise .pickupDue (.till i) [.value (estimate (tillOf s i)), .value (tillOf s i).limit, .u8 1] acc) s := by
  have along (l : List TillIx) (acc : State) (tills : acc.float = s.float) :
      l.foldl (fun acc i => if armable (tillOf acc i) && decide (((tillOf acc i).limit / 2 : Nat) ≤ estimate (tillOf acc i))
        then raisePickup i 1 acc else acc) acc
      = l.foldl (fun acc i => if roundDue s i = true then
        raise .pickupDue (.till i) [.value (estimate (tillOf s i)), .value (tillOf s i).limit, .u8 1] acc else acc) acc := by
    induction l generalizing acc with
    | nil => rfl
    | cons i l ih =>
      have record : tillOf acc i = tillOf s i := by rw [tillOf, tillOf, tills]
      rw [List.foldl_cons, List.foldl_cons, raisePickup, record]
      change l.foldl _ (if roundDue s i = true then _ else acc) = _
      refine ih _ ?_
      split
      · simpa using tills
      · exact tills
  rw [List.foldl_filter]
  exact along _ s rfl

/-! ## A late FINAL TAKINGS (R105) -/

/-- The till's record without the reason UNDECLARED. -/
def declare (i : TillIx) (s : State) : State :=
  modTill i (fun r => { r with hold := { r.hold with undeclared := false } }) s

theorem hold_declare (i : TillIx) (s : State) : (tillOf (declare i s) i).hold = { (tillOf s i).hold with undeclared := false } := by
  rw [declare, tillOf_modTill, if_pos rfl]

theorem lateFinal_waiting (pickups : (tillOf s i).hold.pendingPickups = true) : lateFinal i s = raise .tillHeld (.till i)
    [.u8 (bitSet [false, true, (tillOf s i).hold.outside, (tillOf s i).hold.gross, (tillOf s i).hold.uncertain])]
    (declare i s) := by
  change afterRemoval i (declare i s) = _
  rw [afterRemoval, hold_declare]
  simp [waiting, holdBits, pickups]

theorem lateFinal_computes (pickups : (tillOf s i).hold.pendingPickups = false) :
    lateFinal i s = runComputation i (declare i s) := by
  change afterRemoval i (declare i s) = _
  rw [afterRemoval, hold_declare]
  simp [waiting, pickups]

/-! ## TAKINGS UPDATE and FINAL TAKINGS (R55, R56) -/

/-- D running handed over (R55). -/
def runningEntered (i : TillIx) (v : Nat) (s : State) : State := modTill i (fun r => { r with running := some v }) s

/-- D final handed over, which is D running too (R56). -/
def finalEntered (i : TillIx) (v : Nat) (s : State) : State := modTill i (fun r => { r with running := some v, final := some v }) s

@[simp] theorem runningEntered_event (i : TillIx) (v : Nat) (s : State) : (runningEntered i v s).event = s.event := rfl
@[simp] theorem finalEntered_event (i : TillIx) (v : Nat) (s : State) : (finalEntered i v s).event = s.event := rfl

theorem tillOf_runningEntered (i : TillIx) (v : Nat) (s : State) :
    tillOf (runningEntered i v s) i = { tillOf s i with running := some v } := by
  rw [runningEntered, tillOf_modTill, if_pos rfl]

theorem tillOf_finalEntered (i : TillIx) (v : Nat) (s : State) :
    tillOf (finalEntered i v s) i = { tillOf s i with running := some v, final := some v } := by
  rw [finalEntered, tillOf_modTill, if_pos rfl]

theorem valueIn_max {low v : Nat} (hl : low ≤ v) (hv : v ≤ 999999999) : valueIn low Config.maxValue v = true := by
  simp [valueIn, Config.maxValue, hl, hv]

theorem takingsUpdate_settled (hr : tillReady s h = true) {v : Nat} (hv : v ≤ 999999999)
    (out : (tillOf s i).state = .trading ∨ (tillOf s i).state = .suspended) :
    exec (.takingsUpdate h i.1 v) s = .next (settled h .ok [.value (estimate { tillOf s i with running := some v })]
      (evaluate i (runningEntered i v (accepted h 0x23 s)))) := by
  have worth : estimate (tillOf (evaluate i (runningEntered i v (accepted h 0x23 s))) i)
      = estimate { tillOf s i with running := some v } := by
    rw [estimate_evaluate, tillOf_runningEntered, tillOf_accepted]
  have state : ¬ (¬ (tillOf s i).state = .trading ∧ ¬ (tillOf s i).state = .suspended) := fun no => out.elim no.1 no.2
  have reply : replyTakingsUpdate i.1 v (accepted h 0x23 s) = Reply.ok [.value (estimate { tillOf s i with running := some v })]
      (evaluate i (runningEntered i v (accepted h 0x23 s))) := by
    rw [← worth]
    simp [replyTakingsUpdate, runningEntered, valueIn_max (Nat.zero_le v) hv, state]
  exact congrArg Host.Outcome.next (till_answered hr rfl reply (by simp))

theorem finalTakings_reply {v : Nat} (hv : v ≤ 999999999) (code : Nat) (session : (tillOf s i).state ≠ .idle) :
    replyFinalTakings i.1 v (accepted h code s)
      = Reply.ok [] (afterFinal i (finalEntered i v (accepted h code s))) := by
  simp [replyFinalTakings, finalEntered, valueIn_max (Nat.zero_le v) hv, session]

theorem finalTakings_trading (hr : tillReady s h = true) {v : Nat} (hv : v ≤ 999999999) (trading : (tillOf s i).state = .trading) :
    exec (.finalTakings h i.1 v) s = .next (settled h .ok []
      (evaluate i (finalEntered i v (accepted h 0x24 s)))) := by
  have reply := finalTakings_reply (h := h) hv 0x24 (by simp [trading] : (tillOf s i).state ≠ .idle)
  rw [afterFinal, tillOf_finalEntered, tillOf_accepted] at reply
  simp only [trading] at reply
  exact congrArg Host.Outcome.next (till_answered hr rfl reply (by simp))

theorem finalTakings_late (hr : tillReady s h = true) {v : Nat} (hv : v ≤ 999999999) (held : (tillOf s i).state = .held)
    (undeclared : (tillOf s i).hold.undeclared = true) :
    exec (.finalTakings h i.1 v) s = .next (replied h .ok []
      (lateFinal i (finalEntered i v (accepted h 0x24 s)))) := by
  have reply := finalTakings_reply (h := h) hv 0x24 (by simp [held] : (tillOf s i).state ≠ .idle)
  rw [afterFinal, tillOf_finalEntered, tillOf_accepted] at reply
  simp only [held, undeclared, if_true] at reply
  exact congrArg Host.Outcome.next (till_replied hr rfl reply)

theorem finalTakings_entered (hr : tillReady s h = true) {v : Nat} (hv : v ≤ 999999999)
    (out : ((tillOf s i).state = .held ∧ (tillOf s i).hold.undeclared = false) ∨ (tillOf s i).state = .returned
      ∨ (tillOf s i).state = .counting ∨ (tillOf s i).state = .suspended) :
    exec (.finalTakings h i.1 v) s = .next (settled h .ok []
      (finalEntered i v (accepted h 0x24 s))) := by
  have session : (tillOf s i).state ≠ .idle := by
    obtain ⟨state, -⟩ | state | state | state := out <;> simp [state]
  have reply := finalTakings_reply (h := h) hv 0x24 session
  have kept : afterFinal i (finalEntered i v (accepted h 0x24 s))
      = finalEntered i v (accepted h 0x24 s) := by
    rw [afterFinal, tillOf_finalEntered, tillOf_accepted]
    obtain ⟨state, declared⟩ | state | state | state := out
    · simp [state, declared]
    all_goals simp [state]
  rw [kept] at reply
  exact congrArg Host.Outcome.next (till_answered hr rfl reply (by simp))

/-! ## REQUEST PICKUP and RECEIVE POUCH (R61, R62) -/

/-- A pouch added to a till's list (R60, R61). -/
def pouchAdded (i : TillIx) (p : Pouch) (s : State) : State := modTill i (fun r => { r with pouches := r.pouches ++ [p] }) s

@[simp] theorem pouchAdded_event (i : TillIx) (p : Pouch) (s : State) : (pouchAdded i p s).event = s.event := rfl

theorem tillOf_pouchAdded (i : TillIx) (p : Pouch) (s : State) :
    tillOf (pouchAdded i p s) i = { tillOf s i with pouches := (tillOf s i).pouches ++ [p] } := by
  rw [pouchAdded, tillOf_modTill, if_pos rfl]

theorem requestPickup_settled (hr : tillReady s h = true) {v : Nat} (low : 1 ≤ v) (hv : v ≤ 999999999)
    (trading : (tillOf s i).state = .trading) (signedOn : (tillOf s i).signedOff = false) (few : openPouches (tillOf s i) < 4)
    (room : (tillOf s i).pouches.length < 255) :
    exec (.requestPickup h i.1 v) s = .next (settled h .ok [.u8 ((tillOf s i).pouches.length + 1),
        .value (estimate { tillOf s i with pouches := (tillOf s i).pouches ++ [newPouch (tillOf s i) v] })]
      (evaluate i (pouchAdded i (newPouch (tillOf s i) v) (accepted h 0x25 s)))) := by
  have worth : estimate (tillOf (evaluate i (pouchAdded i (newPouch (tillOf s i) v) (accepted h 0x25 s))) i)
      = estimate { tillOf s i with pouches := (tillOf s i).pouches ++ [newPouch (tillOf s i) v] } := by
    rw [estimate_evaluate, tillOf_pouchAdded, tillOf_accepted]
  have reply : replyRequestPickup i.1 v (accepted h 0x25 s) = Reply.ok [.u8 ((tillOf s i).pouches.length + 1),
        .value (estimate { tillOf s i with pouches := (tillOf s i).pouches ++ [newPouch (tillOf s i) v] })]
      (evaluate i (pouchAdded i (newPouch (tillOf s i) v) (accepted h 0x25 s))) := by
    rw [← worth]
    simp [replyRequestPickup, valueIn_max low hv, trading, signedOn, Config.maxOpenPouches, Config.maxPouches, few.not_ge,
      room.not_ge, newPouch, pouchAdded]
  exact congrArg Host.Outcome.next (till_answered hr rfl reply (by simp))

theorem receivePouch_replied (hr : officeReady s h = true) {n : Nat} {p : Pouch} (named : pouch? (tillOf s i) n = some p)
    (outstanding : p.state = .outstanding) :
    exec (.receivePouch h i.1 n) s = .next (replied h .ok [] (report (modTill i (fun r => { r with
      pouches := r.pouches.map fun q => if q.number = n then { q with state := .received } else q }) (accepted h 0x2B s)))) := by
  have reply : replyReceivePouch i.1 n (accepted h 0x2B s) = Reply.ok [] (report (modTill i (fun r => { r with
      pouches := modPouch n (fun q => { q with state := .received }) r.pouches }) (accepted h 0x2B s))) := by
    simp [replyReceivePouch, named, outstanding]
  exact congrArg Host.Outcome.next (office_replied_ok hr rfl reply)

/-- Settles O30: the four requests, the evaluation by its cases, the round, and the removal of UNDECLARED. -/
theorem takingsAndPouches : Obligations.TakingsAndPouches := by
  refine ⟨fun s h i v hr hv => ⟨takingsUpdate_settled hr hv, ⟨finalTakings_trading hr hv, finalTakings_late hr hv,
      finalTakings_entered hr hv⟩, fun low trading signedOn few room => requestPickup_settled hr low hv trading signedOn few room⟩,
    fun s h i n p hr named outstanding => ⟨receivePouch_replied hr named outstanding, fun s i => ?_, pickupRound_eq,
      fun s i => ⟨lateFinal_waiting, lateFinal_computes⟩⟩⟩
  refine ⟨evaluate_unruled, fun ruled reached => ⟨evaluate_due ruled reached, evaluate_disarmed ruled reached⟩,
    fun ruled low => ?_, fun ruled near below => ?_⟩
  · have below : estimate (tillOf s i) < (tillOf s i).limit := low.trans_le (by omega)
    exact (evaluate_below ruled below).trans (if_pos low)
  · exact (evaluate_below ruled below).trans (if_neg near.not_gt)

end Sys2Proof.Machine
end

section
/-! A float and a top-up as they are issued or park (R48, R50, R51), from either port. -/

namespace Sys2Proof.Machine

variable {s : State} {h : Req}

/-! ## The float waiters (R48, R51, R193) -/

theorem FloatsAnswered.congr {sel sel' : FloatWaiter → Bool} {c : Code} {t : State} (h : FloatsAnswered sel c s t)
    (same : ∀ w, sel w = sel' w) : FloatsAnswered sel' c s t :=
  funext same ▸ h

theorem dismissRivals_topup (i : TillIx) (v : Nat) (s : State) : dismissRivals (.topup i v) s = s := rfl

theorem raiseReserveLow_none (short : Int) (none : reserve s = none) : raiseReserveLow short s = s := by
  rw [raiseReserveLow, none]

theorem raiseReserveLow_some (short : Int) {c : CompIx} (hc : reserve s = some c) : raiseReserveLow short s
    = raise .reserveLow (.comp c)
      [.value short, .u8 (s.float.waiters.filter fun w => decide (w.park = .stock)).length] s := by
  rw [raiseReserveLow, hc]
  rfl

theorem setSlot_eq (p : Port) (tag : Tag) (st : SlotState) (s : State) :
    setSlot p tag st s = { s with ports := (setSlot p tag st s).ports } := modPort_eq ..

theorem setSlot_parked (p : Port) (tag : Tag) (s : State) : SlotParked p tag s (setSlot p tag .parked s) where
  slots q u := by
    rw [slotOf, setSlot, portOf_modPort]
    by_cases port : q = p
    · subst port
      simp [look_put, slotOf]
    · simp [port, slotOf]
  rest q := by
    rw [setSlot, portOf_modPort]
    split
    · next port => rw [port]
    · rfl
  routing := modPort_routing ..

theorem parkFloat_parked (p : Port) (tag : Tag) (ops : List Nat) (ask : FloatAsk) (park : FloatPark) (s : State) :
    parkFloat p tag ops ask park s = { s with
      float := { s.float with
        waiters := s.float.waiters ++ [{ port := p, tag, ask, ops, park, elapsed := 0, stamp := s.stamp }] }
      stamp := s.stamp + 1, ports := (parkFloat p tag ops ask park s).ports }
    ∧ SlotParked p tag s (parkFloat p tag ops ask park s) := by
  refine ⟨setSlot_eq .., ?_⟩
  obtain ⟨slots, rest, routing⟩ := setSlot_parked p tag
    { setFloatWaiters (s.float.waiters ++ [{ port := p, tag, ask, ops, park, elapsed := 0, stamp := s.stamp }]) s with
      stamp := s.stamp + 1 }
  exact ⟨slots, rest, routing⟩

/-! ## A request for a float or a top-up (R48, R50) -/

/-- A ready request whose operators pass is attempted in the state in which it is taken up. -/
theorem floatRequest_ready {code : Nat} {level : Level} (ask : FloatAsk) (isReady : ready s h = true)
    (hg : granted code h.port = true) (allowed : authorise level h s = none) :
    floatRequest h code level (some ask) s
      = finish (floatArrival h.port h.tag (recordedOps level h) ask (accepted h code s)) := by
  rw [floatRequest, request_ready h code _ s isReady hg]
  simp only [authorise_accepted, allowed]

variable {p : Port} {tag : Tag} {ops : List Nat} {ask : FloatAsk}

theorem floatArrival_done {t : State} {fields : List Field} (made : floatTry p ops ask s = .done t fields) :
    floatArrival p tag ops ask s = dismissRivals ask (answer p tag .ok 0 fields t) := by
  rw [floatArrival, made]

theorem floatArrival_short {short : Int} (lacks : floatTry p ops ask s = .short short) :
    floatArrival p tag ops ask s = raiseReserveLow short (parkFloat p tag ops ask .stock s) := by
  rw [floatArrival, lacks]

/-! ## The attempt (R48, R50) -/

section Store

variable {kind : MoveKind} {i : TillIx} {mask : BitVec 16} {template : Option Counts} {target : Nat} {after : State → State}
  {results : State → List Field} {c : CompIx} {made : Counts × Int} (hc : reserve s = some c)
  (composed : compose s.store.denoms (holding s (.comp c)) mask template target = made)
include hc composed

/-- The composition falls short (R51). -/
theorem floatStore_short (lacks : made.2 ≠ 0) :
    floatStore kind i mask template target p ops after results s = .short made.2 := by
  simp only [floatStore, hc, composed]
  exact if_pos lacks

/-- The composed vector passes the Store's checks, and moves. -/
theorem floatStore_done (meets : made.2 = 0) (pass : checkMovement 1 (floatMove kind c i made.1 p ops) s = .pass) :
    floatStore kind i mask template target p ops after results s
      = .done (evaluate i (after (storeEvent [floatMove kind c i made.1 p ops] false s)))
        (results (evaluate i (after (storeEvent [floatMove kind c i made.1 p ops] false s)))
          ++ [.items made.1, .value target, .u32 s.store.journal.nextSeq]) := by
  simp only [floatStore, hc, composed]
  rw [if_neg (not_not.mpr meets), pass]

end Store

/-- What a float changes beside its movement: the till's record and the totals (R48). -/
def floatBooked (i : TillIx) (q : ProfileIx) (prof : Profile) (s : State) : State :=
  let s := modTill i (fun r => issuedTill r q prof) (report s)
  { s with store := { s.store with totals := { s.store.totals with
    floatCount := s.store.totals.floatCount + 1, floatValue := s.store.totals.floatValue + prof.target } } }

/-- The session number given is the one after the till's present one, and each total gains what is issued (R14, R48). -/
theorem floatBooked_eq {i : TillIx} {q : ProfileIx} {prof : Profile} {session : Nat} {totals : DayTotals}
    (hs : ((tillOf s i).session + 1) % 65536 = session) (ht : s.store.totals = totals) :
    floatBooked i q prof s = { modTill i (fun r => { r with
          state := .trading, session, profile := some q, mask := prof.mask, f := prof.target, topups := 0, signedOff := false
          running := none, final := none, pouches := [], p := 0, hold := HoldReasons.empty, armed := true }) (report s) with
        store := { s.store with totals := { totals with
          floatCount := totals.floatCount + 1, floatValue := totals.floatValue + prof.target } } } := by
  subst hs ht
  rfl

/-- What a top-up changes beside its movement (R50). -/
def topupBooked (i : TillIx) (v : Nat) (s : State) : State :=
  let s := modTill i (fun r => { r with f := r.f + v, topups := r.topups + 1 }) s
  { s with store := { s.store with totals := { s.store.totals with
    topupCount := s.store.totals.topupCount + 1, topupValue := s.store.totals.topupValue + v } } }

section Open

variable (sound : s.retention.suspect = false) (opened : s.day.state = .opened) {i : TillIx}
include sound opened

theorem floatTry_float {q : ProfileIx} (idle : (tillOf s i).state = .idle)
    (fits : profileOk s.store.denoms (look s.float.profiles q) = true) :
    floatTry p ops (.float i q) s = floatStore .issue i (look s.float.profiles q).mask (some (look s.float.profiles q).template)
      (look s.float.profiles q).target p ops (floatBooked i q (look s.float.profiles q))
      (fun u => [.u16 (tillOf u i).session]) s := by
  simp only [floatTry, sound, opened, idle, fits]
  rfl

theorem floatTry_topup {v : Nat} (trading : (tillOf s i).state = .trading) (signedOn : (tillOf s i).signedOff = false)
    (few : (tillOf s i).topups < 3) :
    floatTry p ops (.topup i v) s
      = floatStore .topup i (tillOf s i).mask none v p ops (topupBooked i v) (fun _ => []) s := by
  have room : ¬ Config.maxTopups ≤ (tillOf s i).topups := few.not_ge
  simp only [floatTry, sound, opened, trading, signedOn, room]
  rfl

end Open

/-! ## The request carried through to its end -/

/-- The session number that a float answers is the one it gives (R48). -/
theorem session_floatBooked (i : TillIx) (q : ProfileIx) (prof : Profile) (s : State) :
    (tillOf (evaluate i (floatBooked i q prof s)) i).session = ((tillOf s i).session + 1) % 65536 := by
  have record : tillOf (floatBooked i q prof s) i = issuedTill (tillOf s i) q prof :=
    (tillOf_modTill i i (fun r => issuedTill r q prof) (report s)).trans (if_pos rfl)
  rw [tillOf_evaluate, record]
  rfl

theorem tillOf_storeEvent (ms : List Movement) (hold : Bool) (s : State) (i : TillIx) :
    tillOf (storeEvent ms hold s) i = tillOf s i := by
  simp [tillOf]

/-- The float of a profile composed from a reserve's holding, with its shortfall (R46, R47). -/
def floatComposed (s : State) (c : CompIx) (q : ProfileIx) : Counts × Int :=
  compose s.store.denoms (holding s (.comp c)) (look s.float.profiles q).mask (some (look s.float.profiles q).template)
    (look s.float.profiles q).target

/-- A top-up composed from a reserve's holding by the second stage alone, with its shortfall (R47, R50). -/
def topupComposed (s : State) (c : CompIx) (i : TillIx) (v : Nat) : Counts × Int :=
  compose s.store.denoms (holding s (.comp c)) (tillOf s i).mask none v

section Taken

variable {code : Nat} {i : TillIx} {c : CompIx} (sound : s.retention.suspect = false) (opened : s.day.state = .opened)
  (hc : reserve s = some c)
include sound opened hc

section Float

variable {q : ProfileIx} (idle : (tillOf s i).state = .idle) (fits : profileOk s.store.denoms (look s.float.profiles q) = true)
include idle fits

/-- A float that the reserve falls short of parks, with RESERVE_LOW (R51). -/
theorem float_short (lacks : (floatComposed s c q).2 ≠ 0) :
    finish (floatArrival h.port h.tag ops (.float i q) (accepted h code s))
      = ended (raiseReserveLow (floatComposed s c q).2
        (parkFloat h.port h.tag ops (.float i q) .stock (accepted h code s))) := by
  have attempt := floatTry_float (s := accepted h code s) (p := h.port) (ops := ops) (by simpa) (by simpa) (i := i) (q := q)
    (by simpa) (by simpa)
  rw [floatStore_short (c := c) (by simpa using hc) (made := floatComposed s c q) (by simp [floatComposed]) lacks] at attempt
  rw [floatArrival_short attempt]
  exact finish_plain _ (by simp)

/-- A float composed and passed (R48). -/
theorem float_done (meets : (floatComposed s c q).2 = 0)
    (pass : checkMovement 1 (floatMove .issue c i (floatComposed s c q).1 h.port ops) s = .pass) :
    floatArrival h.port h.tag ops (.float i q) (accepted h code s)
      = dismissRivals (.float i q) (answer h.port h.tag .ok 0
          [.u16 (((tillOf s i).session + 1) % 65536), .items (floatComposed s c q).1, .value (look s.float.profiles q).target,
            .u32 s.store.journal.nextSeq]
          (evaluate i (floatBooked i q (look s.float.profiles q)
            (storeEvent [floatMove .issue c i (floatComposed s c q).1 h.port ops] false (accepted h code s))))) := by
  have attempt := floatTry_float (s := accepted h code s) (p := h.port) (ops := ops) (by simpa) (by simpa) (i := i) (q := q)
    (by simpa) (by simpa)
  rw [floatStore_done (c := c) (by simpa using hc) (made := floatComposed s c q) (by simp [floatComposed]) meets
    (((checkedAlike_accepted h code s).checkMovement ..).trans pass)] at attempt
  simp only [accepted_frame] at attempt
  rw [floatArrival_done attempt, session_floatBooked, tillOf_storeEvent, tillOf_accepted]
  rfl

end Float

/-- A top-up composed and passed (R50). -/
theorem topup_done {v : Nat} (trading : (tillOf s i).state = .trading) (signedOn : (tillOf s i).signedOff = false)
    (few : (tillOf s i).topups < 3) (meets : (topupComposed s c i v).2 = 0)
    (pass : checkMovement 1 (floatMove .topup c i (topupComposed s c i v).1 h.port ops) s = .pass) :
    floatArrival h.port h.tag ops (.topup i v) (accepted h code s)
      = answer h.port h.tag .ok 0 [.items (topupComposed s c i v).1, .value v, .u32 s.store.journal.nextSeq]
          (evaluate i (topupBooked i v
            (storeEvent [floatMove .topup c i (topupComposed s c i v).1 h.port ops] false (accepted h code s)))) := by
  have attempt := floatTry_topup (s := accepted h code s) (p := h.port) (ops := ops) (v := v) (by simpa) (by simpa) (i := i)
    (by simpa) (by simpa) (by simpa)
  rw [floatStore_done (c := c) (by simpa using hc) (made := topupComposed s c i v) (by simp [topupComposed]) meets
    (((checkedAlike_accepted h code s).checkMovement ..).trans pass)] at attempt
  simp only [accepted_frame] at attempt
  rw [floatArrival_done attempt, dismissRivals_topup]
  rfl

end Taken

/-- A top-up records its operator where it comes from the Office Port, and none from the Till Port (R19, R50). -/
theorem recordedOps_topup (h : Req) : recordedOps (topupLevel h) h = if h.port = .office then [h.op1] else [] := by
  unfold topupLevel
  cases h.port <;> rfl

/-- What either port's top-up passes before it is attempted (R18, R50, R192). -/
theorem topup_admitted (gate : (officeReady s h = true ∧ authorise .one h s = none) ∨ tillReady s h = true) :
    ready s h = true ∧ granted 0x22 h.port = true ∧ authorise (topupLevel h) h s = none := by
  obtain ⟨hr, allowed⟩ | hr := gate
  · obtain ⟨isReady, port⟩ := officeReady_iff.mp hr
    rw [topupLevel, port]
    exact ⟨isReady, rfl, allowed⟩
  · obtain ⟨isReady, port⟩ := tillReady_iff.mp hr
    rw [topupLevel, port]
    exact ⟨isReady, rfl, rfl⟩

/-- Settles O28: the rivals, the parking, and the request of either port carried through to its answer or its place in the list. -/
theorem floatIssued : Obligations.FloatIssued := by
  refine ⟨fun s i p v short => ⟨dismissRivals_topup i v s, ?_, raiseReserveLow_none short,
      fun c => raiseReserveLow_some short⟩,
    fun s p tag ops ask park => parkFloat_parked p tag ops ask park s, ?_⟩
  · exact (dismissFloats_answers _ _ s).congr fun w => by cases w.ask <;> rfl
  · intro s h i q c office gate sound opened idle fits hc a cmd ops prof made m session
    have asked : floatArg i.1 q.1 = some (.float i q) := by simp [floatArg]
    have taken : exec cmd s = .next (finish (floatArrival h.port h.tag ops (.float i q) a)) := by
      cases office with
      | true =>
        obtain ⟨hr, allowed⟩ := gate
        obtain ⟨isReady, port⟩ := officeReady_iff.mp hr
        exact congrArg Host.Outcome.next (asked ▸ floatRequest_ready (.float i q) isReady (port ▸ rfl) allowed)
      | false =>
        obtain ⟨isReady, port⟩ := tillReady_iff.mp gate
        exact congrArg Host.Outcome.next (asked ▸ floatRequest_ready (.float i q) isReady (port ▸ rfl) rfl)
    refine ⟨fun meets pass => ?_, fun lacks => ?_⟩
    · have totals : (storeEvent [m] false a).store.totals = s.store.totals := by simp [a]
      have given : ((tillOf (storeEvent [m] false a) i).session + 1) % 65536 = session := by
        rw [tillOf_storeEvent, tillOf_accepted]
      rw [taken, float_done (ops := ops) sound opened hc idle fits meets pass]
      refine congrArg (fun u => Host.Outcome.next (finish (dismissRivals _ (answer _ _ _ _ _ (evaluate i u))))) ?_
      exact floatBooked_eq given totals
    · rw [taken]
      exact congrArg Host.Outcome.next (float_short sound opened hc idle fits lacks)

/-- Settles O29: the top-up of either port carried through to its answer. -/
theorem topupMade : Obligations.TopupMade := by
  intro s h i v c gate low high sound opened trading signedOn few hc a made m meets pass moved entered
  have asked : topupArg i.1 v = some (.topup i v) := by simp [topupArg, valueIn_max low high]
  have taken : exec (.requestTopup h i.1 v) s = .next (finish (floatArrival h.port h.tag m.ops (.topup i v) a)) := by
    obtain ⟨isReady, hg, allowed⟩ := topup_admitted gate
    have ops : m.ops = recordedOps (topupLevel h) h := (recordedOps_topup h).symm
    rw [ops]
    exact congrArg Host.Outcome.next (asked ▸ floatRequest_ready (.topup i v) isReady hg allowed)
  have totals : moved.store.totals = s.store.totals := by simp [moved, a]
  have event : entered.event = Scratch.empty := by simp [entered, moved, a]
  have answered := replied_plain h .ok [.items made.1, .value v, .u32 s.store.journal.nextSeq] (evaluate i entered)
    (by simp [event])
  rw [taken, topup_done (ops := m.ops) sound opened hc trading signedOn few meets pass]
  refine congrArg Host.Outcome.next (Eq.trans ?_ answered)
  dsimp only [entered]
  rw [← totals]
  rfl

end Sys2Proof.Machine
end

section
/-! SIGN OFF, WITHDRAW TILL, RETURN DRAWER, SUSPEND TILL and RESTORE TILL (R54, R63 to R66). -/

namespace Sys2Proof.Machine

variable {s : State} {h : Req} {i : TillIx}

theorem dismissTopups_answers (i : TillIx) (s : State) :
    FloatsAnswered (fun w => match w.ask with | .float _ _ => false | .topup j _ => decide (j = i)) .badState s
      (dismissTopups i s) :=
  (dismissFloats_answers _ _ s).congr fun w => by cases w.ask <;> rfl

/-! ## The Till Port's requests (R54, R63) -/

theorem signOff_settled (hr : tillReady s h = true) (out : (tillOf s i).state = .trading ∨ (tillOf s i).state = .suspended)
    (signedOn : (tillOf s i).signedOff = false) :
    exec (.signOff h i.1) s
      = .next (settled h .ok [] (dismissTopups i (modTill i (fun r => { r with signedOff := true }) (accepted h 0x26 s)))) := by
  have reply : replySignOff i.1 (accepted h 0x26 s)
      = Reply.ok [] (dismissTopups i (modTill i (fun r => { r with signedOff := true }) (accepted h 0x26 s))) := by
    obtain state | state := out <;> simp [replySignOff, state, signedOn]
  exact congrArg Host.Outcome.next (till_answered hr rfl reply (by simp))

theorem signOff_again (hr : tillReady s h = true) (out : (tillOf s i).state = .trading ∨ (tillOf s i).state = .suspended)
    (signedOff : (tillOf s i).signedOff = true) :
    exec (.signOff h i.1) s = .next (settled h .ok [] (accepted h 0x26 s)) := by
  have reply : replySignOff i.1 (accepted h 0x26 s) = Reply.ok [] (accepted h 0x26 s) := by
    obtain state | state := out <;> simp [replySignOff, state, signedOff]
  exact congrArg Host.Outcome.next (till_answered hr rfl reply (by simp))

theorem withdrawTill_settled (hr : tillReady s h = true) (i : TillIx) :
    exec (.withdrawTill h i.1) s
      = .next (settled h .ok [.u8 (s.float.waiters.filter (tillPortWaiter i)).length]
          (dismissFloats (tillPortWaiter i) .withdrawn (accepted h 0x27 s))) := by
  have reply : replyWithdrawTill i.1 (accepted h 0x27 s) = Reply.ok [.u8 (s.float.waiters.filter (tillPortWaiter i)).length]
      (dismissFloats (tillPortWaiter i) .withdrawn (accepted h 0x27 s)) := by
    simp [replyWithdrawTill]
  exact congrArg Host.Outcome.next (till_answered hr rfl reply (by simp))

/-! ## The Office Port's requests (R64 to R66) -/

theorem returnDrawer_replied (hr : officeReady s h = true) (day : s.day.state ≠ .closed)
    (out : (tillOf s i).state = .trading ∨ (tillOf s i).state = .suspended) :
    exec (.returnDrawer h i.1) s
      = .next (replied h .ok [] (dismissTopups i (moveTill i .returned (accepted h 0x28 s)))) := by
  have reply : replyReturnDrawer i.1 (accepted h 0x28 s)
      = Reply.ok [] (dismissTopups i (moveTill i .returned (accepted h 0x28 s))) := by
    obtain state | state := out <;> simp [replyReturnDrawer, day, state]
  exact congrArg Host.Outcome.next (office_replied_ok hr rfl reply)

theorem suspendTill_replied (hr : officeReady s h = true) (trading : (tillOf s i).state = .trading) :
    exec (.suspendTill h i.1) s
      = .next (replied h .ok [] (dismissTopups i (moveTill i .suspended (accepted h 0x29 s)))) := by
  have reply : replySuspendTill i.1 (accepted h 0x29 s)
      = Reply.ok [] (dismissTopups i (moveTill i .suspended (accepted h 0x29 s))) := by
    simp [replySuspendTill, trading]
  exact congrArg Host.Outcome.next (office_replied_ok hr rfl reply)

theorem restoreTill_replied (hr : officeReady s h = true) (day : s.day.state ≠ .closed)
    (suspended : (tillOf s i).state = .suspended) :
    exec (.restoreTill h i.1) s
      = .next (replied h .ok [] (evaluate i (moveTill i .trading (accepted h 0x2A s)))) := by
  have reply : replyRestoreTill i.1 (accepted h 0x2A s) = Reply.ok [] (evaluate i (moveTill i .trading (accepted h 0x2A s))) := by
    simp [replyRestoreTill, day, suspended]
  exact congrArg Host.Outcome.next (office_replied_ok hr rfl reply)

/-- Settles O31: the five requests, and the float waiters and top-ups answered. -/
theorem tillStateRequests : Obligations.TillStateRequests :=
  ⟨fun _ _ i hr => ⟨signOff_settled hr, signOff_again hr, withdrawTill_settled hr i⟩,
    fun _ _ _ hr => ⟨returnDrawer_replied hr, suspendTill_replied hr, restoreTill_replied hr⟩,
    fun s i sel k => ⟨dismissFloats_answers sel k s, dismissTopups_answers i s⟩⟩

end Sys2Proof.Machine
end

section
/-! WITHDRAW (R54, R90, R132, R194): the tags it ends and the tags it reports, and what the end of a parked and of a running
request does. -/

namespace Sys2Proof.Machine

variable {s t : State} {p : Port} {tag : Tag}

/-! ## The ports -/

theorem portOf_congr (h : t.ports = s.ports) (p : Port) : portOf t p = portOf s p := by
  cases p <;> simp [portOf, h]

theorem slotOf_congr (h : t.ports = s.ports) (p : Port) (tag : Tag) : slotOf t p tag = slotOf s p tag := by
  rw [slotOf, slotOf, portOf_congr h]

/-- What WITHDRAWN leaves on its own port, where the state answered has the ports of the state found. -/
theorem withdrawn_answer (h : t.ports = s.ports) :
    (slotOf (answer p tag .withdrawn 0 [] t) p tag).state = .answered
    ∧ (portOf (answer p tag .withdrawn 0 [] t) p).responses = (portOf s p).responses
      ++ framesOf { tag := tag.1, code := (slotOf s p tag).code, outcome := .withdrawn, detail := 0, results := [] } := by
  rw [slotOf_answer, if_pos rfl, portOf_answer, if_pos rfl, portOf_congr h, slotOf_congr h]
  exact ⟨rfl, rfl⟩

theorem notices_answer (q : Port) (c : Code) (h : t.ports = s.ports) :
    (portOf (answer p tag c 0 [] t) q).notices = (portOf s q).notices := by
  rw [portOf_answer, portOf_congr h, portOf_congr h]
  split
  · next port => rw [port]
  · rfl

/-! ## The tags withdrawn and the tags reported (R194) -/

theorem outstanding_eq (s : State) (p : Port) :
    outstanding s p = fun t => decide ((slotOf s p t).state = .parked ∨ (slotOf s p t).state = .running) := by
  funext t
  rw [Bool.decide_or]
  rfl

theorem not_outstanding_eq (s : State) (p : Port) : (fun t => !outstanding s p t)
    = fun t => decide ((slotOf s p t).state ≠ .parked ∧ (slotOf s p t).state ≠ .running) := by
  funext t
  rw [outstanding_eq, ← decide_not]
  exact decide_eq_decide.mpr not_or

/-- Every port may make the request (R192, R194). -/
theorem granted_withdraw (p : Port) : granted 0x81 p = true := by cases p <;> rfl

theorem withdraw_replied {h : Req} (tags : BitVec 8) (isReady : ready s h = true) :
    exec (.withdraw h tags) s = .next (replied h .ok
      [.u8 (tagBits ((tagsOf tags).filter (outstanding (accepted h 0x81 s) h.port))),
        .u8 (tagBits ((tagsOf tags).filter fun t => !outstanding (accepted h 0x81 s) h.port t))]
      (((tagsOf tags).filter (outstanding (accepted h 0x81 s) h.port)).foldl (fun x t => withdrawTag h.port t x)
        (accepted h 0x81 s))) :=
  congrArg Host.Outcome.next (immediate_ready h 0x81 _ s isReady (granted_withdraw h.port))

/-! ## A parked request (R54, R90, R132) -/

/-- The waiter of a port and tag gone from whichever list holds it. -/
def unqueued (p : Port) (tag : Tag) (s : State) : State :=
  discardAccess (isAccessWaiter p tag) (discardCounts (isCountWaiter p tag) (discardFloats (isFloatWaiter p tag) s))

theorem withdrawTag_parked (parked : (slotOf s p tag).state = .parked) :
    withdrawTag p tag s = answer p tag .withdrawn 0 [] (unqueued p tag s) := by
  rw [withdrawTag, parked]
  rfl

/-- No waiter that a filter by port and tag leaves is of that port and tag. -/
theorem not_mine_of_mem {α : Type} {port : α → Port} {tags : α → Tag} {l : List α} {w : α}
    (h : w ∈ l.filter fun w => !(port w == p && tags w == tag)) : ¬ (port w = p ∧ tags w = tag) := by
  rintro ⟨rfl, rfl⟩
  simpa using (List.mem_filter.mp h).2

theorem withdrawTag_parked_facts (parked : (slotOf s p tag).state = .parked) :
    let t := withdrawTag p tag s
    (slotOf t p tag).state = .answered
      ∧ (portOf t p).responses = (portOf s p).responses
          ++ framesOf { tag := tag.1, code := (slotOf s p tag).code, outcome := .withdrawn, detail := 0, results := [] }
      ∧ (∀ w ∈ t.float.waiters, ¬ (w.port = p ∧ w.tag = tag)) ∧ (∀ w ∈ t.count.waiters, ¬ (w.port = p ∧ w.tag = tag))
      ∧ (∀ w ∈ t.safe.waiters, ¬ (w.port = p ∧ w.tag = tag))
      ∧ t.store = s.store ∧ t.day = s.day ∧ t.recon = s.recon ∧ t.courier = s.courier := by
  dsimp only
  rw [withdrawTag_parked parked]
  obtain ⟨slot, responses⟩ := withdrawn_answer (p := p) (tag := tag) (show (unqueued p tag s).ports = s.ports from rfl)
  refine ⟨slot, responses, fun w hw => ?_, fun w hw => ?_, fun w hw => ?_, ?_⟩
  · rw [(answer_frame ..).2.2.1] at hw
    exact not_mine_of_mem hw
  · rw [(answer_frame ..).2.2.2.1] at hw
    exact not_mine_of_mem hw
  · rw [(answer_frame ..).2.2.2.2.2.1] at hw
    exact not_mine_of_mem hw
  · simp [unqueued]

/-! ## A running count (R90, R183) -/

theorem withdrawTag_running {r : RunningCount} (running : (slotOf s p tag).state = .running) (hr : s.count.running = some r)
    (port : r.port = p) (mine : r.tag = tag) : withdrawTag p tag s = answer p tag .withdrawn 0 [] (abandoned r s) := by
  have runs : runsFor s p tag = true := by simp [runsFor, hr, port, mine]
  rw [withdrawTag, running]
  simp only [runs, if_true, abandonCount_eq hr]

theorem holding_abandoned (r : RunningCount) (s : State) (c : Container) : holding (abandoned r s) c = holding s c := by
  cases c <;> rfl

/-- Settles O45: the tags sorted by their slots, and the end of a parked and of a running request. -/
theorem withdrawEndsRequests : Obligations.WithdrawEndsRequests := by
  refine ⟨fun s h tags isReady => ?_, fun s p tag parked => withdrawTag_parked_facts parked,
    fun s p tag r running hr port mine => ?_⟩
  · have replied := withdraw_replied tags isReady
    rw [not_outstanding_eq, outstanding_eq] at replied
    exact replied
  · obtain ⟨slot, responses⟩ := withdrawn_answer (p := p) (tag := tag) (show (abandoned r s).ports = s.ports from rfl)
    dsimp only
    rw [withdrawTag_running running hr port mine]
    obtain ⟨store, day, float, count, recon, safe, courier, -, -, event, -⟩ :=
      answer_frame p tag .withdrawn 0 [] (abandoned r s)
    refine ⟨rfl, slot, responses, ?_⟩
    rw [store, day, float, count, recon, safe, courier, event]
    refine ⟨rfl, rfl, rfl, rfl, rfl, rfl, ?_, fun o other => ?_, rfl, rfl, fun c => ?_, fun q => notices_answer q _ rfl, rfl, rfl,
      rfl, rfl, rfl, rfl, rfl⟩
    · rw [trayOf, count]
      exact look_put_self ..
    · rw [trayOf, count]
      exact look_put_ne _ _ other
    · rw [holding_congr _ _ store, holding_abandoned]

end Sys2Proof.Machine
end

section
/-! Frames and lines of the ports (R188 to R192, R195, R202, R205), and the requests that a link reset drops (R54, R92, R132,
R177). -/

namespace Sys2Proof.Machine

variable {s : State} {p : Port}

/-! ## The record of one port -/

/-- Two changes of a port that agree on its present record are one. -/
theorem modPort_congr {f g : PortRec → PortRec} (same : f (portOf s p) = g (portOf s p)) : modPort p f s = modPort p g s := by
  have fixed (k : PortRec → PortRec) : modPort p k s = modPort p (fun _ => k (portOf s p)) s := by cases p <;> rfl
  rw [fixed f, same, ← fixed g]

theorem modPort_same {f : PortRec → PortRec} (same : f (portOf s p) = portOf s p) : modPort p f s = s := by
  refine (modPort_congr (g := id) same).trans ?_
  cases p <;> rfl

theorem portOf_heard (p : Port) (s : State) : portOf (heard p s) p = { portOf s p with link := .active } := by
  cases p <;> rfl

/-! ## Frames that are no request of a slot (R189, R192, R202) -/

theorem frameDiscarded_ended (good : s.retention.supply = .good) (cause : DiscardCause) :
    exec (.frameDiscarded p cause) s = .next (ended (begun s)) :=
  congrArg Host.Outcome.next (happening_plain _ s good rfl)

theorem unknownRequestCode_settled {h : Req} (code : Nat) (isReady : ready s h = true) :
    exec (.unknownRequestCode h.port h.tag code) s = .next (settled h .badOperand [] (accepted h code s)) := by
  simp only [ready, Bool.and_eq_true, beq_iff_eq] at isReady
  obtain ⟨receives, free⟩ := isReady
  have slot : (slotOf (heard h.port { s with event := Scratch.empty }) h.port h.tag).state = .free := by
    rw [slotOf, portOf_heard]
    exact free
  have taken : framed h.port h.tag code (answer h.port h.tag .badOperand 0 []) s
      = finish (answer h.port h.tag .badOperand 0 [] (accepted h code s)) := by
    simp [framed, receives, slot, accepted]
  exact congrArg Host.Outcome.next (taken.trans (replied_plain h .badOperand [] _ (by simp)))

/-- The answer to a malformed tag, once while one waits (R202). -/
theorem badTagFrame_ended {tag : Nat} (code : Nat) (receives : canReceive s p = true) (malformed : 7 < tag) :
    exec (.badTagFrame p tag code) s = .next (ended (modPort p (malformedTag tag code) (heard p (begun s)))) := by
  have taken : (canReceive s p && decide (7 < tag)) = true := by simp [receives, malformed]
  refine congrArg Host.Outcome.next ((if_pos taken).trans ?_)
  exact finish_plain _ (by simp)

/-- The record with the answer to a malformed tag at the end of its responses. -/
def tagAnswered (tag code : Nat) (r : PortRec) : PortRec :=
  { r with responses := r.responses ++ framesOf { tag, code, outcome := .badOperand, detail := 0, results := [] } }

theorem malformedTag_first {tag : Nat} (code : Nat) {r : PortRec} (first : responseWaiting r tag = false) :
    malformedTag tag code r = tagAnswered tag code r := if_neg (Bool.eq_false_iff.mp first)

theorem malformedTag_again {tag : Nat} (code : Nat) {r : PortRec} (waits : responseWaiting r tag = true) :
    malformedTag tag code r = r := if_pos waits

theorem badTagFrame_answered {tag : Nat} (code : Nat) (receives : canReceive s p = true) (malformed : 7 < tag)
    (first : responseWaiting (portOf s p) tag = false) :
    exec (.badTagFrame p tag code) s = .next (ended (modPort p (tagAnswered tag code) (heard p (begun s)))) := by
  have fresh : responseWaiting (portOf (heard p (begun s)) p) tag = false := by
    rw [portOf_heard]
    exact first
  rw [badTagFrame_ended code receives malformed, modPort_congr (malformedTag_first code fresh)]

theorem badTagFrame_again {tag : Nat} (code : Nat) (receives : canReceive s p = true) (malformed : 7 < tag)
    (waits : responseWaiting (portOf s p) tag = true) :
    exec (.badTagFrame p tag code) s = .next (ended (heard p (begun s))) := by
  have still : responseWaiting (portOf (heard p (begun s)) p) tag = true := by
    rw [portOf_heard]
    exact waits
  rw [badTagFrame_ended code receives malformed, modPort_same (malformedTag_again code still)]

/-! ## The line (R190, R195, R205) -/

theorem linkReset_taken (good : s.retention.supply = .good) (link : (portOf s p).link ≠ .brk) :
    exec (.linkReset p) s = .next (finish (dropRequests p (modPort p PortRec.afterBreak (begun s)))) :=
  congrArg Host.Outcome.next ((if_neg link).trans (happening_good _ s good))

theorem linkReset_again (link : (portOf s p).link = .brk) : exec (.linkReset p) s = .next s :=
  congrArg Host.Outcome.next (if_pos link)

theorem linkReturnsMarking_ended (good : s.retention.supply = .good) (link : (portOf s p).link = .brk) :
    exec (.linkReturnsMarking p) s = .next (ended (modPort p (fun r => { r with link := .quiet }) (begun s))) :=
  congrArg Host.Outcome.next ((if_pos link).trans (happening_plain _ s good (by simp [begun])))

/-- A frame sent is what `lineDone` makes of the port's record. -/
theorem frameTransmitted_ended (good : s.retention.supply = .good) {f : PortRec → PortRec}
    (done : lineDone (portOf s p) = f (portOf s p)) :
    exec (.frameTransmitted p) s = .next (ended (modPort p f (begun s))) := by
  have same : modPort p lineDone (begun s) = modPort p f (begun s) := modPort_congr (s := begun s) done
  rw [← same]
  exact congrArg Host.Outcome.next (happening_plain _ s good (by simp [begun]))

theorem lineDone_response {r : PortRec} {x : Response} {k : Nat} {t : Tag} (line : r.line = some (.response x k))
    (tag : x.tag = t.1) : lineDone r = if lastPart x k then
      { r with line := none, slots := put r.slots t { look r.slots t with state := .free } } else { r with line := none } := by
  simp only [lineDone, line, tag, index?_val]

theorem lineDone_other {r : PortRec} {f : Frame} (line : r.line = some f) (other : ∀ x k, f ≠ .response x k) :
    lineDone r = { r with line := none } := by
  cases f with
  | response x k => exact absurd rfl (other x k)
  | reject tag => simp only [lineDone, line]
  | notice n dropped => simp only [lineDone, line]

/-! ## The requests a link reset drops (R54, R92, R132, R177) -/

/-- The count in progress abandoned where the port started it (R92). -/
def unrun (p : Port) (s : State) : State :=
  match s.count.running with
  | some r => if r.port = p then abandoned r s else s
  | none => s

/-- The port's requests gone from the owners, with no answer. -/
def forgotten (p : Port) (s : State) : State :=
  { unrun p s with
    float := { (unrun p s).float with waiters := (unrun p s).float.waiters.filter fun w => w.port ≠ p }
    count := { (unrun p s).count with waiters := (unrun p s).count.waiters.filter fun w => w.port ≠ p }
    safe := { (unrun p s).safe with waiters := (unrun p s).safe.waiters.filter fun w => w.port ≠ p } }

theorem unrun_courier (p : Port) (s : State) : (unrun p s).courier = s.courier := by
  unfold unrun
  split
  · split <;> rfl
  · rfl

/-- Whether the port started the count in progress. -/
def runsOn (p : Port) (s : State) : Bool :=
  match s.count.running with
  | some r => r.port == p
  | none => false

theorem abandonCount_runsOn (p : Port) (s : State) : (if runsOn p s then abandonCount s else s) = unrun p s := by
  cases hr : s.count.running with
  | none => simp [runsOn, unrun, hr]
  | some r => by_cases port : r.port = p <;> simp [runsOn, unrun, hr, port, abandonCount_eq hr]

theorem unrun_discardFloats (p : Port) (sel : FloatWaiter → Bool) (s : State) :
    unrun p (discardFloats sel s) = discardFloats sel (unrun p s) := by
  cases hr : s.count.running with
  | none => simp [unrun, hr]
  | some r =>
    have alike : abandoned r (discardFloats sel s) = discardFloats sel (abandoned r s) := rfl
    by_cases port : r.port = p <;> simp [unrun, hr, port, alike]

theorem dropRequests_eq (p : Port) (s : State) : dropRequests p s = match p with
    | .courier => abortAny .linkReset (forgotten p s)
    | .office => forgotten p s
    | .till => forgotten p s := by
  have gone : discardAccess (fun w => w.port == p) (discardCounts (fun w => w.port == p)
      (if runsOn p (discardFloats (fun w => w.port == p) s) then abandonCount (discardFloats (fun w => w.port == p) s)
        else discardFloats (fun w => w.port == p) s)) = forgotten p s := by
    rw [abandonCount_runsOn, unrun_discardFloats]
    have other (q : Port) : (!(q == p)) = decide (q ≠ p) := (decide_not ..).symm
    simp only [discardAccess, discardCounts, discardFloats, setAccessWaiters, setCountWaiters, setFloatWaiters, modCount, other]
    rfl
  rw [← gone]
  rfl

theorem dropRequests_alone (alone : p ≠ .courier ∨ s.courier.session = none) : dropRequests p s = forgotten p s := by
  rw [dropRequests_eq]
  cases p with
  | courier =>
    have none : (forgotten .courier s).courier.session = none := by
      rw [forgotten, unrun_courier]
      exact alone.resolve_left (not_not.mpr rfl)
    simp only [abortAny, none]
  | office => rfl
  | till => rfl

theorem dropRequests_session {x : Session} (session : s.courier.session = some x) :
    dropRequests .courier s = abortSession .linkReset x (forgotten .courier s) := by
  have same : (forgotten .courier s).courier.session = some x := by
    rw [forgotten, unrun_courier]
    exact session
  rw [dropRequests_eq]
  simp only [abortAny, same]

/-- Settles O46: the frames and lines one by one, and what a reset drops. -/
theorem portEvents : Obligations.PortEvents := by
  refine ⟨fun s p good => ⟨fun cause => frameDiscarded_ended good cause, linkReset_taken good,
      fun link => ⟨linkReset_again link, linkReturnsMarking_ended good link⟩,
      fun r k t line tag => ⟨fun last => ?_, fun more => ?_⟩,
      fun f line other => frameTransmitted_ended good (lineDone_other line other)⟩,
    fun s h code isReady => unknownRequestCode_settled code isReady,
    fun s p tag code receives malformed => ⟨badTagFrame_answered code receives malformed,
      badTagFrame_again code receives malformed⟩,
    fun s p => ⟨dropRequests_alone, ?_⟩⟩
  · exact frameTransmitted_ended good ((lineDone_response line tag).trans (if_pos last))
  · exact frameTransmitted_ended good ((lineDone_response line tag).trans (if_neg (Bool.eq_false_iff.mp more)))
  · rintro x rfl session
    exact dropRequests_session session

end Sys2Proof.Machine
end

section
/-! The wait limits and the idle limit (R53, R85, R116, R131, R165), the owed re-try pass over the float waiters (R51, R52), and the
refusals of an attempt (R48, R50). -/

namespace Sys2Proof.Machine

variable {s : State} {p : Port} {tag : Tag}

/-! ## Expiries (R53, R85, R116, R131) -/

section Float

variable {w : FloatWaiter} (found : s.float.waiters.find? (isFloatWaiter p tag) = some w)
include found

theorem floatExpires_due (due : s.float.waitInForce ≤ w.elapsed) : floatExpires p tag s
    = answer p tag .expired (if w.park = .stock then 1 else 2) [] (discardFloats (isFloatWaiter p tag) s) := by
  simp only [floatExpires, found]
  exact if_pos due

theorem floatExpires_early (early : w.elapsed < s.float.waitInForce) : floatExpires p tag s = s := by
  simp only [floatExpires, found]
  exact if_neg early.not_ge

end Float

section Count

variable {w : CountWaiter} (found : s.count.waiters.find? (isCountWaiter p tag) = some w)
include found

theorem countExpires_due (due : s.count.waitInForce ≤ w.elapsed) : countExpires p tag s
    = answer p tag .expired (if w.park = .counter then 3 else 4) [] (discardCounts (isCountWaiter p tag) s) := by
  simp only [countExpires, found]
  exact if_pos due

theorem countExpires_early (early : w.elapsed < s.count.waitInForce) : countExpires p tag s = s := by
  simp only [countExpires, found]
  exact if_neg early.not_ge

end Count

section Access

variable {w : AccessWaiter} {post : Bool} {limit : Nat} (detail : Nat)
  (found : s.safe.waiters.find? (isAccessWaiter p tag) = some w)
include found

theorem accessExpires_due (kind : w.req.isPost = post) (due : limit ≤ w.elapsed) : accessExpires post limit detail p tag s
    = answer p tag .expired detail [] (discardAccess (isAccessWaiter p tag) s) := by
  simp only [accessExpires, found]
  exact if_pos ⟨kind, due⟩

theorem accessExpires_early (other : w.req.isPost ≠ post ∨ w.elapsed < limit) : accessExpires post limit detail p tag s = s := by
  simp only [accessExpires, found]
  exact if_neg fun both => other.elim (fun no => no both.1) fun early => early.not_ge both.2

end Access

theorem isPost_iff (r : AccessReq) : r.isPost = true ↔ ∃ t k, r = .postTray t k := by
  cases r <;> simp [AccessReq.isPost]

/-- An event that answers a waiter, or changes nothing, ends at once. -/
theorem expiry_ended {f : State → State} {u : State} (good : s.retention.supply = .good) (hf : f (begun s) = u)
    (he : u.event = Scratch.empty) : happening f s = ended u := by
  rw [happening_plain f s good (hf ▸ he), hf]

theorem floatWaitExpiry_cases (good : s.retention.supply = .good) {w : FloatWaiter}
    (found : s.float.waiters.find? (isFloatWaiter p tag) = some w) :
    (s.float.waitInForce ≤ w.elapsed → exec (.floatWaitExpiry p tag) s
      = .next (ended (answer p tag .expired (if w.park = .stock then 1 else 2) []
        (discardFloats (isFloatWaiter p tag) (begun s)))))
    ∧ (w.elapsed < s.float.waitInForce → exec (.floatWaitExpiry p tag) s = .next (ended (begun s))) :=
  ⟨fun due => congrArg Host.Outcome.next (expiry_ended good (floatExpires_due (s := begun s) found due) (by simp [begun])),
    fun early => congrArg Host.Outcome.next (expiry_ended good (floatExpires_early (s := begun s) found early) rfl)⟩

theorem counterWaitExpiry_cases (good : s.retention.supply = .good) {w : CountWaiter}
    (found : s.count.waiters.find? (isCountWaiter p tag) = some w) :
    (s.count.waitInForce ≤ w.elapsed → exec (.counterWaitExpiry p tag) s
      = .next (ended (answer p tag .expired (if w.park = .counter then 3 else 4) []
        (discardCounts (isCountWaiter p tag) (begun s)))))
    ∧ (w.elapsed < s.count.waitInForce → exec (.counterWaitExpiry p tag) s = .next (ended (begun s))) :=
  ⟨fun due => congrArg Host.Outcome.next (expiry_ended good (countExpires_due (s := begun s) found due) (by simp [begun])),
    fun early => congrArg Host.Outcome.next (expiry_ended good (countExpires_early (s := begun s) found early) rfl)⟩

/-- A waiter of the access list expires as a post at the destination limit, and else at the access limit (R116, R131). -/
theorem accessWaiterExpiry_cases (good : s.retention.supply = .good) {w : AccessWaiter}
    (found : s.safe.waiters.find? (isAccessWaiter p tag) = some w) :
    let gone := discardAccess (isAccessWaiter p tag) (begun s)
    let post := ∃ t k, w.req = .postTray t k
    (¬ post → s.safe.waitInForce ≤ w.elapsed →
      exec (.accessWaitExpiry p tag) s = .next (ended (answer p tag .expired 2 [] gone)))
    ∧ (post → s.recon.destInForce ≤ w.elapsed →
      exec (.destinationWaitExpiry p tag) s = .next (ended (answer p tag .expired 5 [] gone)))
    ∧ (post ∨ w.elapsed < s.safe.waitInForce → exec (.accessWaitExpiry p tag) s = .next (ended (begun s)))
    ∧ (¬ post ∨ w.elapsed < s.recon.destInForce → exec (.destinationWaitExpiry p tag) s = .next (ended (begun s))) := by
  dsimp only
  simp only [← isPost_iff]
  refine ⟨fun kind due => ?_, fun kind due => ?_, fun other => ?_, fun other => ?_⟩
  · exact congrArg Host.Outcome.next (expiry_ended good
      (accessExpires_due (s := begun s) expiredAccess found (Bool.eq_false_iff.mpr kind) due) (by simp [begun]))
  · exact congrArg Host.Outcome.next (expiry_ended good
      (accessExpires_due (s := begun s) expiredDestination found kind due) (by simp [begun]))
  · exact congrArg Host.Outcome.next (expiry_ended good
      (accessExpires_early (s := begun s) expiredAccess found (other.imp_left fun yes no => by simp [yes] at no)) rfl)
  · exact congrArg Host.Outcome.next (expiry_ended good
      (accessExpires_early (s := begun s) expiredDestination found other) rfl)

/-! ## The idle limit (R165) -/

theorem handoverIdleExpiry_cases (good : s.retention.supply = .good) {x : Session} (session : s.courier.session = some x) :
    (s.courier.idleInForce ≤ x.idle → exec .handoverIdleExpiry s = .next (finish (abortSession .idle x (begun s))))
    ∧ (x.idle < s.courier.idleInForce → exec .handoverIdleExpiry s = .next (ended (begun s))) := by
  have present : (begun s).courier.session = some x := session
  have expires : idleExpires (begun s) = if s.courier.idleInForce ≤ x.idle then abortSession .idle x (begun s) else begun s := by
    rw [idleExpires, present]
    rfl
  refine ⟨fun due => congrArg Host.Outcome.next ?_, fun early => congrArg Host.Outcome.next ?_⟩
  · rw [happening_good _ s good, expires, if_pos due]
  · exact expiry_ended good (expires.trans (if_neg early.not_ge)) rfl

/-! ## The owed re-try pass (R51, R52) -/

theorem floatRetryPass_owed (good : s.retention.supply = .good) (owed : 0 < s.float.retryDue) :
    exec .floatRetryPass s
      = .next (finish (floatPass { begun s with float := { s.float with retryDue := s.float.retryDue - 1 } })) :=
  congrArg Host.Outcome.next ((happening_good _ s good).trans (congrArg finish (if_neg owed.ne')))

theorem floatRetryPass_none (good : s.retention.supply = .good) (none : s.float.retryDue = 0) :
    exec .floatRetryPass s = .next (ended (begun s)) :=
  congrArg Host.Outcome.next (expiry_ended good (if_pos none) rfl)

section Retry

variable {w : FloatWaiter}

/-- A waiter that no longer waits is passed over. -/
theorem retryFloat_gone (gone : ∀ v ∈ s.float.waiters, isFloatWaiter w.port w.tag v = false) : retryFloat s w = s :=
  if_neg fun still =>
    have ⟨v, mem, mine⟩ := List.any_eq_true.mp still
    Bool.eq_false_iff.mp (gone v mem) mine

variable (waits : ∃ v ∈ s.float.waiters, isFloatWaiter w.port w.tag v = true)
include waits

theorem retryFloat_refused {k : Code} (tried : floatTry w.port w.ops w.ask s = .refused k) :
    retryFloat s w = answer w.port w.tag k 0 [] (discardFloats (isFloatWaiter w.port w.tag) s) := by
  rw [retryFloat, if_pos (List.any_eq_true.mpr waits), tried]

theorem retryFloat_short {k : Int} (tried : floatTry w.port w.ops w.ask s = .short k) :
    retryFloat s w = raiseReserveLow k (reparkFloat w.port w.tag .stock s) := by
  rw [retryFloat, if_pos (List.any_eq_true.mpr waits), tried]

theorem retryFloat_parked {r : AccessReason} {c : Container} (tried : floatTry w.port w.ops w.ask s = .parked r c) :
    retryFloat s w = reparkFloat w.port w.tag (.access r c) s := by
  rw [retryFloat, if_pos (List.any_eq_true.mpr waits), tried]

theorem retryFloat_done {t : State} {fields : List Field} (tried : floatTry w.port w.ops w.ask s = .done t fields) :
    retryFloat s w
      = dismissRivals w.ask (answer w.port w.tag .ok 0 fields (discardFloats (isFloatWaiter w.port w.tag) t)) := by
  rw [retryFloat, if_pos (List.any_eq_true.mpr waits), tried]

end Retry

/-! ## The refusals of an attempt (R48, R50) -/

section Refused

variable {ops : List Nat} {ask : FloatAsk}

theorem floatTry_suspect (suspect : s.retention.suspect = true) : floatTry p ops ask s = .refused .memorySuspect :=
  if_pos suspect

variable (sound : s.retention.suspect = false)
include sound

theorem floatTry_closed (closed : s.day.state = .closed) : floatTry p ops ask s = .refused .dayNotOpen := by
  simp [floatTry, sound, closed]

theorem floatTry_closing (closing : s.day.state = .closing) : floatTry p ops ask s = .refused .dayClosing := by
  simp [floatTry, sound, closing]

variable (opened : s.day.state = .opened)
include opened

theorem floatTry_float_refused (i : TillIx) (q : ProfileIx) :
    ((tillOf s i).state ≠ .idle → floatTry p ops (.float i q) s = .refused .badState)
    ∧ ((tillOf s i).state = .idle → profileOk s.store.denoms (look s.float.profiles q) = false →
      floatTry p ops (.float i q) s = .refused .profileMismatch) := by
  refine ⟨fun busy => ?_, fun idle unfit => ?_⟩
  · simp [floatTry, sound, opened, busy]
  · simp [floatTry, sound, opened, idle, unfit]

theorem floatTry_topup_refused (i : TillIx) (v : Nat) :
    ((tillOf s i).state ≠ .trading ∨ (tillOf s i).signedOff = true → floatTry p ops (.topup i v) s = .refused .badState)
    ∧ ((tillOf s i).state = .trading → (tillOf s i).signedOff = false → 3 ≤ (tillOf s i).topups →
      floatTry p ops (.topup i v) s = .refused .topupLimit) := by
  refine ⟨fun out => ?_, fun trading signedOn many => ?_⟩
  · simp [floatTry, sound, opened, out]
  · simp [floatTry, sound, opened, trading, signedOn, Config.maxTopups, many]

end Refused

/-- Settles O50: the expiries, the idle limit, the owed pass waiter by waiter, and the refusals of an attempt. -/
theorem waitsExpire : Obligations.WaitsExpire := by
  refine ⟨fun s good => ⟨fun p tag => ⟨fun w found => floatWaitExpiry_cases good found,
        fun w found => counterWaitExpiry_cases good found, fun w found => accessWaiterExpiry_cases good found⟩,
      fun x session => handoverIdleExpiry_cases good session, floatRetryPass_owed good, floatRetryPass_none good⟩,
    fun s => rfl, fun s w => ⟨retryFloat_gone, fun waits => ⟨fun k => retryFloat_refused waits, fun k => retryFloat_short waits,
      fun r c => retryFloat_parked waits, fun u rs => retryFloat_done waits⟩⟩,
    fun s p ops ask => ⟨floatTry_suspect, floatTry_closed, floatTry_closing, fun sound opened => ⟨?_, ?_⟩⟩⟩
  · rintro i q rfl
    exact floatTry_float_refused sound opened i q
  · rintro i v rfl
    exact floatTry_topup_refused sound opened i v

end Sys2Proof.Machine
end

section
/-! The parts of the state that the invariants of counting, bags and caps read (R69, R70, R79, R122, R144, R145, R151, R162, R182,
R183): the *ledger* of the count and the journal, and the *bag book*. `Keeps s t` says that `t` has these invariants where `s` has. -/

namespace Sys2Proof.Machine

/-! ## The ledger -/

/-- What the invariants of the running count and of the journal read. -/
structure Ledger where
  entries : List JournalEntry
  nextSeq : Nat
  held : Nat
  busy : Bool
  run : Option TrayIx
  tray : TrayIx → TrayState

/-- The ledger of a state. -/
def ledger (s : State) : Ledger :=
  { entries := s.store.journal.entries, nextSeq := s.store.journal.nextSeq, held := s.store.journal.held
    busy := stationBusy s, run := s.count.running.map (·.tray), tray := fun t => (trayOf s t).state }

/-- The numbers of a list of entries run on without a break up to the next number (R182). -/
def Numbered (es : List JournalEntry) (next : Nat) : Prop :=
  (1 ≤ next ∧ next ≤ Config.maxSeq) ∧ ((es.map (·.seq)).IsChain fun a b => b = seqAfter a)
    ∧ ∀ e, es.getLast? = some e → next = seqAfter e.seq

/-- The station, the running count, the COUNTING tray and the journal agree (R69, R70, R79, R83, R182, R183). -/
structure Ledger.Sound (l : Ledger) : Prop where
  station : l.run.isSome = true ↔ l.busy = true
  trays : ∀ t, l.tray t = .counting ↔ l.run = some t
  room : l.entries.length + l.held ≤ 512
  held : l.held = if l.run.isSome then 1 else 0
  numbers : Numbered l.entries l.nextSeq

theorem ledger_sound_iff (s : State) : (ledger s).Sound ↔ StationHolds s ∧ JournalHolds s := by
  have busy : stationBusy s = true ↔ s.count.station = .running ∨ s.count.station = .collecting := by simp [stationBusy]
  have run (t : TrayIx) : s.count.running.map (·.tray) = some t ↔ ∃ r, s.count.running = some r ∧ r.tray = t := by simp
  have some' : (s.count.running.map (·.tray)).isSome = s.count.running.isSome := Option.isSome_map
  constructor
  · intro ⟨station, trays, room, held, range, chain, last⟩
    refine ⟨⟨?_, fun t => (trays t).trans (run t)⟩, room, ?_, range, chain, last⟩
    · rw [← some', ← busy]
      exact station
    · rw [← some']
      exact held
  · intro ⟨⟨station, trays⟩, room, held, range, chain, last⟩
    refine ⟨?_, fun t => (trays t).trans (run t).symm, room, ?_, range, chain, last⟩
    · rw [← some', ← busy] at station
      exact station
    · rw [← some'] at held
      exact held

/-! ## The bag book -/

/-- What the invariants of bags and of caps read. -/
structure BagBook where
  denoms : Vector DenomEntry 16
  compHold : Vector Counts 16
  bagHold : Vector Counts 32
  cap : CompIx → Nat
  source : TrayIx → Option Source
  bags : Vector BagRec 32
  staged : WindowIx → List BagIx
  inbound : Option (List BagIx)

/-- The bag book of a state. -/
def bagBook (s : State) : BagBook :=
  { denoms := s.store.denoms, compHold := s.store.compHold, bagHold := s.store.bagHold, cap := fun c => (compOf s c).cap
    source := fun t => (trayOf s t).source, bags := s.courier.bags, staged := fun w => (windowOf s w).staged
    inbound := s.courier.session.map (·.inbound) }

/-- A bag that must hold nothing: FREE, HANDED or not OUTBOUND (R144, R145). -/
def BagRec.bare (r : BagRec) : Prop := r.state = .free ∨ r.state = .handed ∨ r.dir ≠ some .outbound

/-- Bags, staged lists, the inbound list and the trays' sources agree (R81, R110, R144, R145, R151, R162). -/
structure BagBook.Sound (g : BagBook) : Prop where
  empty : ∀ b, (look g.bags b).bare → look g.bagHold b = Counts.zero
  listed : ∀ w b, b ∈ g.staged w ↔ (look g.bags b).state = .staged ∧ (look g.bags b).window = some w
  once : ∀ w, (g.staged w).Nodup
  staged : ∀ b, (look g.bags b).state = .staged → (look g.bags b).window.isSome ∧ (look g.bags b).dir = some .outbound
  inbound : ∀ l, g.inbound = some l → ∀ b ∈ l, (look g.bags b).dir = some .inbound ∧ (look g.bags b).state = .announced
  counts : ∀ t b, g.source t = some (.inbound b) → countedBag (look g.bags b)
  distinct : ∀ t u b, g.source t = some (.inbound b) → g.source u = some (.inbound b) → t = u

theorem bagBook_sound_iff (s : State) : (bagBook s).Sound ↔ BagsHold s := by
  constructor
  · intro h
    exact ⟨h.empty, h.listed, h.once, h.staged, fun x hx => h.inbound x.inbound (by simp [bagBook, hx]), h.counts, h.distinct⟩
  · intro h
    refine ⟨h.empty, h.listed, h.once, h.staged, fun l hl => ?_, h.counts, h.distinct⟩
    obtain ⟨x, hx, rfl⟩ := Option.map_eq_some_iff.mp hl
    exact h.inbound x hx

/-- A cap load bag by bag: the compartment's own value and that of every bag located in it (R122). -/
def BagBook.load (g : BagBook) (c : CompIx) : Int :=
  valueWith g.denoms (look g.compHold c)
    + ∑ b, if (look g.bags b).location = some c then valueWith g.denoms (look g.bagHold b) else 0

/-- Every cap load lies within its cap (R122). -/
def BagBook.Within (g : BagBook) : Prop := ∀ c, g.load c ≤ g.cap c

theorem capLoad_eq_load (s : State) (c : CompIx) : capLoad s c = (bagBook s).load c := by
  have filtered (l : List BagIx) (f : BagIx → Int) :
      ((l.filter fun b => (bagOf s b).location == some c).map f).sum
        = (l.map fun b => if (bagOf s b).location = some c then f b else 0).sum := by
    induction l with
    | nil => rfl
    | cons b l ih => by_cases h : (bagOf s b).location = some c <;> simp [h, ih]
  rw [capLoad, bagsIn, filtered, BagBook.load, Fin.sum_univ_def]
  rfl

theorem bagBook_within_iff (s : State) : (bagBook s).Within ↔ CapsHold s := by
  simp only [CapsHold, capLoad_eq_load]
  rfl

/-- Cap loads are as they were where each compartment's holding is, and each bag lies where it lay with what it held, or is empty
before and after. -/
theorem BagBook.load_same {g k : BagBook} (hd : k.denoms = g.denoms) (hc : k.compHold = g.compHold)
    (hb : ∀ b, (look k.bags b).location = (look g.bags b).location ∧ look k.bagHold b = look g.bagHold b
      ∨ look k.bagHold b = Counts.zero ∧ look g.bagHold b = Counts.zero) (c : CompIx) : k.load c = g.load c := by
  rw [BagBook.load, BagBook.load, hd, hc]
  refine congrArg _ (Finset.sum_congr rfl fun b _ => ?_)
  obtain ⟨hl, hv⟩ | ⟨ht, hs⟩ := hb b
  · rw [hl, hv]
  · rw [ht, hs, valueWith_zero, ite_self, ite_self]

theorem BagBook.Within.same {g k : BagBook} (hl : ∀ c, k.load c = g.load c) (hc : k.cap = g.cap) (h : g.Within) : k.Within :=
  fun c => by rw [hl, hc]; exact h c

/-! ## States that keep the invariants -/

/-- A state has the invariants of counting, of bags and of caps where another state has them. -/
structure Keeps (s t : State) : Prop where
  counting : (ledger s).Sound → (ledger t).Sound
  bags : (bagBook s).Sound → (bagBook t).Sound
  caps : (bagBook s).Sound → (bagBook s).Within → (bagBook t).Within

theorem Keeps.refl (s : State) : Keeps s s := ⟨id, id, fun _ => id⟩

theorem Keeps.trans {s t u : State} (h : Keeps s t) (k : Keeps t u) : Keeps s u :=
  ⟨k.counting ∘ h.counting, k.bags ∘ h.bags, fun hb hc => k.caps (h.bags hb) (h.caps hb hc)⟩

/-- The ledger and the bag book together. -/
def register (s : State) : Ledger × BagBook := (ledger s, bagBook s)

theorem register_congr {s t : State} (hs : t.store = s.store) (hc : t.count = s.count) (hf : t.safe = s.safe)
    (hr : t.courier = s.courier) : register t = register s := by
  simp only [register, ledger, bagBook, stationBusy, trayOf, compOf, windowOf, hs, hc, hf, hr]

theorem ledger_of_register {s t : State} (h : register t = register s) : ledger t = ledger s := congrArg Prod.fst h
theorem bagBook_of_register {s t : State} (h : register t = register s) : bagBook t = bagBook s := congrArg Prod.snd h

/-- A change of the ledger alone. -/
theorem Keeps.ofLedger {s t : State} (hb : bagBook t = bagBook s) (h : (ledger s).Sound → (ledger t).Sound) : Keeps s t :=
  ⟨h, fun g => hb ▸ g, fun _ g => hb ▸ g⟩

/-- A change of the bag book alone. -/
theorem Keeps.ofBags {s t : State} (hl : ledger t = ledger s) (hb : (bagBook s).Sound → (bagBook t).Sound)
    (hc : (bagBook s).Sound → (bagBook s).Within → (bagBook t).Within) : Keeps s t := ⟨fun h => hl ▸ h, hb, hc⟩

/-- A change outside the ledger and the bag book. -/
theorem Keeps.same {s t : State} (h : register t = register s) : Keeps s t :=
  .ofLedger (bagBook_of_register h) fun hl => ledger_of_register h ▸ hl

/-- A further change outside the ledger and the bag book. -/
theorem Keeps.beside {s t u : State} (h : Keeps s t) (hu : register u = register t) : Keeps s u := h.trans (.same hu)

end Sys2Proof.Machine
end

section
/-! Operations outside the ledger and the bag book: ports and notices, waiters, tills, the Reconciliation Unit, the day and its plan. -/

namespace Sys2Proof.Machine

/-! ## Ports, notices and the working notes -/

@[simp] theorem register_raise (k : NoticeKind) (x : Subject) (l : List Field) (s : State) :
    register (raise k x l s) = register s := register_congr (by simp) (by simp) (by simp) (by simp)
@[simp] theorem register_answer (p : Port) (tag : Tag) (c : Code) (d : Nat) (l : List Field) (s : State) :
    register (answer p tag c d l s) = register s := register_congr (by simp) (by simp) (by simp) (by simp)
@[simp] theorem register_setSlot (p : Port) (tag : Tag) (st : SlotState) (s : State) :
    register (setSlot p tag st s) = register s := register_congr (by simp) (by simp) (by simp) (by simp)
@[simp] theorem register_modPort (p : Port) (f : PortRec → PortRec) (s : State) :
    register (modPort p f s) = register s := register_congr (by simp) (by simp) (by simp) (by simp)
@[simp] theorem register_rejectTag (p : Port) (tag : Tag) (s : State) : register (rejectTag p tag s) = register s :=
  register_congr (by simp) (by simp) (by simp) (by simp)
@[simp] theorem register_takeSlot (p : Port) (tag : Tag) (code : Nat) (s : State) :
    register (takeSlot p tag code s) = register s := register_congr (by simp) (by simp) (by simp) (by simp)
@[simp] theorem register_startFrames (s : State) : register (startFrames s) = register s :=
  register_congr (by simp) (by simp) (by simp) (by simp)
@[simp] theorem register_report (s : State) : register (report s) = register s := rfl
@[simp] theorem register_signal (g : Signal) (s : State) : register (signal g s) = register s := rfl
@[simp] theorem register_event (e : Scratch) (s : State) : register { s with event := e } = register s := rfl

/-- The session changed outside its inbound list. -/
theorem register_modSession {f : Session → Session} (hf : ∀ x, (f x).inbound = x.inbound) (s : State) :
    register (modSession f s) = register s := by
  simp only [register, ledger, bagBook, modSession, Option.map_map, Function.comp_def, hf]
  rfl

@[simp] theorem register_heard (p : Port) (s : State) : register (heard p s) = register s := by
  cases p with
  | courier => exact (register_modSession (by intro; rfl) _).trans (register_modPort ..)
  | _ => exact register_modPort ..

/-! ## Tills, floats and the Reconciliation Unit -/

@[simp] theorem register_modTill (i : TillIx) (f : TillRec → TillRec) (s : State) : register (modTill i f s) = register s := rfl
@[simp] theorem register_setDrawer (i : TillIx) (d : Option DrawerResult) (s : State) :
    register (setDrawer i d s) = register s := rfl
@[simp] theorem register_enterDifference (t : TrayIx) (d : Int) (s : State) :
    register (enterDifference t d s) = register s := rfl
@[simp] theorem register_clearPending (t : TrayIx) (s : State) : register (clearPending t s) = register s := rfl
@[simp] theorem register_clearAutoPost (t : TrayIx) (s : State) : register (clearAutoPost t s) = register s := rfl
@[simp] theorem register_recordFill (t : TrayIx) (ops : List Nat) (s : State) :
    register (recordFill t ops s) = register s := rfl

@[simp] theorem register_evaluate (i : TillIx) (s : State) : register (evaluate i s) = register s := by
  unfold evaluate
  dsimp only
  split <;> simp [raisePickup]

@[simp] theorem register_oweAttempt (t : TrayIx) (s : State) : register (oweAttempt t s) = register s := by
  unfold oweAttempt
  split <;> rfl

@[simp] theorem register_settleTill (i : TillIx) (k : Classification) (s : State) :
    register (settleTill i k s) = register s := by
  have owed (ts : List TrayIx) (u : State) : register (ts.foldl (fun acc t => oweAttempt t acc) u) = register u := by
    induction ts generalizing u with
    | nil => rfl
    | cons t ts ih => rw [List.foldl_cons, ih, register_oweAttempt]
  unfold settleTill
  dsimp only
  rw [owed, register_report, register_raise]
  rfl

@[simp] theorem register_holdTill (i : TillIx) (h : HoldReasons) (l : List Field) (s : State) :
    register (holdTill i h l s) = register s := by simp [holdTill]

@[simp] theorem register_runComputation (i : TillIx) (s : State) : register (runComputation i s) = register s := by
  unfold runComputation
  dsimp only
  split
  · split <;> simp
  · rfl

@[simp] theorem register_drawerComplete (i : TillIx) (t : TrayIx) (s : State) :
    register (drawerComplete i t s) = register s := by
  unfold drawerComplete
  dsimp only
  split <;> split <;> simp

@[simp] theorem register_afterRemoval (i : TillIx) (s : State) : register (afterRemoval i s) = register s := by
  unfold afterRemoval
  dsimp only
  split <;> simp

@[simp] theorem register_pouchComplete (i : TillIx) (n : Nat) (t : TrayIx) (s : State) :
    register (pouchComplete i n t s) = register s := by
  have late (u : State) : register (latePouch i u) = register u := by
    unfold latePouch
    dsimp only
    split <;> simp
  unfold pouchComplete
  dsimp only
  split
  · rfl
  · split <;> simp [late]

@[simp] theorem register_afterFinal (i : TillIx) (s : State) : register (afterFinal i s) = register s := by
  unfold afterFinal
  dsimp only
  split
  · simp
  · split <;> simp [lateFinal]
  all_goals rfl

@[simp] theorem register_pickupRound (s : State) : register (pickupRound s) = register s :=
  register_congr (by simp) (by simp) (by simp) (by simp)

/-! ## Waiters -/

@[simp] theorem register_dismissFloats (sel : FloatWaiter → Bool) (c : Code) (s : State) :
    register (dismissFloats sel c s) = register s := register_congr (by simp) (by simp) (by simp) (by simp)
@[simp] theorem register_dismissTopups (t : TillIx) (s : State) : register (dismissTopups t s) = register s :=
  register_dismissFloats ..
@[simp] theorem register_dismissRivals (a : FloatAsk) (s : State) : register (dismissRivals a s) = register s := by
  unfold dismissRivals
  split <;> simp
@[simp] theorem register_raiseReserveLow (k : Int) (s : State) : register (raiseReserveLow k s) = register s :=
  register_congr (by simp) (by simp) (by simp) (by simp)
@[simp] theorem register_parkFloat (p : Port) (tag : Tag) (ops : List Nat) (a : FloatAsk) (k : FloatPark) (s : State) :
    register (parkFloat p tag ops a k s) = register s := by
  rw [parkFloat, register_setSlot]
  rfl
@[simp] theorem register_reparkFloat (p : Port) (tag : Tag) (k : FloatPark) (s : State) :
    register (reparkFloat p tag k s) = register s := rfl
@[simp] theorem register_discardFloats (sel : FloatWaiter → Bool) (s : State) :
    register (discardFloats sel s) = register s := rfl
@[simp] theorem register_parkAccess (p : Port) (tag : Tag) (ops : List Nat) (r : AccessReq) (k : AccessReason) (c : Container)
    (s : State) : register (parkAccess p tag ops r k c s) = register s := by
  rw [parkAccess, register_setSlot]
  rfl
@[simp] theorem register_reparkAccess (p : Port) (tag : Tag) (k : AccessReason) (c : Container) (s : State) :
    register (reparkAccess p tag k c s) = register s := rfl
@[simp] theorem register_discardAccess (sel : AccessWaiter → Bool) (s : State) :
    register (discardAccess sel s) = register s := rfl
@[simp] theorem register_discardCounts (sel : CountWaiter → Bool) (s : State) :
    register (discardCounts sel s) = register s := rfl
@[simp] theorem register_reparkCount (p : Port) (tag : Tag) (k : CountPark) (s : State) :
    register (reparkCount p tag k s) = register s := rfl
@[simp] theorem register_parkCount (p : Port) (tag : Tag) (ops : List Nat) (a : CountAsk) (n : Nat) (k : CountPark)
    (s : State) : register (parkCount p tag ops a n k s) = register s := by
  rw [parkCount, register_setSlot]
  rfl
@[simp] theorem register_dismissCounts (sel : CountWaiter → Bool) (c : Code) (s : State) :
    register (dismissCounts sel c s) = register s := by
  have answers (l : List CountWaiter) (u : State) :
      register (l.foldl (fun acc w => answer w.port w.tag c 0 [] acc) u) = register u := by
    induction l generalizing u with
    | nil => rfl
    | cons w l ih => rw [List.foldl_cons, ih, register_answer]
  rw [dismissCounts, answers, register_discardCounts]
@[simp] theorem register_queueCount (p : Port) (tag : Tag) (ops : List Nat) (r : AccessReq) (k : CountPark) (s : State) :
    register (queueCount p tag ops r k s) = register s := by
  cases r <;> simp [queueCount]

/-! ## The Count Unit's notes and the journal's marks -/

@[simp] theorem register_raiseCountDone (t : TrayIx) (s : State) : register (raiseCountDone t s) = register s := by
  simp [raiseCountDone]

/-- The Count Unit's record changed outside the trays, the running count's tray and whether the station counts. -/
theorem register_modCount {f : CountUnit → CountUnit} {s : State} (ht : (f s.count).trays = s.count.trays)
    (hr : (f s.count).running.map (·.tray) = s.count.running.map (·.tray))
    (hb : stationBusy (modCount f s) = stationBusy s) : register (modCount f s) = register s := by
  simp only [register, ledger, bagBook, hb]
  simp only [modCount, trayOf, ht, hr]
  rfl

/-- A tray's record changed outside its state and its source. -/
theorem register_modTray {t : TrayIx} {f : TrayRec → TrayRec} {s : State} (hs : (f (trayOf s t)).state = (trayOf s t).state)
    (hc : (f (trayOf s t)).source = (trayOf s t).source) : register (modTray t f s) = register s := by
  have tray (u : TrayIx) : (trayOf (modTray t f s) u).state = (trayOf s u).state
      ∧ (trayOf (modTray t f s) u).source = (trayOf s u).source := by
    simp only [trayOf, modTray, look_put]
    split
    · next e => subst e; exact ⟨hs, hc⟩
    · exact ⟨rfl, rfl⟩
  simp only [register, ledger, bagBook, tray]
  rfl

@[simp] theorem register_giveCount (t : TrayIx) (s : State) : register (giveCount t s) = register s := by
  unfold giveCount
  dsimp only
  rw [register_modTray rfl rfl, register_modCount rfl rfl rfl]

@[simp] theorem register_journalMarks (n : Nat) (s : State) : register (journalMarks n s) = register s := by
  unfold journalMarks
  dsimp only
  split <;> split
  · rw [register_raise, register_raise]; rfl
  · rw [register_raise]; rfl
  · rw [register_raise]; rfl
  · rfl

/-! ## Compartments and the end of a parking condition -/

/-- A compartment's record changed outside its cap. -/
theorem register_modComp {c : CompIx} {f : CompRec → CompRec} {s : State} (hf : (f (compOf s c)).cap = (compOf s c).cap) :
    register (modComp c f s) = register s := by
  have cap (d : CompIx) : (compOf (modComp c f s) d).cap = (compOf s d).cap := by
    simp only [compOf, modComp, look_put]
    split
    · next e => subst e; exact hf
    · rfl
  simp only [register, bagBook, cap]
  rfl

@[simp] theorem register_parkingEnded (f : CompIx → Bool) (b : Bool) (s : State) :
    register (parkingEnded f b s) = register s := by
  unfold parkingEnded
  dsimp only
  split <;> rfl

@[simp] theorem register_markOut (c : CompIx) (t : TrayIx) (s : State) : register (markOut c t s) = register s :=
  register_modComp rfl

@[simp] theorem register_clearOut (c : CompIx) (s : State) : register (clearOut c s) = register s := by
  simp only [clearOut, register_parkingEnded, register_signal]
  exact register_modComp rfl

@[simp] theorem register_liftLatch (c : CompIx) (s : State) : register (liftLatch c s) = register s := by
  refine register_modComp ?_
  split <;> rfl

@[simp] theorem register_holdLatch (c : CompIx) (s : State) : register (holdLatch c s) = register s := register_modComp rfl

@[simp] theorem register_setStepBits (c : Container) (b : StepBits) (s : State) :
    register (setStepBits c b s) = register s := by
  cases c <;> rfl

/-! ## Windows -/

/-- A window's record changed outside its staged list. -/
theorem register_modWindow {w : WindowIx} {f : WindowRec → WindowRec} {s : State}
    (hf : (f (windowOf s w)).staged = (windowOf s w).staged) : register (modWindow w f s) = register s := by
  have staged (v : WindowIx) : (windowOf (modWindow w f s) v).staged = (windowOf s v).staged := by
    simp only [windowOf, modWindow, look_put]
    split
    · next e => subst e; exact hf
    · rfl
  simp only [register, bagBook, staged]
  rfl

/-! ## The day -/

@[simp] theorem register_modDay (f : DayUnit → DayUnit) (s : State) : register (modDay f s) = register s := rfl
@[simp] theorem register_raiseDayState (s : State) : register (raiseDayState s) = register s := by simp [raiseDayState]
@[simp] theorem register_freezeNow (s : State) : register (freezeNow s) = register s := rfl
@[simp] theorem register_passEntry (i : PlanIx) (s : State) : register (passEntry i s) = register s := rfl

end Sys2Proof.Machine
end

section
/-! Movements taken by the Store keep the invariants of counting, bags and caps (R9, R122, R145, R182, R183). -/

namespace Sys2Proof.Machine

variable {s t : State}

/-! ## The journal (R182, R183) -/

theorem Numbered.append {es : List JournalEntry} {e : JournalEntry} (h : Numbered es e.seq) :
    Numbered (es ++ [e]) (seqAfter e.seq) := by
  obtain ⟨⟨low, high⟩, chain, last⟩ := h
  refine ⟨?_, ?_, fun f hf => ?_⟩
  · unfold seqAfter
    split
    · simp [Config.maxSeq]
    · omega
  · rw [List.map_append, List.isChain_append]
    refine ⟨chain, .singleton _, fun a ha b hb => ?_⟩
    obtain ⟨f, hf, rfl⟩ := Option.map_eq_some_iff.mp (List.getLast?_map ▸ ha)
    cases hb
    exact last f hf
  · rw [List.getLast?_concat] at hf
    cases hf
    rfl

theorem Numbered.drop {es : List JournalEntry} {next : Nat} (n : Nat) (h : Numbered es next) : Numbered (es.drop n) next := by
  obtain ⟨range, chain, last⟩ := h
  refine ⟨range, ?_, fun e he => ?_⟩
  · rw [List.map_drop]
    exact chain.drop n
  · rw [List.getLast?_drop] at he
    split at he
    · cases he
    · exact last e he

theorem ledger_of_count (hc : t.count = s.count) : ledger t = { ledger s with
    entries := t.store.journal.entries, nextSeq := t.store.journal.nextSeq, held := t.store.journal.held } := by
  simp only [ledger, stationBusy, trayOf, hc]

/-- The ledger after a movement: one entry more, the held one where the movement carries it (R11, R183). -/
theorem ledger_applyMove (m : Movement) (s : State) : ledger (applyMove m s) = { ledger s with
    entries := (ledger s).entries ++ [entryOf m s], nextSeq := seqAfter (ledger s).nextSeq
    held := if m.held then (ledger s).held - 1 else (ledger s).held } := by
  rw [ledger_of_count (s := s) (by simp), applyMove_journal]
  rfl

theorem counting_applyMove {m : Movement} (unheld : m.held = false) (room : occupancy s < 512) (h : (ledger s).Sound) :
    (ledger (applyMove m s)).Sound := by
  rw [ledger_applyMove]
  refine ⟨h.station, h.trays, ?_, ?_, Numbered.append (e := entryOf m s) h.numbers⟩
  · simp only [unheld, List.length_append, List.length_singleton, Bool.false_eq_true, if_false]
    rw [Nat.add_right_comm]
    exact room
  · simpa [unheld] using h.held

/-! ## Bags and caps (R122, R145) -/

/-- A movement empties each bag it names, or leaves it as it was, or takes cash into one that is OPEN (R148). -/
def Movement.BagsOk (m : Movement) (s : State) : Prop :=
  ∀ b, .bag b ∈ m.ends → outboundIn s b .opened = true ∨ heldAfter m s (.bag b) = Counts.zero
    ∨ heldAfter m s (.bag b) = holding s (.bag b)

/-- What of the bag book a movement leaves. -/
theorem bagBook_applyMove (m : Movement) (s : State) : bagBook (applyMove m s) = { bagBook s with
    compHold := (applyMove m s).store.compHold, bagHold := (applyMove m s).store.bagHold } := by
  have cap (c : CompIx) : (compOf (applyMove m s) c).cap = (compOf s c).cap := by
    rw [compOf_applyMove]
    split
    · unfold CompRec.released
      split <;> rfl
    · rfl
  simp only [bagBook, cap, trayOf, windowOf]
  simp

/-- New holdings keep the bag book sound where a bag that must hold nothing still does. -/
theorem BagBook.Sound.holdings {g : BagBook} {comps : Vector Counts 16} {bags : Vector Counts 32} (h : g.Sound)
    (hb : ∀ b, (look g.bags b).bare → look bags b = Counts.zero) :
    ({ g with compHold := comps, bagHold := bags } : BagBook).Sound :=
  ⟨hb, h.listed, h.once, h.staged, h.inbound, h.counts, h.distinct⟩

theorem bags_applyMove {m : Movement} (hm : m.BagsOk s) (h : (bagBook s).Sound) : (bagBook (applyMove m s)).Sound := by
  rw [bagBook_applyMove]
  refine h.holdings fun b bare => ?_
  have empty : holding s (.bag b) = Counts.zero := h.empty b bare
  refine (holding_applyMove m s (.bag b)).trans ?_
  by_cases named : .bag b ∈ m.ends
  · obtain opened | zero | same := hm b named
    · simp only [outboundIn, Bool.and_eq_true, beq_iff_eq] at opened
      have bare : (bagOf s b).bare := bare
      simp [BagRec.bare, opened] at bare
    · exact zero
    · rw [same, empty]
  · rw [heldAfter_of_not_mem m s _ named, empty]

theorem capLoad_applyMove (m : Movement) (s : State) (c : CompIx) :
    capLoad (applyMove m s) c = capLoad (moveHoldings m s) c := by
  have held (c : Container) : holding (applyMove m s) c = holding (moveHoldings m s) c := by
    rw [holding_applyMove, holding_moveHoldings_eq]
  rw [capLoad_eq_load, capLoad_eq_load]
  refine BagBook.load_same (g := bagBook (moveHoldings m s)) (k := bagBook (applyMove m s)) (by simp [bagBook, moveHoldings])
    (eq_of_look fun c => held (.comp c)) (fun b => .inl ⟨by simp [bagBook], held (.bag b)⟩) c

theorem caps_applyMove {m : Movement} (fits : ¬ overCap m s = true) (h : (bagBook s).Within) :
    (bagBook (applyMove m s)).Within := by
  intro c
  have cap : (bagBook (applyMove m s)).cap c = (compOf s c).cap := congrFun (congrArg BagBook.cap (bagBook_applyMove m s)) c
  rw [← capLoad_eq_load, capLoad_applyMove, cap]
  obtain within | less := (not_overCap_iff m s).mp fits c
  · exact within
  · exact less.trans ((bagBook_within_iff s).mp h c)

theorem keeps_applyMove {m : Movement} (unheld : m.held = false) (room : occupancy s < 512) (fits : ¬ overCap m s = true)
    (hm : m.BagsOk s) : Keeps s (applyMove m s) :=
  ⟨counting_applyMove unheld room, bags_applyMove hm, fun _ => caps_applyMove fits⟩

/-! ## The movements of one event -/

@[simp] theorem register_storeEvent (ms : List Movement) (s : State) :
    register (storeEvent ms false s) = register (ms.foldl (fun acc m => applyMove m acc) s) := register_journalMarks ..

/-- A movement that passes has the free entries its check asks for (R183). -/
theorem room_of_pass {need : Nat} {m : Movement} (h : checkMovement need m s = .pass) (some' : 0 < need) :
    occupancy s + need ≤ 512 := by
  obtain ⟨-, -, free, -⟩ := (checkMovement_pass_iff need m s).mp h
  simp only [freeEntries, Config.journalSize] at free
  omega

theorem fits_of_pass {need : Nat} {m : Movement} (h : checkMovement need m s = .pass) : ¬ overCap m s = true :=
  ((checkMovement_pass_iff need m s).mp h).2.2.2.2.2.2.2

/-- One movement taken by the Store. -/
theorem keeps_taken {m : Movement} (pass : checkMovement 1 m s = .pass) (unheld : m.held = false) (hm : m.BagsOk s) :
    Keeps s (storeEvent [m] false s) :=
  (keeps_applyMove unheld (room_of_pass pass Nat.one_pos) (fits_of_pass pass) hm).beside (register_storeEvent _ _)

/-- A movement that names no bag. -/
theorem bagsOk_of_unnamed {m : Movement} (h : ∀ b, .bag b ∉ m.ends) : m.BagsOk s := fun b hb => absurd hb (h b)

end Sys2Proof.Machine
end

section
/-! What the Count Unit makes of the ledger and of the bag book, and that each such change keeps them sound: a count begins, ends or
is abandoned, a tray is filled by hand or emptied, a source is marked (R76, R79 to R83, R88 to R94, R115). -/

namespace Sys2Proof.Machine

open Function (update)

/-! ## Changes of the ledger -/

variable {l : Ledger} {t : TrayIx}

/-- The trays after one that is not the running count's changes between the other states. -/
theorem Ledger.Sound.tray {st : TrayState} (h : l.Sound) (was : l.tray t ≠ .counting) (is : st ≠ .counting) :
    ({ l with tray := update l.tray t st } : Ledger).Sound := by
  refine ⟨h.station, fun u => ?_, h.room, h.held, h.numbers⟩
  by_cases e : u = t
  · subst e
    simpa [is, h.trays] using was
  · simpa [e] using h.trays u

/-- A count begins: one entry is held, its tray is COUNTING (R83). -/
theorem Ledger.Sound.begin (h : l.Sound) (idle : l.busy = false) (room : l.entries.length + l.held < 512) (t : TrayIx) :
    ({ l with held := l.held + 1, busy := true, run := some t, tray := update l.tray t .counting } : Ledger).Sound := by
  have none' : l.run = none := by simpa [idle] using h.station
  refine ⟨by simp, fun u => ?_, room, by simp [h.held, none'], h.numbers⟩
  by_cases e : u = t
  · subst e; simp
  · simpa [e, Ne.symm e, none'] using h.trays u

/-- A count ends without an entry: the held one is released (R89, R183). -/
theorem Ledger.Sound.finish {st : TrayState} (h : l.Sound) (run : l.run = some t) (is : st ≠ .counting) :
    ({ l with held := l.held - 1, busy := false, run := none, tray := update l.tray t st } : Ledger).Sound := by
  refine ⟨by simp, fun u => ?_, le_trans (by simp) h.room, by simp [h.held, run], h.numbers⟩
  by_cases e : u = t
  · subst e; simp [is]
  · simpa [e, Ne.symm e, run] using h.trays u

/-- An entry written where there is room for it (R182). -/
theorem Ledger.Sound.append {e : JournalEntry} (h : l.Sound) (room : l.entries.length + l.held < 512) (he : e.seq = l.nextSeq) :
    ({ l with entries := l.entries ++ [e], nextSeq := seqAfter l.nextSeq } : Ledger).Sound :=
  ⟨h.station, h.trays, by rw [List.length_append, List.length_singleton, Nat.add_right_comm]; exact room, h.held,
    he ▸ Numbered.append (he ▸ h.numbers)⟩

/-- A count ends with its entry in the held one's place (R88, R183). -/
theorem Ledger.Sound.complete {st : TrayState} {e : JournalEntry} (h : l.Sound) (run : l.run = some t) (is : st ≠ .counting)
    (he : e.seq = l.nextSeq) :
    ({ l with entries := l.entries ++ [e], nextSeq := seqAfter l.nextSeq, held := l.held - 1, busy := false, run := none
              tray := update l.tray t st } : Ledger).Sound := by
  refine (h.finish run is).append ?_ he
  have room := h.room
  have held := h.held
  simp only [run, Option.isSome_some, if_true] at held
  dsimp only
  omega

/-! ## Changes of the bag book -/

variable {g : BagBook}

/-- One bag's record replaced, neither of them STAGED. -/
theorem BagBook.Sound.bag {b : BagIx} {r : BagRec} (h : g.Sound) (bare : r.bare → look g.bagHold b = Counts.zero)
    (was : (look g.bags b).state ≠ .staged) (is : r.state ≠ .staged)
    (listed : ∀ l, g.inbound = some l → b ∈ l → r.dir = some .inbound ∧ r.state = .announced)
    (counted : (∃ t, g.source t = some (.inbound b)) → countedBag r) : ({ g with bags := put g.bags b r } : BagBook).Sound := by
  refine ⟨fun c => ?_, fun w c => ?_, h.once, fun c => ?_, fun l hl c hc => ?_, fun t c hc => ?_, h.distinct⟩ <;>
    dsimp only <;> by_cases e : c = b
  · subst e; simpa using bare
  · simpa [look_put_ne _ _ e] using h.empty c
  · subst e; simpa [is, was] using h.listed w c
  · simpa [look_put_ne _ _ e] using h.listed w c
  · subst e; simp [is]
  · simpa [look_put_ne _ _ e] using h.staged c
  · subst e; simpa using listed l hl hc
  · simpa [look_put_ne _ _ e] using h.inbound l hl c hc
  · subst e; simpa using counted ⟨t, hc⟩
  · simpa [look_put_ne _ _ e] using h.counts t c hc

theorem BagBook.Within.bag {b : BagIx} {r : BagRec} (h : g.Within)
    (place : r.location = (look g.bags b).location ∨ look g.bagHold b = Counts.zero) :
    ({ g with bags := put g.bags b r } : BagBook).Within := by
  refine Within.same (g := g) (BagBook.load_same rfl rfl fun c => ?_) rfl h
  dsimp only
  by_cases e : c = b
  · subst e; simpa using place
  · exact .inl ⟨by rw [look_put_ne _ _ e], rfl⟩

/-- A tray takes a source that no tray has, or loses its own. -/
theorem BagBook.Sound.sourced {src : Option Source} (h : g.Sound)
    (counted : ∀ b, src = some (.inbound b) → countedBag (look g.bags b))
    (new : ∀ b, src = some (.inbound b) → ∀ u, u ≠ t → g.source u ≠ some (.inbound b)) :
    ({ g with source := update g.source t src } : BagBook).Sound := by
  refine ⟨h.empty, h.listed, h.once, h.staged, h.inbound, fun u b hu => ?_, fun u v b hu hv => ?_⟩
  · by_cases e : u = t
    · subst e; exact counted b (by simpa using hu)
    · exact h.counts u b (by simpa [e] using hu)
  · by_cases eu : u = t <;> by_cases ev : v = t
    · rw [eu, ev]
    · subst eu; exact absurd (by simpa [ev] using hv) (new b (by simpa using hu) v ev)
    · subst ev; exact absurd (by simpa [eu] using hu) (new b (by simpa using hv) u eu)
    · exact h.distinct u v b (by simpa [eu] using hu) (by simpa [ev] using hv)

theorem BagBook.Within.sourced {src : Option Source} (h : g.Within) :
    ({ g with source := update g.source t src } : BagBook).Within := h

/-! ## What the operations make of them -/

variable {s u : State}

theorem ledger_modTray (t : TrayIx) (f : TrayRec → TrayRec) (s : State) :
    ledger (modTray t f s) = { ledger s with tray := update (ledger s).tray t (f (trayOf s t)).state } := by
  have tray : (fun u => (trayOf (modTray t f s) u).state) = update (ledger s).tray t (f (trayOf s t)).state := by
    funext u
    simp only [trayOf, modTray, look_put, Function.update_apply, apply_ite TrayRec.state]
    rfl
  rw [← tray]
  rfl

theorem bagBook_modTray (t : TrayIx) (f : TrayRec → TrayRec) (s : State) :
    bagBook (modTray t f s) = { bagBook s with source := update (bagBook s).source t (f (trayOf s t)).source } := by
  have source : (fun u => (trayOf (modTray t f s) u).source) = update (bagBook s).source t (f (trayOf s t)).source := by
    funext u
    simp only [trayOf, modTray, look_put, Function.update_apply, apply_ite TrayRec.source]
    rfl
  rw [← source]
  rfl

/-- A tray's record changed with its source kept leaves the bag book. -/
theorem bagBook_modTray_same {f : TrayRec → TrayRec} (hf : (f (trayOf s t)).source = (trayOf s t).source) :
    bagBook (modTray t f s) = bagBook s := by
  rw [bagBook_modTray, hf]
  exact congrArg (fun source => ({ bagBook s with source } : BagBook)) (Function.update_eq_self t (bagBook s).source)

/-- The Count Unit's record changed outside the trays. -/
theorem ledger_modCount {f : CountUnit → CountUnit} (ht : (f s.count).trays = s.count.trays) :
    ledger (modCount f s) = { ledger s with
      busy := stationBusy (modCount f s), run := (f s.count).running.map (·.tray) } := by
  simp only [ledger, modCount, trayOf, ht]

theorem bagBook_modCount {f : CountUnit → CountUnit} (ht : (f s.count).trays = s.count.trays) :
    bagBook (modCount f s) = bagBook s := by
  simp only [bagBook, modCount, trayOf, ht]
  rfl

@[simp] theorem register_holdEntry (s : State) :
    register (holdEntry s) = ({ ledger s with held := (ledger s).held + 1 }, bagBook s) := rfl

theorem register_releaseEntry (s : State) :
    register (releaseEntry s) = ({ ledger s with held := (ledger s).held - 1 }, bagBook s) := register_journalMarks ..

theorem ledger_releaseEntry (s : State) : ledger (releaseEntry s) = { ledger s with held := (ledger s).held - 1 } :=
  congrArg Prod.fst (register_releaseEntry s)

theorem bagBook_releaseEntry (s : State) : bagBook (releaseEntry s) = bagBook s := congrArg Prod.snd (register_releaseEntry s)

/-- Tray records after a count that ends without a result, and the entry released (R89). -/
theorem ledger_invalidate (t : TrayIx) (s : State) : ledger (invalidate t s) = { ledger s with
    held := (ledger s).held - 1, tray := update (ledger s).tray t .invalid } := by
  rw [invalidate, ledger_releaseEntry, ledger_of_register (register_report _), ledger_modTray]

theorem bagBook_invalidate (t : TrayIx) (s : State) : bagBook (invalidate t s) = bagBook s := by
  rw [invalidate, bagBook_releaseEntry, bagBook_of_register (register_report _), bagBook_modTray_same rfl]

theorem ledger_beginRun (p : Port) (tag : Tag) (ops : List Nat) (t : TrayIx) (k : Option Nat) (s : State) :
    ledger (beginRun p tag ops t k s) = { ledger s with busy := true, run := some t } := by
  unfold beginRun
  rw [ledger_of_register (register_setSlot ..), sendSelect, ledger_modCount (by split <;> rfl), ledger_modCount rfl]
  simp only [stationBusy, modCount]
  split <;> simp

theorem bagBook_beginRun (p : Port) (tag : Tag) (ops : List Nat) (t : TrayIx) (k : Option Nat) (s : State) :
    bagBook (beginRun p tag ops t k s) = bagBook s := by
  unfold beginRun
  rw [bagBook_of_register (register_setSlot ..), sendSelect, bagBook_modCount (by split <;> rfl), bagBook_modCount rfl]

/-- The bag records after a source is marked: an inbound bag is COUNTING (R81). -/
def markedBags (src : Source) (bags : Vector BagRec 32) : Vector BagRec 32 :=
  match src with
  | .inbound b => put bags b { look bags b with state := .counting }
  | .drawer _ _ | .pouch _ _ _ | .compartment _ | .loose => bags

theorem ledger_markSource (t : TrayIx) (src : Source) (s : State) : ledger (markSource t src s) = ledger s := by
  cases src with
  | compartment c => exact ledger_of_register ((register_report _).trans (register_markOut c t s))
  | _ => rfl

theorem bagBook_markSource (t : TrayIx) (src : Source) (s : State) :
    bagBook (markSource t src s) = { bagBook s with bags := markedBags src (bagBook s).bags } := by
  cases src with
  | compartment c => exact bagBook_of_register ((register_report _).trans (register_markOut c t s))
  | _ => rfl

/-- A source that is ready is one that a tray can take (R81). -/
theorem BagBook.Sound.taken {src : Source} (h : (bagBook s).Sound) (ready : sourceReady s src = true) (t : TrayIx) :
    ({ bagBook s with bags := markedBags src (bagBook s).bags
                      source := update (bagBook s).source t (some src) } : BagBook).Sound := by
  cases src with
  | inbound b =>
    simp only [sourceReady, Bool.and_eq_true, beq_iff_eq] at ready
    obtain ⟨dir, state⟩ := ready
    have inward : (look (bagBook s).bags b).dir = some .inbound := dir
    have was : (look (bagBook s).bags b).state = .received := state
    have free (u : TrayIx) : (bagBook s).source u ≠ some (.inbound b) := fun hu => by
      have counted := h.counts u b hu
      simp [countedBag, was] at counted
    have marked := h.bag (r := { look (bagBook s).bags b with state := .counting })
      (fun _ => h.empty b (.inr (.inr (by rw [inward]; simp)))) (by simp [was]) (by simp)
      (fun l hl hb => absurd (h.inbound l hl b hb).2 (by simp [was])) (fun ⟨u, hu⟩ => absurd hu (free u))
    refine marked.sourced (fun c hc => ?_) fun c hc u _ hu => ?_
    · cases hc
      simpa using ⟨dir, .inl rfl⟩
    · cases hc
      exact free u hu
  | _ => exact h.sourced (by simp) (by simp)

theorem BagBook.Within.taken {src : Source} (h : g.Within) (t : TrayIx) :
    ({ g with bags := markedBags src g.bags, source := update g.source t (some src) } : BagBook).Within := by
  cases src with
  | inbound b => exact (h.bag (.inl rfl) : ({ g with bags := put g.bags b { look g.bags b with state := .counting } } : BagBook).Within)
  | _ => exact h

end Sys2Proof.Machine
end

section
/-! The Count Unit's attempts and the posting of a tray keep the invariants of counting, bags and caps (R76, R80 to R94, R114 to
R119, R133). -/

namespace Sys2Proof.Machine

open Function (update)

variable {s u : State} {t : TrayIx}

/-! ## The source's cash taken into the tray (R81, R82) -/

theorem occupancy_eq (s : State) : occupancy s = (ledger s).entries.length + (ledger s).held := rfl

theorem occupancy_applyMove {m : Movement} (unheld : m.held = false) : occupancy (applyMove m s) = occupancy s + 1 := by
  rw [occupancy_eq, ledger_applyMove, occupancy_eq]
  simp only [unheld, List.length_append, List.length_singleton, Bool.false_eq_true, if_false]
  omega

/-- A source's whole holding taken leaves the bag it came from empty. -/
theorem countOutMove_bagsOk (src : Source) (t : TrayIx) (p : Port) (ops : List Nat) (manual : Bool) (s : State) :
    (countOutMove src t p ops manual s).BagsOk s := by
  intro b hb
  cases src with
  | inbound c =>
    have same : b = c := by simpa [Movement.ends, countOutMove, sourceContainer] using hb
    subst same
    refine .inr (.inl (eq_of_look fun i => ?_))
    rw [look_heldAfter _ _ _ _ (by simp [formOf, countOutMove])]
    simp [countOutMove, sourceContainer, sourceVector]
  | _ => simp [Movement.ends, countOutMove, sourceContainer] at hb

variable {src : Source} {p : Port} {ops : List Nat} {manual : Bool}

/-- The movements that take a source's cash keep the invariants, where the Store has passed them; they take one free entry at most. -/
theorem keeps_sourceMoves
    (pass : allZero (sourceVector s src) = false → checkMovement 2 (countOutMove src t p ops manual s) s = .pass) :
    Keeps s ((sourceMoves src t p ops manual s).foldl (fun acc m => applyMove m acc) s) := by
  unfold sourceMoves
  split
  · exact .refl s
  · next some' =>
    have passed := pass (by simpa using some')
    have room : occupancy s < 512 := Nat.lt_of_succ_le (Nat.le_of_succ_le (room_of_pass passed Nat.two_pos))
    exact keeps_applyMove rfl room (fits_of_pass passed) (countOutMove_bagsOk src t p ops manual s)

/-- An entry is still free once a source's cash is taken. -/
theorem occupancy_sourceMoves
    (free : if allZero (sourceVector s src) then occupancy s < 512 else occupancy s + 2 ≤ 512) :
    occupancy ((sourceMoves src t p ops manual s).foldl (fun acc m => applyMove m acc) s) < 512 := by
  unfold sourceMoves
  split
  · next zero => simpa [zero] using free
  · next some' =>
    rw [if_neg some'] at free
    rw [List.foldl_cons, List.foldl_nil, occupancy_applyMove rfl]
    omega

/-- A movement of trays and tills alone leaves the bag book. -/
theorem bagBook_applyMove_unnamed {m : Movement} (hc : ∀ c, .comp c ∉ m.ends) (hb : ∀ b, .bag b ∉ m.ends) :
    bagBook (applyMove m s) = bagBook s := by
  have comps : (applyMove m s).store.compHold = s.store.compHold :=
    eq_of_look fun c => (holding_applyMove m s (.comp c)).trans (heldAfter_of_not_mem m s _ (hc c))
  have bags : (applyMove m s).store.bagHold = s.store.bagHold :=
    eq_of_look fun b => (holding_applyMove m s (.bag b)).trans (heldAfter_of_not_mem m s _ (hb b))
  rw [bagBook_applyMove, comps, bags]
  rfl

/-! ## The start (R80 to R83, R93) -/

/-- The bag book after a source is named to a tray and marked. -/
theorem bagBook_startCount (p : Port) (tag : Tag) (ops : List Nat) (src : Source) (t : TrayIx) (v : Counts) (n : Nat)
    (k : Option Nat) (s : State) : bagBook (startCount p tag ops src t v n k s) = { bagBook s with
      bags := markedBags src (bagBook s).bags, source := update (bagBook s).source t (some src) } := by
  unfold startCount
  rw [bagBook_beginRun, bagBook_of_register (register_recordFill ..), bagBook_of_register (register_giveCount ..),
    bagBook_markSource, bagBook_modTray]

theorem ledger_startCount (p : Port) (tag : Tag) (ops : List Nat) (src : Source) (t : TrayIx) (v : Counts) (n : Nat)
    (k : Option Nat) (s : State) : ledger (startCount p tag ops src t v n k s) = { ledger s with
      busy := true, run := some t, tray := update (ledger s).tray t .counting } := by
  unfold startCount
  rw [ledger_beginRun, ledger_of_register (register_recordFill ..), ledger_of_register (register_giveCount ..),
    ledger_markSource, ledger_modTray]

/-- A source is ready as long as the tills and the bags are as they were. -/
theorem sourceReady_congr (hf : u.float.tills = s.float.tills) (hb : u.courier.bags = s.courier.bags) (src : Source) :
    sourceReady u src = sourceReady s src := by
  cases src <;> simp [sourceReady, hf, hb]

/-- A count begun on a state in which the entry is held. -/
theorem keeps_startCount {w : State} (hw : register w = register (holdEntry u)) (idle : stationBusy u = false)
    (room : occupancy u < 512) (ready : sourceReady u src = true) (tag : Tag) (v : Counts) (n : Nat) (k : Option Nat) :
    Keeps u (startCount p tag ops src t v n k w) := by
  have hl : ledger w = { ledger u with held := (ledger u).held + 1 } := congrArg Prod.fst hw
  have hb : bagBook w = bagBook u := congrArg Prod.snd hw
  refine ⟨fun h => ?_, fun h => ?_, fun _ h => ?_⟩
  · rw [ledger_startCount, hl]
    exact h.begin idle room t
  · rw [bagBook_startCount, hb]
    exact h.taken ready t
  · rw [bagBook_startCount, hb]
    exact h.taken t

theorem keeps_startTry (tag : Tag) (arg : SourceArg) (tray : Option TrayIx) (n : Nat) :
    Keeps s ((startTry p tag ops arg tray n s).left s) := by
  have started (src : Source) (t : TrayIx) (ready : sourceReady s src = true) (idle : stationBusy s = false) (ms : List Movement)
      (k : Option Nat) (hms : ms = sourceMoves src t p ops false s)
      (free : if allZero (sourceVector s src) then occupancy s < 512 else occupancy s + 2 ≤ 512)
      (pass : allZero (sourceVector s src) = false → checkMovement 2 (countOutMove src t p ops false s) s = .pass) :
      Keeps s (startCount p tag ops src t (sourceVector s src) n k (storeEvent ms true s)) := by
    subst hms
    have still : sourceReady ((sourceMoves src t p ops false s).foldl (fun acc m => applyMove m acc) s) src = sourceReady s src :=
      sourceReady_congr (by unfold sourceMoves; split <;> simp) (by simp) src
    exact (keeps_sourceMoves pass).trans (keeps_startCount (register_journalMarks ..) (by simpa [stationBusy] using idle)
      (occupancy_sourceMoves free) (still.trans ready) ..)
  unfold startTry
  dsimp only
  split
  · exact .refl s
  · split
    · exact .refl s
    · next src _ =>
      split
      · exact .refl s
      · next ready =>
        split
        · exact .refl s
        · next idle =>
          split
          · exact .refl s
          · next t _ =>
            split
            · exact .refl s
            · exact .refl s
            · next pass =>
              refine started src t (by simpa using ready) (by simpa using idle) _ _ ?_ ?_ fun hz => ?_
              · unfold sourceMoves; split <;> simp_all
              · have room := room_of_pass pass (by split <;> decide)
                by_cases hz : allZero (sourceVector s src) = true
                · rw [if_pos hz] at room ⊢; exact room
                · rw [if_neg hz] at room ⊢; exact room
              · rw [hz] at pass
                exact pass

theorem keeps_recountTry (tag : Tag) (t : TrayIx) (n : Nat) : Keeps s ((recountTry p tag ops t n s).left s) := by
  unfold recountTry
  dsimp only
  split_ifs with _ _ _ busy
  · exact .refl s
  · exact .refl s
  · exact .refl s
  · exact .refl s
  · split
    · exact .refl s
    · exact .refl s
    · next pass =>
      have room : occupancy s < 512 := room_of_pass pass Nat.one_pos
      have held : register (storeEvent [] true s) = register (holdEntry s) := register_journalMarks ..
      have ledger' : ledger (storeEvent [] true s) = { ledger s with held := (ledger s).held + 1 } := congrArg Prod.fst held
      refine .ofLedger ?_ fun h => ?_ <;> dsimp only [Attempt.left]
      · rw [bagBook_beginRun, bagBook_of_register (register_recordFill ..), bagBook_of_register (register_giveCount ..),
          bagBook_of_register (register_clearPending ..), bagBook_of_register (register_report ..), bagBook_modTray_same rfl]
        exact congrArg Prod.snd held
      · rw [ledger_beginRun, ledger_of_register (register_recordFill ..), ledger_of_register (register_giveCount ..),
          ledger_of_register (register_clearPending ..), ledger_of_register (register_report ..), ledger_modTray,
          ledger']
        exact h.begin (eq_false_of_ne_true busy) room t

/-! ## The end of a count (R76, R88 to R92) -/

/-- The ledger of a count that ends with its tray INVALID and the held entry released (R89). -/
theorem Ledger.Sound.invalidated {r : RunningCount} (h : (ledger s).Sound) (run : s.count.running = some r) :
    ({ ledger s with held := (ledger s).held - 1, busy := false, run := none
                     tray := update (ledger s).tray r.tray .invalid } : Ledger).Sound :=
  h.finish (by simp [ledger, run]) (by simp)

/-- The fault count of a station whose count has failed (R76). -/
def faultsAfter (k : FaultReason) (s : State) : Nat := if machineFault k then s.count.faults + 1 else s.count.faults

/-- The failure puts the station DOWN: it is the machine's, and the second (R76). -/
def goesDown (k : FaultReason) (s : State) : Bool := machineFault k && decide (2 ≤ faultsAfter k s)

/-- The station and the Counter Link of a count that has failed (R71, R76, R89). -/
def stationFailed (k : FaultReason) (s : State) : State :=
  modCount (fun u => { u with station := if goesDown k s then .down else .idle, faults := faultsAfter k s, running := none })
    (if abandonsOn k then sendAbandon s else modCount (fun u => { u with exchange := none, selectWaiting := false }) s)

/-- The request of a failed count answered, after COUNT_FAULT (R89, R205). -/
def faultAnswered (k : FaultReason) (r : RunningCount) (s : State) : State :=
  answer r.port r.tag .countFault (faultDetail k) []
    (raise .countFault (.tray r.tray)
      [.u8 (faultDetail k), countField (trayOf (invalidate r.tray (stationFailed k s)) r.tray).count]
      (invalidate r.tray (stationFailed k s)))

/-- A failure: the station and the tray, the request answered, then the count waiters answered or the pass over them called for. -/
theorem failCount_eq {r : RunningCount} (k : FaultReason) (run : s.count.running = some r) :
    failCount k s = if goesDown k s then
        dismissCounts (fun _ => true) .counterDown (raise .counterDown .station [.u8 (faultDetail k)] (faultAnswered k r s))
      else signal .countPass (faultAnswered k r s) := by
  unfold failCount
  rw [run]
  rfl

theorem ledger_stationFailed (k : FaultReason) (s : State) :
    ledger (stationFailed k s) = { ledger s with busy := false, run := none } := by
  unfold stationFailed
  rw [ledger_modCount rfl]
  split <;> simp only [stationBusy, modCount] <;> split <;> rfl

theorem bagBook_stationFailed (k : FaultReason) (s : State) : bagBook (stationFailed k s) = bagBook s := by
  unfold stationFailed
  rw [bagBook_modCount rfl]
  split <;> rfl

theorem keeps_failCount (k : FaultReason) : Keeps s (failCount k s) := by
  match run : s.count.running with
  | none => rw [failCount, run]; exact .refl s
  | some r =>
    have failed : Keeps s (invalidate r.tray (stationFailed k s)) := by
      refine .ofLedger (by rw [bagBook_invalidate, bagBook_stationFailed]) fun h => ?_
      rw [ledger_invalidate, ledger_stationFailed]
      exact h.invalidated run
    rw [failCount_eq k run]
    split
    · exact failed.beside (by simp [faultAnswered])
    · exact failed.beside (by simp [faultAnswered])

theorem keeps_abandonCount : Keeps s (abandonCount s) := by
  unfold abandonCount
  split
  · exact .refl s
  · next r run =>
    refine .ofLedger ?_ fun h => ?_
    · rw [bagBook_of_register (register_signal ..), bagBook_invalidate]
      rfl
    · rw [ledger_of_register (register_signal ..), ledger_invalidate]
      exact h.invalidated run

/-- An inbound bag counted: a COUNTING one becomes COUNTED (R110). -/
theorem keeps_countedBag {b : BagIx} (was : (bagOf s b).state = .counting) :
    Keeps s (modBag b (fun r => { r with state := .counted }) s) := by
  have was : (look (bagBook s).bags b).state = .counting := was
  refine .ofBags rfl (fun h => ?_) fun _ h => h.bag (.inl rfl)
  refine h.bag (r := { look (bagBook s).bags b with state := .counted }) (fun bare => ?_) (by simp [was]) (by simp)
    (fun l hl hb => ?_) fun ⟨t, ht⟩ => ?_
  · exact h.empty b (by simpa [BagRec.bare, was] using bare)
  · exact absurd (h.inbound l hl b hb).2 (by simp [was])
  · exact ⟨(h.counts t b ht).1, .inr rfl⟩

theorem keeps_handOver (t : TrayIx) : Keeps s (handOver t s) := by
  unfold handOver
  split
  · next src _ =>
    cases src with
    | drawer i n =>
      dsimp only [reconcile]
      split
      · exact .same (by simp)
      · exact .refl s
    | pouch i n k =>
      dsimp only [reconcile]
      split <;> exact .same (by simp)
    | inbound b =>
      dsimp only [reconcile, inboundComplete]
      have counted : Keeps s (if (bagOf s b).state = .counting then report (modBag b (fun r => { r with state := .counted }) s) else s) := by
        split
        · next was => exact (keeps_countedBag was).beside (register_report _)
        · exact .refl s
      split
      · exact counted.beside (by simp)
      · exact counted.beside (by simp)
    | compartment c =>
      dsimp only [reconcile, compartmentComplete]
      split <;> exact .same (by simp)
    | loose => exact .same (by simp [reconcile])
  · exact .refl s

theorem countResultMove_ends (t : TrayIx) (v : Counts) (p : Port) (ops : List Nat) (f : MoveFlags) (b : Bool) :
    (countResultMove t v p ops f b).ends = [.tray t] := rfl

theorem keeps_completeCount (v : Counts) (n : Nat) (f : TrayFlags) : Keeps s (completeCount v n f s) := by
  unfold completeCount
  split
  · exact .refl s
  · next r run =>
    dsimp only
    refine Keeps.beside (Keeps.trans (Keeps.beside (Keeps.ofLedger ?_ fun h => ?_) ((register_answer ..).trans
      (register_raiseCountDone ..))) (keeps_handOver r.tray)) (register_signal ..)
    · rw [bagBook_modCount rfl, bagBook_of_register (register_report _), bagBook_modTray_same rfl,
        bagBook_of_register (register_storeEvent ..)]
      exact bagBook_applyMove_unnamed (by simp [countResultMove_ends]) (by simp [countResultMove_ends])
    · rw [ledger_modCount rfl, ledger_of_register (register_report _), ledger_modTray,
        ledger_of_register (register_storeEvent ..), List.foldl_cons, List.foldl_nil, ledger_applyMove]
      exact h.complete (e := entryOf _ s) (t := r.tray) (by simp [ledger, run]) (by simp) rfl

/-! ## The manual count (R94) -/

theorem keeps_manualDone {v : State} (k : Option Nat) (n : Nat) (h : (trayOf s t).state ≠ .counting) :
    Keeps s ((manualDone t ops k n s).left v) := by
  refine Keeps.trans (Keeps.ofLedger ?_ fun l => ?_) (keeps_handOver t)
  · rw [bagBook_of_register (register_raiseCountDone ..), bagBook_of_register (register_recordFill ..),
      bagBook_of_register (register_giveCount ..), bagBook_of_register (register_report _), bagBook_modTray_same rfl]
  · rw [ledger_of_register (register_raiseCountDone ..), ledger_of_register (register_recordFill ..),
      ledger_of_register (register_giveCount ..), ledger_of_register (register_report _), ledger_modTray]
    exact l.tray h (by simp)

/-- A count by hand in the Store (R94): one entry more. -/
theorem keeps_handResult (t : TrayIx) (v : Counts) (f : MoveFlags) (room : occupancy s < 512) :
    Keeps s (applyMove (countResultMove t v p ops f false) s) :=
  .ofLedger (bagBook_applyMove_unnamed (by simp [countResultMove_ends]) (by simp [countResultMove_ends]))
    (counting_applyMove rfl room)

theorem keeps_manualInvalid (v : Counts) (h : (trayOf s t).state = .invalid) : Keeps s ((manualInvalid p ops t v s).left s) := by
  unfold manualInvalid
  dsimp only
  split
  · exact .refl s
  · exact .refl s
  · next pass =>
    refine Keeps.trans ((keeps_handResult t v _ (room_of_pass pass Nat.one_pos)).beside (register_storeEvent _ _)) (keeps_manualDone _ _ ?_)
    have same : trayOf (storeEvent [countResultMove t v p ops { MoveFlags.clear with manual := true } false] false s) t = trayOf s t := by
      simp [trayOf]
    rw [same, h]
    simp

/-- A source named to a tray that is not counting, and marked (R81). -/
theorem keeps_sourceNamed (ready : sourceReady s src = true) (f : TrayRec → TrayRec)
    (hs : ∀ r, (f r).state = r.state) (hf : ∀ r, (f r).source = some src) :
    Keeps s (modTray t f (markSource t src s)) := by
  have bag : bagBook (modTray t f (markSource t src s)) = { bagBook s with
      bags := markedBags src (bagBook s).bags, source := update (bagBook s).source t (some src) } := by
    rw [bagBook_modTray, bagBook_markSource, hf]
  refine .ofBags ?_ (fun h => bag ▸ h.taken ready t) fun _ h => bag ▸ h.taken t
  rw [ledger_modTray, ledger_markSource, hs]
  simp [trayOf, ledger]

theorem keeps_manualTry (v : Counts) (arg : SourceArg) : Keeps s ((manualTry p ops t v arg s).left s) := by
  have made (src : Source) (empty : (trayOf s t).state = .empty) (ready : sourceReady s src = true) (f : TrayRec → TrayRec)
      (hs : ∀ r, (f r).state = r.state) (hf : ∀ r, (f r).source = some src) (k : Option Nat) (n : Nat) (ms : List Movement)
      (hms : ms = sourceMoves src t p ops true s ++ [countResultMove t v p ops { MoveFlags.clear with manual := true } false])
      (free : if allZero (sourceVector s src) then occupancy s < 512 else occupancy s + 2 ≤ 512)
      (pass : allZero (sourceVector s src) = false → checkMovement 2 (countOutMove src t p ops true s) s = .pass) :
      Keeps s ((manualDone t ops k n (modTray t f (markSource t src (storeEvent ms false s)))).left s) := by
    have stored : Keeps s (storeEvent ms false s) := by
      refine Keeps.beside ?_ (register_storeEvent _ _)
      rw [hms, List.foldl_append, List.foldl_cons, List.foldl_nil]
      exact (keeps_sourceMoves pass).trans (keeps_handResult t v _ (occupancy_sourceMoves free))
    have still : sourceReady (storeEvent ms false s) src = sourceReady s src := sourceReady_congr (by simp) (by simp) src
    refine (stored.trans (keeps_sourceNamed (still.trans ready) f hs hf)).trans (keeps_manualDone k n ?_)
    have same : trayOf (markSource t src (storeEvent ms false s)) t = trayOf s t := by simp [trayOf]
    have named : (trayOf (modTray t f (markSource t src (storeEvent ms false s))) t).state = (trayOf s t).state := by
      rw [trayOf, modTray, look_put_self, hs, same]
    rw [named, empty]
    simp
  unfold manualTry
  dsimp only
  split
  · exact .refl s
  · next empty =>
    split
    · exact .refl s
    · split
      · exact .refl s
      · next src _ =>
        split
        · exact .refl s
        · next ready =>
          split
          · exact .refl s
          · exact .refl s
          · next pass =>
            have first := (checkEvent_cons_pass pass).1
            have room := room_of_pass first (by split <;> decide)
            split
            · next hz =>
              rw [if_pos hz] at room
              exact made src (not_not.mp empty) (by simpa using ready)
                (fun r => { r with source := some src, prior := sourceVector s src }) (fun _ => rfl) (fun _ => rfl)
                none s.store.journal.nextSeq _ (by rw [sourceMoves, if_pos hz]; rfl) (by rw [if_pos hz]; exact room) fun hf => absurd hz (by simp [hf])
            · next hz =>
              rw [if_neg hz] at room
              rw [if_neg hz, if_neg hz] at first
              exact made src (not_not.mp empty) (by simpa using ready)
                (fun r => { r with source := some src, prior := sourceVector s src }) (fun _ => rfl) (fun _ => rfl)
                (some s.store.journal.nextSeq) (seqAfter s.store.journal.nextSeq) _
                (by rw [sourceMoves, if_neg hz]; rfl) (by rw [if_neg hz]; exact room) fun _ => first

/-! ## Posting (R114 to R119, R133, R134) -/

/-- The bag records after a tray is emptied: an inbound bag it stood for is FREE (R115). -/
def freedBags (src : Option Source) (bags : Vector BagRec 32) : Vector BagRec 32 :=
  match src with
  | some (.inbound b) => put bags b BagRec.free
  | some (.drawer _ _) | some (.pouch _ _ _) | some (.compartment _) | some .loose | none => bags

theorem register_modBag (b : BagIx) (f : BagRec → BagRec) (s : State) : register (modBag b f s) =
    (ledger s, { bagBook s with bags := put (bagBook s).bags b (f (bagOf s b)) }) := rfl

theorem register_posted (t : TrayIx) (s : State) : register (posted t s) =
    ({ ledger s with tray := update (ledger s).tray t .empty },
     { bagBook s with source := update (bagBook s).source t none, bags := freedBags (trayOf s t).source (bagBook s).bags }) := by
  have led : ledger (modTray t emptied s) = _ := ledger_modTray t emptied s
  have bag : bagBook (modTray t emptied s) = _ := bagBook_modTray t emptied s
  have cleared : ∀ x : ReconUnit, register (clearPending t { report (modTray t emptied s) with recon := x })
      = ({ ledger s with tray := update (ledger s).tray t .empty }, { bagBook s with source := update (bagBook s).source t none }) :=
    fun x => Prod.ext led bag
  unfold posted
  dsimp only
  rw [register_signal]
  cases (trayOf s t).source with
  | none => exact cleared _
  | some src =>
    cases src with
    | inbound b =>
      dsimp only
      rw [register_modBag]
      exact Prod.ext led (congrArg (fun g : BagBook => ({ g with bags := put g.bags b BagRec.free } : BagBook)) bag)
    | compartment c => exact (register_clearOut ..).trans (cleared _)
    | _ => exact cleared _

theorem keeps_posted (h : (trayOf s t).state ≠ .counting) : Keeps s (posted t s) := by
  have led : ledger (posted t s) = _ := congrArg Prod.fst (register_posted t s)
  have bag : bagBook (posted t s) = _ := congrArg Prod.snd (register_posted t s)
  dsimp only at led bag
  refine ⟨fun l => led ▸ l.tray h (by simp), fun g => ?_, fun g w => ?_⟩ <;> rw [bag]
  · have cleared := g.sourced (t := t) (src := none) (by simp) (by simp)
    cases hs : (trayOf s t).source with
    | none => exact cleared
    | some src =>
      cases src with
      | inbound b =>
        have named : (bagBook s).source t = some (.inbound b) := hs
        have counted := g.counts t b named
        refine cleared.bag (r := BagRec.free) (fun _ => g.empty b (.inr (.inr (by simp [counted.1])))) ?_ (by simp [BagRec.free])
          (fun l hl hb => ?_) fun ⟨u, hu⟩ => ?_
        · rintro (e : (look (bagBook s).bags b).state = .staged)
          simp [countedBag, e] at counted
        · have : (look (bagBook s).bags b).state = .announced := (g.inbound l hl b hb).2
          simp [countedBag, this] at counted
        · by_cases e : u = t
          · subst e; simp at hu
          · exact absurd (g.distinct u t b (by simpa [e] using hu) named) e
      | _ => exact cleared
  · cases hs : (trayOf s t).source with
    | none => exact w
    | some src =>
      cases src with
      | inbound b =>
        have counted := g.counts t b (hs : (bagBook s).source t = some (.inbound b))
        exact (w.bag (.inr (g.empty b (.inr (.inr (by simp [counted.1]))))) : ({ bagBook s with bags := put (bagBook s).bags b BagRec.free } : BagBook).Within)
      | _ => exact w

theorem keeps_deposit (c : CompIx) (d : Bool) (pass : checkMovement 1 (postMove t c d p ops s) s = .pass)
    (h : (trayOf s t).state = .counted) : Keeps s ((deposit t c d p ops s).left s) := by
  have stored := keeps_taken pass rfl (bagsOk_of_unnamed fun b => by simp [Movement.ends, postMove])
  have same : trayOf (storeEvent [postMove t c d p ops s] false s) t = trayOf s t := by simp [trayOf]
  exact stored.trans (keeps_posted (by rw [same, h]; simp))

theorem keeps_depositRule (h : (trayOf s t).state = .counted) : Keeps s ((depositRule t p ops s).left s) := by
  unfold depositRule
  split
  · exact .refl s
  · next first _ =>
    split
    · next pass => exact keeps_deposit first false pass h
    · exact .refl s
    · split
      · split
        · next c walked =>
          have made := keeps_deposit c true (walkOverflow_pass walked) h
          dsimp only [deposit, Attempt.left] at made ⊢
          exact made.beside (register_raise ..)
        · exact .same (register_raise ..)
      · exact .refl s

theorem keeps_postTry (n : Option (Option CountNumber)) : Keeps s ((postTry t n p ops s).left s) := by
  unfold postTry
  dsimp only
  split
  · exact .refl s
  · split
    · exact .refl s
    · next counted =>
      have rule : Keeps s ((depositRule t p ops (clearPending t s)).left s) := by
        have tried := (Keeps.same (register_clearPending t s)).trans (keeps_depositRule (p := p) (ops := ops) (not_not.mp counted))
        generalize depositRule t p ops (clearPending t s) = a at tried
        cases a with
        | queued _ => exact .refl s
        | _ => exact tried
      split
      · split
        · exact .refl s
        · exact rule
      · exact rule

theorem keeps_autoPostTry (t : TrayIx) : Keeps s (autoPostTry t s) := by
  unfold autoPostTry
  dsimp only
  split
  · have tried := (Keeps.same (register_clearAutoPost t s)).trans
      (keeps_postTry (t := t) (p := .office) (ops := look s.recon.fillOps t) none)
    generalize postTry t none .office (look s.recon.fillOps t) (clearAutoPost t s) = a at tried
    cases a with
    | done u results => exact tried
    | refused c u =>
      dsimp only [raisePostHeld]
      split
      · exact tried
      · exact Keeps.beside (t := u) tried (register_raise ..)
    | parked r c u => exact Keeps.beside (t := u) tried rfl
    | running u => exact .refl s
    | queued park => exact .refl s
  · exact .refl s

end Sys2Proof.Machine
end

section
/-! Bags, windows and the handover session keep the invariants of bags and caps (R145 to R158, R162, R170 to R174). -/

namespace Sys2Proof.Machine

open Function (update)

variable {g : BagBook} {s : State} {bags : Vector BagRec 32}

/-! ## Changes of the bag book -/

/-- Records changed outside places and holdings, or of empty bags, leave the cap loads. -/
theorem BagBook.Within.records (h : g.Within) {staged : WindowIx → List BagIx} {inbound : Option (List BagIx)}
    (hb : ∀ b, (look bags b).location = (look g.bags b).location ∨ look g.bagHold b = Counts.zero) :
    ({ g with bags, staged, inbound } : BagBook).Within :=
  Within.same (g := g) (BagBook.load_same rfl rfl fun b => (hb b).imp (fun e => ⟨e, rfl⟩) fun z => ⟨z, z⟩) rfl h

/-- Every bag of a window's list is CLOSED again and the list empty (R156). -/
theorem BagBook.Sound.unstaged (h : g.Sound) (w : WindowIx)
    (hb : ∀ b, look bags b = if b ∈ g.staged w then Machine.unstaged (look g.bags b) else look g.bags b) :
    ({ g with bags, staged := update g.staged w [] } : BagBook).Sound := by
  have mine (b : BagIx) (hm : b ∈ g.staged w) := h.staged b ((h.listed w b).mp hm).1
  refine ⟨fun b => ?_, fun v b => ?_, fun v => ?_, fun b => ?_, fun l hl b hm => ?_, fun t b ht => ?_, h.distinct⟩ <;>
    dsimp only
  · rw [hb]
    split
    · next hm => simp [BagRec.bare, Machine.unstaged, (mine b hm).2]
    · exact h.empty b
  · rw [hb]
    by_cases hv : v = w
    · subst hv
      by_cases hm : b ∈ g.staged v
      · simp [hm, Machine.unstaged]
      · simpa [hm] using fun e => (fun k => hm ((h.listed v b).mpr ⟨e, k⟩))
    · by_cases hm : b ∈ g.staged w
      · have other : b ∉ g.staged v := fun hm' =>
          hv (Option.some.inj (((h.listed v b).mp hm').2.symm.trans ((h.listed w b).mp hm).2))
        simp [hv, hm, other, Machine.unstaged]
      · simpa [hv, hm] using h.listed v b
  · by_cases hv : v = w
    · subst hv; simp
    · simpa [hv] using h.once v
  · rw [hb]
    split
    · simp [Machine.unstaged]
    · exact h.staged b
  · have announced := h.inbound l hl b hm
    rw [hb, if_neg fun hm' => by simp [((h.listed w b).mp hm').1] at announced]
    exact announced
  · have counted := h.counts t b ht
    rw [hb, if_neg fun hm' => by simp [countedBag, ((h.listed w b).mp hm').1] at counted]
    exact counted

/-- A STAGED bag dropped from its window's list (R152). -/
theorem BagBook.Sound.dropped (h : g.Sound) {b : BagIx} {w : WindowIx} (window : (look g.bags b).window = some w)
    (state : (look g.bags b).state = .staged) :
    ({ g with bags := put g.bags b (Machine.unstaged (look g.bags b))
              staged := update g.staged w ((g.staged w).filter (· ≠ b)) } : BagBook).Sound := by
  have here := (h.listed w b).mpr ⟨state, window⟩
  refine ⟨fun c => ?_, fun v c => ?_, fun v => ?_, fun c => ?_, fun l hl c hm => ?_, fun t c ht => ?_, h.distinct⟩ <;>
    dsimp only
  · by_cases e : c = b
    · subst e; simp [BagRec.bare, Machine.unstaged, (h.staged c state).2]
    · simpa [look_put_ne _ _ e] using h.empty c
  · by_cases e : c = b
    · subst e
      by_cases hv : v = w
      · subst hv; simp [Machine.unstaged]
      · have : c ∉ g.staged v := fun hm => hv (Option.some.inj (((h.listed v c).mp hm).2.symm.trans window))
        simp [hv, this, Machine.unstaged]
    · by_cases hv : v = w
      · subst hv; simpa [look_put_ne _ _ e, e] using h.listed v c
      · simpa [look_put_ne _ _ e, hv] using h.listed v c
  · by_cases hv : v = w
    · subst hv; simpa using (h.once v).filter _
    · simpa [hv] using h.once v
  · by_cases e : c = b
    · subst e; simp [Machine.unstaged]
    · simpa [look_put_ne _ _ e] using h.staged c
  · have announced := h.inbound l hl c hm
    rw [look_put_ne _ _ fun e => by simp [e, state] at announced]
    exact announced
  · have counted := h.counts t c ht
    rw [look_put_ne _ _ fun e => by simp [countedBag, e, state] at counted]
    exact counted

/-- A CLOSED bag at the end of a window's list (R151). -/
theorem BagBook.Sound.stagedFor (h : g.Sound) {b : BagIx} (w : WindowIx) (dir : (look g.bags b).dir = some .outbound)
    (state : (look g.bags b).state = .closed) :
    ({ g with bags := put g.bags b { look g.bags b with state := .staged, window := some w }
              staged := update g.staged w (g.staged w ++ [b]) } : BagBook).Sound := by
  have away (v : WindowIx) : b ∉ g.staged v := fun hm => by simp [((h.listed v b).mp hm).1] at state
  refine ⟨fun c => ?_, fun v c => ?_, fun v => ?_, fun c => ?_, fun l hl c hm => ?_, fun t c ht => ?_, h.distinct⟩ <;>
    dsimp only
  · by_cases e : c = b
    · subst e; simp [BagRec.bare, dir]
    · simpa [look_put_ne _ _ e] using h.empty c
  · by_cases e : c = b
    · subst e
      by_cases hv : v = w
      · subst hv; simp
      · simpa [hv, away v] using Ne.symm hv
    · by_cases hv : v = w
      · subst hv; simpa [look_put_ne _ _ e, e] using h.listed v c
      · simpa [look_put_ne _ _ e, hv] using h.listed v c
  · by_cases hv : v = w
    · subst hv; simpa using (h.once v).append (List.nodup_singleton b) (by simpa using away v)
    · simpa [hv] using h.once v
  · by_cases e : c = b
    · subst e; simp [dir]
    · simpa [look_put_ne _ _ e] using h.staged c
  · have announced := h.inbound l hl c hm
    rw [look_put_ne _ _ fun e => by simp [e, state] at announced]
    exact announced
  · have counted := h.counts t c ht
    rw [look_put_ne _ _ fun e => by simp [countedBag, e, state] at counted]
    exact counted

/-- Every list emptied and every STAGED bag CLOSED (R29, R158). -/
theorem BagBook.Sound.allUnstaged (h : g.Sound)
    (hb : ∀ b, look bags b = if (look g.bags b).state = .staged then Machine.unstaged (look g.bags b) else look g.bags b) :
    ({ g with bags, staged := fun _ => [] } : BagBook).Sound := by
  refine ⟨fun b => ?_, fun v b => ?_, fun v => List.nodup_nil, fun b => ?_, fun l hl b hm => ?_, fun t b ht => ?_, h.distinct⟩ <;>
    dsimp only
  · rw [hb]
    split
    · next state => simp [BagRec.bare, Machine.unstaged, (h.staged b state).2]
    · exact h.empty b
  · rw [hb]
    split
    · simp [Machine.unstaged]
    · next state => simp [state]
  · rw [hb]
    split
    · simp [Machine.unstaged]
    · exact h.staged b
  · have announced := h.inbound l hl b hm
    rw [hb, if_neg (by simp [announced])]
    exact announced
  · have counted := h.counts t b ht
    rw [hb, if_neg fun state => by simp [countedBag, state] at counted]
    exact counted

/-- A session begun with no bag declared, or ended (R163, R174). -/
theorem BagBook.Sound.session (h : g.Sound) {inbound : Option (List BagIx)} (hi : ∀ l, inbound = some l → l = []) :
    ({ g with inbound } : BagBook).Sound :=
  ⟨h.empty, h.listed, h.once, h.staged, fun l hl b hb => by simp [hi l hl] at hb, h.counts, h.distinct⟩

/-- The announced bags of a session that has ended become RECEIVED, or FREE (R172, R173). -/
theorem BagBook.Sound.arrived (h : g.Sound) {l : List BagIx} {f : BagRec → BagRec} (none' : g.inbound = none)
    (announced : ∀ b ∈ l, (look g.bags b).dir = some .inbound ∧ (look g.bags b).state = .announced)
    (hf : ∀ r, (f r).state ≠ .staged) (hb : ∀ b, look bags b = if b ∈ l then f (look g.bags b) else look g.bags b) :
    ({ g with bags } : BagBook).Sound := by
  refine ⟨fun b => ?_, fun v b => ?_, h.once, fun b => ?_, fun l hl => ?_, fun t b ht => ?_, h.distinct⟩ <;> dsimp only
  · rw [hb]
    split
    · next hm => exact fun _ => h.empty b (.inr (.inr (by simp [announced b hm])))
    · exact h.empty b
  · rw [hb]
    split
    · next hm => simp [h.listed, announced b hm, hf]
    · exact h.listed v b
  · rw [hb]
    split
    · exact fun e => absurd e (hf _)
    · exact h.staged b
  · simp [none'] at hl
  · have counted := h.counts t b ht
    rw [hb, if_neg fun hm => by simp [countedBag, announced b hm] at counted]
    exact counted

/-- The bags of a window's list handed over, each of them empty (R171, R172). -/
theorem BagBook.Sound.handed (h : g.Sound) (w : WindowIx) (empty : ∀ b ∈ g.staged w, look g.bagHold b = Counts.zero)
    (hb : ∀ b, look bags b = if b ∈ g.staged w then Machine.handed (look g.bags b) else look g.bags b) :
    ({ g with bags, staged := update g.staged w [] } : BagBook).Sound := by
  refine ⟨fun b => ?_, fun v b => ?_, fun v => ?_, fun b => ?_, fun l hl b hm => ?_, fun t b ht => ?_, h.distinct⟩ <;>
    dsimp only
  · rw [hb]
    split
    · next hm => exact fun _ => empty b hm
    · exact h.empty b
  · rw [hb]
    by_cases hv : v = w
    · subst hv
      by_cases hm : b ∈ g.staged v
      · simp [hm, Machine.handed]
      · simpa [hm] using fun e => (fun k => hm ((h.listed v b).mpr ⟨e, k⟩))
    · by_cases hm : b ∈ g.staged w
      · have other : b ∉ g.staged v := fun hm' =>
          hv (Option.some.inj (((h.listed v b).mp hm').2.symm.trans ((h.listed w b).mp hm).2))
        simp [hv, hm, other, Machine.handed]
      · simpa [hv, hm] using h.listed v b
  · by_cases hv : v = w
    · subst hv; simp
    · simpa [hv] using h.once v
  · rw [hb]
    split
    · simp [Machine.handed]
    · exact h.staged b
  · have announced := h.inbound l hl b hm
    rw [hb, if_neg fun hm' => by simp [((h.listed w b).mp hm').1] at announced]
    exact announced
  · have counted := h.counts t b ht
    rw [hb, if_neg fun hm' => by simp [countedBag, ((h.listed w b).mp hm').1] at counted]
    exact counted

/-- HANDED and FREE records FREE with a zero holding (R26). -/
theorem BagBook.Sound.freed (h : g.Sound) {holds : Vector Counts 32}
    (hb : ∀ b, look bags b = if (look g.bags b).state = .handed ∨ (look g.bags b).state = .free then BagRec.free else look g.bags b)
    (hh : ∀ b, look holds b = look g.bagHold b) : ({ g with bags, bagHold := holds } : BagBook).Sound := by
  refine ⟨fun b => ?_, fun v b => ?_, h.once, fun b => ?_, fun l hl b hm => ?_, fun t b ht => ?_, h.distinct⟩ <;> dsimp only
  · rw [hb, hh]
    split
    · next gone => exact fun _ => h.empty b (gone.elim (.inr ∘ .inl) .inl)
    · exact h.empty b
  · rw [hb, h.listed]
    split
    · next gone => obtain e | e := gone <;> simp [e, BagRec.free]
    · rfl
  · rw [hb]
    split
    · simp [BagRec.free]
    · exact h.staged b
  · have announced := h.inbound l hl b hm
    rw [hb, if_neg (by simp [announced])]
    exact announced
  · have counted := h.counts t b ht
    rw [hb, if_neg fun gone => by obtain e | e := gone <;> simp [countedBag, e] at counted]
    exact counted

/-- A FREE record taken for an inbound bag of the session (R170). -/
theorem BagBook.Sound.declared (h : g.Sound) {b : BagIx} {l : List BagIx} {r : BagRec} (free : (look g.bags b).state = .free)
    (session : g.inbound = some l) (dir : r.dir = some .inbound) (state : r.state = .announced) :
    ({ g with bags := put g.bags b r, inbound := some (l ++ [b]) } : BagBook).Sound := by
  have record := h.bag (b := b) (r := r) (fun _ => h.empty b (.inl free)) (by simp [free]) (by simp [state])
    (fun _ _ _ => ⟨dir, state⟩) fun ⟨t, ht⟩ => by
      have counted := h.counts t b ht
      simp [countedBag, free] at counted
  refine ⟨record.empty, record.listed, record.once, record.staged, fun k hk c hc => ?_, record.counts, record.distinct⟩
  cases hk
  obtain hc | hc := List.mem_append.mp hc
  · exact record.inbound l session c hc
  · have : c = b := List.mem_singleton.mp hc
    subst this
    simpa using ⟨dir, state⟩

end Sys2Proof.Machine
end

section
/-! The operations on bags, windows, the handover session and the day keep the invariants of bags and of caps. -/

namespace Sys2Proof.Machine

open Function (update)

variable {s u : State}

/-! ## Several bag records at once, and one window's list -/

/-- Changes of the bag book that follow from one that keeps it sound. -/
theorem Keeps.ofBook {g : BagBook} (h : register u = (ledger s, g)) (hb : (bagBook s).Sound → g.Sound)
    (hc : (bagBook s).Sound → (bagBook s).Within → g.Within) : Keeps s u := by
  obtain ⟨led, book⟩ := Prod.mk.inj h
  exact .ofBags led (book ▸ hb) (book ▸ hc)

theorem register_fold_modBag (f : BagRec → BagRec) (l : List BagIx) (s : State) :
    register (l.foldl (fun acc b => modBag b f acc) s)
      = (ledger s, { bagBook s with bags := (l.foldl (fun acc b => modBag b f acc) s).courier.bags }) := by
  conv_lhs => rw [fold_modBag_eq]
  rfl

theorem register_modWindow_staged (w : WindowIx) (f : WindowRec → WindowRec) (s : State) :
    register (modWindow w f s)
      = (ledger s, { bagBook s with staged := update (bagBook s).staged w (f (windowOf s w)).staged }) := by
  have staged : (fun v => (windowOf (modWindow w f s) v).staged) = update (bagBook s).staged w (f (windowOf s w)).staged := by
    funext v
    simp only [windowOf, modWindow, look_put, Function.update_apply, apply_ite WindowRec.staged]
    rfl
  rw [← staged]
  rfl

theorem ledger_fold_modBag (f : BagRec → BagRec) (l : List BagIx) (s : State) :
    ledger (l.foldl (fun acc b => modBag b f acc) s) = ledger s := congrArg Prod.fst (register_fold_modBag f l s)

theorem bagBook_fold_modBag (f : BagRec → BagRec) (l : List BagIx) (s : State) :
    bagBook (l.foldl (fun acc b => modBag b f acc) s)
      = { bagBook s with bags := (l.foldl (fun acc b => modBag b f acc) s).courier.bags } :=
  congrArg Prod.snd (register_fold_modBag f l s)

theorem ledger_modWindow (w : WindowIx) (f : WindowRec → WindowRec) (s : State) : ledger (modWindow w f s) = ledger s := rfl

theorem bagBook_modWindow (w : WindowIx) (f : WindowRec → WindowRec) (s : State) : bagBook (modWindow w f s)
    = { bagBook s with staged := update (bagBook s).staged w (f (windowOf s w)).staged } :=
  congrArg Prod.snd (register_modWindow_staged w f s)

/-! ## The bag requests (R147 to R152) -/

/-- A FREE, OPEN or CLOSED bag's record replaced by another, not STAGED. -/
theorem keeps_modBag {b : BagIx} {f : BagRec → BagRec}
    (was : (bagOf s b).state = .free ∨ (bagOf s b).state = .opened ∨ (bagOf s b).state = .closed)
    (is : (f (bagOf s b)).state ≠ .staged) (bare : (f (bagOf s b)).bare → holding s (.bag b) = Counts.zero)
    (place : (f (bagOf s b)).location = (bagOf s b).location ∨ (bagOf s b).state = .free ∨ holding s (.bag b) = Counts.zero) :
    Keeps s (modBag b f s) := by
  have was' : (look (bagBook s).bags b).state = .free ∨ (look (bagBook s).bags b).state = .opened
      ∨ (look (bagBook s).bags b).state = .closed := was
  refine .ofBook (register_modBag b f s) (fun h => ?_) fun h hc => hc.bag ?_
  · refine h.bag bare ?_ is (fun l hl hb => ?_) fun ⟨t, ht⟩ => ?_
    · obtain e | e | e := was' <;> simp [e]
    · have announced := (h.inbound l hl b hb).2
      obtain e | e | e := was' <;> simp [e] at announced
    · have counted := (h.counts t b ht).2
      obtain e | e | e := was' <;> simp [e] at counted
  · obtain same | free | zero := place
    · exact .inl same
    · exact .inr (h.empty b (.inl free))
    · exact .inr zero

theorem outboundIn_iff {b : BagIx} {st : BagState} :
    outboundIn s b st = true ↔ (bagOf s b).dir = some .outbound ∧ (bagOf s b).state = st := by
  simp [outboundIn]

theorem lowestFree_free {b : BagIx} (h : lowestFree s = some b) : (bagOf s b).state = .free := by
  simpa using List.find?_some h

theorem keeps_replyNewBag (c : Nat) : Keeps s (replyNewBag c s).state := by
  unfold replyNewBag
  split
  · split
    · exact .refl s
    · split
      · next b hb =>
        have free := lowestFree_free hb
        dsimp only [Reply.ok]
        exact keeps_modBag (.inl free) (by simp) (by simp [BagRec.bare]) (.inr (.inl free))
      · exact .refl s
  · exact .refl s

theorem keeps_replyCloseBag (b n : Nat) : Keeps s (replyCloseBag b n s).state := by
  unfold replyCloseBag
  split
  · next b _ =>
    split; · exact .refl s
    split; · exact .refl s
    next opened =>
    split; · exact .refl s
    obtain ⟨dir, state⟩ := outboundIn_iff.mp (by simpa using opened)
    dsimp only [Reply.ok]
    exact keeps_modBag (.inr (.inl state)) (by simp) (by simp [BagRec.bare, dir]) (.inl rfl)
  · exact .refl s

theorem keeps_replyReopenBag (b : Nat) : Keeps s (replyReopenBag b s).state := by
  unfold replyReopenBag
  split
  · next b _ =>
    split
    · next closed =>
      obtain ⟨dir, state⟩ := outboundIn_iff.mp closed
      dsimp only [Reply.ok]
      exact keeps_modBag (.inr (.inr state)) (by simp) (by simp [BagRec.bare, dir]) (.inl rfl)
    · exact .refl s
  · exact .refl s

theorem keeps_replyFreeBag (b : Nat) : Keeps s (replyFreeBag b s).state := by
  unfold replyFreeBag
  split
  · next b _ =>
    split
    · next empty =>
      simp only [Bool.and_eq_true, outboundIn_iff, allZero_iff] at empty
      obtain ⟨⟨-, state⟩, zero⟩ := empty
      dsimp only [Reply.ok]
      exact keeps_modBag (.inr (.inl state)) (by simp [BagRec.free]) (fun _ => zero) (.inr (.inr zero))
    · exact .refl s
  · exact .refl s

theorem register_stagedFor (b : BagIx) (w : WindowIx) (s : State) :
    register (modWindow w (fun r => { r with staged := r.staged ++ [b] })
        (modBag b (fun r => { r with state := .staged, window := some w }) s))
      = (ledger s, { bagBook s with
          bags := put (bagBook s).bags b { look (bagBook s).bags b with state := .staged, window := some w }
          staged := update (bagBook s).staged w ((bagBook s).staged w ++ [b]) }) :=
  register_modWindow_staged w _ (modBag b (fun r => { r with state := .staged, window := some w }) s)

/-- A record replaced by one of the same place leaves every bag's place. -/
theorem location_put {bags : Vector BagRec 32} {b : BagIx} {r : BagRec} (h : r.location = (look bags b).location) (c : BagIx) :
    (look (put bags b r) c).location = (look bags c).location := by
  by_cases e : c = b
  · subst e
    rw [look_put_self, h]
  · rw [look_put_ne _ _ e]

theorem keeps_replyStageBag (b w : Nat) : Keeps s (replyStageBag b w s).state := by
  unfold replyStageBag
  dsimp only
  split
  · next b w _ _ =>
    split; · exact .refl s
    next closed =>
    split; · exact .refl s
    split; · exact .refl s
    split; · exact .refl s
    obtain ⟨dir, state⟩ := outboundIn_iff.mp (by simpa using closed)
    exact .ofBook (register_stagedFor b w s) (fun h => h.stagedFor w dir state) fun _ hc =>
      hc.records fun c => .inl (location_put (by rfl) c)
  · exact .refl s

theorem register_dropFrom (b : BagIx) (w : WindowIx) (s : State) : register (dropFrom b w s)
    = (ledger s, { bagBook s with bags := put (bagBook s).bags b (unstaged (look (bagBook s).bags b))
                                  staged := update (bagBook s).staged w (((bagBook s).staged w).filter (· ≠ b)) }) :=
  (register_modSession (by intro; rfl) _).trans (register_modWindow_staged w _ (modBag b unstaged s))

theorem keeps_replyDropBag (b : Nat) : Keeps s (replyDropBag b s).state := by
  unfold replyDropBag
  split
  · next b _ =>
    split
    · next state =>
      have state' : (look (bagBook s).bags b).state = .staged := state
      split
      · next w window =>
        exact .ofBook (register_dropFrom b w s) (fun h => h.dropped window state) fun _ hc =>
          hc.records fun c => .inl (location_put (by rfl) c)
      · next none' =>
        refine .ofBook (register_modBag b unstaged s) (fun h => ?_) fun _ hc => hc.bag (.inl rfl)
        have window := (h.staged b state').1
        exact absurd window (by simp [show (look (bagBook s).bags b).window = none from none'])
    · exact .refl s
  · exact .refl s

/-! ## Windows (R154 to R158) -/

theorem keeps_unstage (w : WindowIx) : Keeps s (unstage w s) := by
  have book : register (unstage w s) = (ledger s,
      { bagBook s with bags := (unstage w s).courier.bags, staged := update (bagBook s).staged w [] }) := by
    refine (register_modWindow_staged w _ _).trans ?_
    rw [ledger, bagBook]
    conv_lhs => rw [fold_modBag_eq]
    rfl
  refine .ofBook book (fun h => h.unstaged w fun b => bagOf_unstage w b s) fun _ hc => hc.records fun b => .inl ?_
  have bag := bagOf_unstage w b s
  simp only [bagOf] at bag
  rw [bag]
  split <;> rfl

theorem keeps_unstageOrWait (w : WindowIx) : Keeps s (unstageOrWait w s) := by
  unfold unstageOrWait
  split
  · exact .same (register_modWindow rfl)
  · exact keeps_unstage w

theorem keeps_closeWindowAt (w : WindowIx) : Keeps s (closeWindowAt w s) := by
  unfold closeWindowAt
  have closed : Keeps s (unstageOrWait w (modWindow w (fun r => { r with state := .closed })
      (raise .windowClosed (.window w) (windowContent s w) s))) :=
    (Keeps.same ((register_modWindow rfl).trans (register_raise ..))).trans (keeps_unstageOrWait w)
  split
  · exact closed
  · exact closed
  all_goals exact .refl s

theorem keeps_missWindow (w : WindowIx) : Keeps s (missWindow w s) :=
  (Keeps.same ((register_modWindow rfl).trans (register_raise ..))).trans (keeps_unstageOrWait w)

theorem keeps_openWindowAt {w : WindowIx} (h : openWindowAt w s = .ok u) : Keeps s u := by
  unfold openWindowAt at h
  dsimp only at h
  split at h; · cases h
  split at h; · cases h
  split at h <;> cases h
  · exact .refl s
  all_goals exact .same ((register_modWindow rfl).trans (register_raise ..))

/-- Every window reset and every STAGED bag CLOSED (R29, R158). -/
theorem keeps_resetWindows (st : WindowState) : Keeps s (resetWindows st s) := by
  have staged : (fun w => (windowOf (resetWindows st s) w).staged) = fun _ => [] := by
    funext w
    rw [windowOf_resetWindows]
  have book : register (resetWindows st s)
      = (ledger s, { bagBook s with bags := (resetWindows st s).courier.bags, staged := fun _ => [] }) := by
    rw [← staged]
    rfl
  have bag (b : BagIx) : look (resetWindows st s).courier.bags b
      = if (look (bagBook s).bags b).state = .staged then unstaged (look (bagBook s).bags b) else look (bagBook s).bags b :=
    bagOf_resetWindows st s b
  refine .ofBook book (fun h => h.allUnstaged bag) fun _ hc => hc.records fun b => .inl ?_
  rw [bag]
  split <;> rfl

/-! ## The session (R162, R163, R170, R173, R174) -/

theorem register_parted (x : Session) (s : State) : register (parted x s) = (ledger s, { bagBook s with inbound := none }) := by
  rw [parted, register_parkingEnded, register_signal, register_liftLatch]
  rfl

/-- The end of a session keeps what its parting keeps. -/
theorem Keeps.endSession {x : Session} (h : Keeps s (parted x u)) : Keeps s (endSession x u) := by
  rw [endSession_eq]
  refine Keeps.beside ?_ (register_report _)
  split
  · exact h.trans (keeps_unstage _)
  · exact h

theorem keeps_abortSession (cause : AbortCause) {x : Session} (hx : s.courier.session = some x) :
    Keeps s (abortSession cause x s) := by
  have inbound : (bagBook s).inbound = some x.inbound := by simp [bagBook, hx]
  have bag (b : BagIx) : look (inboundFreed x s).courier.bags b
      = if b ∈ x.inbound then BagRec.free else look (bagBook s).bags b := bagOf_inboundFreed x s b
  have book : register (parted x (inboundFreed x s))
      = (ledger s, { bagBook s with inbound := none, bags := (inboundFreed x s).courier.bags }) := by
    rw [register_parted, ledger, bagBook]
    conv_lhs => rw [inboundFreed_eq]
    rfl
  refine Keeps.beside (Keeps.endSession (.ofBook book (fun h => ?_) fun h hc => ?_)) (register_raise ..)
  · exact (h.session (inbound := none) nofun).arrived (f := fun _ => BagRec.free) rfl (h.inbound _ inbound)
      (by simp [BagRec.free]) bag
  · refine hc.records fun b => ?_
    rw [bag]
    split
    · next hb => exact .inr (h.empty b (.inr (.inr (by simp [h.inbound _ inbound b hb]))))
    · exact .inl rfl

theorem keeps_abortAny (cause : AbortCause) : Keeps s (abortAny cause s) := by
  unfold abortAny
  split
  · next hx => exact keeps_abortSession cause hx
  · exact .refl s

theorem keeps_beginSession (w : WindowIx) (badge : Nat) (c : CompIx) : Keeps s (beginSession w badge c s) := by
  have book : register (beginSession w badge c s) = (ledger s, { bagBook s with inbound := some [] }) :=
    register_holdLatch ..
  exact .ofBook book (fun h => h.session (by simp)) fun _ hc => hc

theorem keeps_scanError (x : Session) : Keeps s (scanError x s) := by
  unfold scanError
  dsimp only
  have counted : Keeps s (modSession (fun x => { x with errors := x.errors + 1 }) s) := .same (register_modSession (by intro; rfl) s)
  split
  · exact counted.trans (keeps_abortAny _)
  · exact counted

theorem keeps_replyArrive (w b : Nat) : Keeps s (replyArrive w b s).state := by
  unfold replyArrive
  dsimp only
  split
  · split; · exact .refl s
    split; · exact .refl s
    split; · exact .refl s
    split
    · exact .same (register_raise ..)
    · split
      · exact keeps_beginSession ..
      · exact .refl s
  · exact .refl s

theorem keeps_replyReadManifest : Keeps s (replyReadManifest s).state := by
  unfold replyReadManifest
  split
  · exact .refl s
  · exact .same (register_modSession (by intro; rfl) s)

theorem keeps_replyScanBag (n : Nat) : Keeps s (replyScanBag n s).state := by
  have inbound (b : BagIx) (x : Session) : (scanned b x).inbound = x.inbound := by
    unfold scanned
    split <;> rfl
  unfold replyScanBag
  split
  · exact .refl s
  · split
    · exact .refl s
    · split
      · exact .same (register_modSession (inbound _) s)
      · exact keeps_scanError _

theorem keeps_replyDeclareInbound (n : Nat) (v : Coded Counts) : Keeps s (replyDeclareInbound n v s).state := by
  unfold replyDeclareInbound
  split
  · exact .refl s
  · next v _ =>
    split
    · exact .refl s
    · next x hx =>
      split; · exact .refl s
      split; · exact .refl s
      split; · exact .refl s
      split
      · next b hb =>
        have free : (look (bagBook s).bags b).state = .free := lowestFree_free hb
        have book : register (modSession (fun x => { x with inbound := x.inbound ++ [b] })
            (modBag b (fun _ => announced x n v (valueOf s v)) s)) = (ledger s, { bagBook s with
              bags := put (bagBook s).bags b (announced x n v (valueOf s v)), inbound := some (x.inbound ++ [b]) }) := by
          have session : (s.courier.session.map fun x => { x with inbound := x.inbound ++ [b] }).map (·.inbound)
              = some (x.inbound ++ [b]) := by rw [hx]; rfl
          rw [← session]
          rfl
        refine .ofBook book (fun h => h.declared free (by simp [bagBook, hx]) rfl rfl) fun h hc => hc.records fun c => ?_
        by_cases e : c = b
        · subst e; exact .inr (h.empty c (.inl free))
        · exact .inl (by rw [look_put_ne _ _ e])
      · exact .refl s

theorem keeps_replyDepart : Keeps s (replyDepart s).state := by
  unfold replyDepart
  split
  · exact .refl s
  · next hx => exact keeps_abortSession _ hx

/-! ## The confirmation (R171, R172) -/

/-- Movements with room for all their entries (R12, R183). -/
theorem counting_fold {ms : List Movement} (unheld : ∀ m ∈ ms, m.held = false) (room : occupancy s + ms.length ≤ 512)
    (h : (ledger s).Sound) : (ledger (ms.foldl (fun acc m => applyMove m acc) s)).Sound := by
  induction ms generalizing s with
  | nil => exact h
  | cons m ms ih =>
    rw [List.length_cons] at room
    have first := unheld m List.mem_cons_self
    refine ih (fun k hk => unheld k (List.mem_cons_of_mem m hk)) ?_ (counting_applyMove first (by omega) h)
    rw [occupancy_applyMove first]
    omega

/-- Movements checked one after the other leave the cap loads within the caps (R9, R122). -/
theorem within_fold {need : Nat} {ms : List Movement} (pass : checkEvent need ms s = .pass) (h : (bagBook s).Within) :
    (bagBook (ms.foldl (fun acc m => moveHoldings m acc) s)).Within := by
  induction ms generalizing s with
  | nil => exact h
  | cons m ms ih =>
    obtain ⟨first, rest⟩ := checkEvent_cons_pass pass
    refine ih rest fun c => ?_
    have cap : (bagBook (moveHoldings m s)).cap c = (compOf s c).cap := by simp [bagBook, compOf, moveHoldings]
    dsimp only
    rw [← capLoad_eq_load, cap]
    obtain within | less := (not_overCap_iff m s).mp (fits_of_pass first) c
    · exact within
    · exact less.trans ((bagBook_within_iff s).mp h c)

theorem bagBook_fold_applyMove (ms : List Movement) (s : State) :
    bagBook (ms.foldl (fun acc m => applyMove m acc) s) = { bagBook s with
      compHold := (ms.foldl (fun acc m => applyMove m acc) s).store.compHold
      bagHold := (ms.foldl (fun acc m => applyMove m acc) s).store.bagHold } := by
  induction ms generalizing s with
  | nil => rfl
  | cons m ms ih =>
    rw [List.foldl_cons, ih, bagBook_applyMove]

/-- Movements applied, and their holdings alone taken: the same cap loads. -/
theorem load_fold_applyMove (ms : List Movement) (s : State) (c : CompIx) :
    (bagBook (ms.foldl (fun acc m => applyMove m acc) s)).load c
      = (bagBook (ms.foldl (fun acc m => moveHoldings m acc) s)).load c := by
  have rest : ∀ (ms : List Movement) (v : State), (ms.foldl (fun acc m => moveHoldings m acc) v).store.denoms = v.store.denoms
      ∧ (ms.foldl (fun acc m => moveHoldings m acc) v).courier.bags = v.courier.bags := by
    intro ms
    induction ms with
    | nil => exact fun v => ⟨rfl, rfl⟩
    | cons m ms ih =>
      intro v
      obtain ⟨denoms, bags⟩ := ih (moveHoldings m v)
      exact ⟨denoms.trans (by simp [moveHoldings]), bags.trans (by simp [moveHoldings])⟩
  have held : ∀ (ms : List Movement) (v w : State), (∀ c, holding v c = holding w c) → ∀ c,
      holding (ms.foldl (fun acc m => applyMove m acc) v) c = holding (ms.foldl (fun acc m => moveHoldings m acc) w) c := by
    intro ms
    induction ms with
    | nil => exact fun v w h => h
    | cons m ms ih =>
      refine fun v w h => ih _ _ fun c => ?_
      rw [holding_applyMove, holding_moveHoldings_eq]
      exact heldAfter_congr m c (h c)
  obtain ⟨denoms, bags⟩ := rest ms s
  have same := held ms s s fun _ => rfl
  have book := bagBook_fold_applyMove ms s
  refine BagBook.load_same (g := bagBook (ms.foldl (fun acc m => moveHoldings m acc) s))
    (k := bagBook (ms.foldl (fun acc m => applyMove m acc) s)) ((congrArg BagBook.denoms book).trans denoms.symm)
    (eq_of_look fun c => same (.comp c)) (fun b => .inl ⟨?_, same (.bag b)⟩) c
  exact congrArg (fun v : Vector BagRec 32 => (look v b).location) ((congrArg BagBook.bags book).trans bags.symm)

theorem within_fold_applyMove {ms : List Movement} (h : (bagBook (ms.foldl (fun acc m => moveHoldings m acc) s)).Within) :
    (bagBook (ms.foldl (fun acc m => applyMove m acc) s)).Within := by
  have cap (v : State) : (bagBook (ms.foldl (fun acc m => moveHoldings m acc) v)).cap = (bagBook v).cap := by
    clear h
    induction ms generalizing v with
    | nil => rfl
    | cons m ms ih => exact (ih _).trans (by simp [bagBook, compOf, moveHoldings])
  exact h.same (load_fold_applyMove ms s) ((congrArg BagBook.cap (bagBook_fold_applyMove ms s)).trans (cap s).symm)

theorem handoverMoves_unheld (x : Session) (s : State) : ∀ m ∈ handoverMoves x s, m.held = false := by
  intro m hm
  obtain hm | hm := List.mem_append.mp hm <;> obtain ⟨b, _, rfl⟩ := List.mem_map.mp hm <;> rfl

/-- A confirmation that passes has room for all its entries, and leaves every cap load within its cap. -/
theorem confirmCheck_pass {x : Session} (pass : confirmCheck x s = .pass) :
    (handoverMoves x s = [] ∨ occupancy s + (handoverMoves x s).length ≤ 512)
      ∧ ((bagBook s).Within → (bagBook ((handoverMoves x s).foldl (fun acc m => moveHoldings m acc) s)).Within) := by
  unfold confirmCheck at pass
  dsimp only at pass
  split at pass
  · next none' =>
    rw [List.isEmpty_iff.mp none']
    exact ⟨.inl rfl, id⟩
  · refine ⟨.inr ?_, within_fold pass⟩
    cases hm : handoverMoves x s with
    | nil => next some' => exact absurd (by simp [hm]) some'
    | cons m ms =>
      rw [hm] at pass
      exact room_of_pass (checkEvent_cons_pass pass).1 (Nat.succ_pos _)

/-- The parts of a confirmation: the holdings moved, the bags handed and received, the list emptied and the session gone. -/
theorem register_confirmed (x : Session) (s : State) :
    register (parted x (bagsHandedOver x s)) = (ledger ((handoverMoves x s).foldl (fun acc m => applyMove m acc) s),
      { bagBook s with
        compHold := ((handoverMoves x s).foldl (fun acc m => applyMove m acc) s).store.compHold
        bagHold := ((handoverMoves x s).foldl (fun acc m => applyMove m acc) s).store.bagHold
        bags := (bagsHandedOver x s).courier.bags
        staged := update (bagBook s).staged x.window []
        inbound := none }) := by
  have stored := register_storeEvent (handoverMoves x s) s
  have led : ledger (bagsHandedOver x s) = ledger ((handoverMoves x s).foldl (fun acc m => applyMove m acc) s) := by
    rw [bagsHandedOver, ledger_fold_modBag, ledger_modWindow, ledger_fold_modBag, ledger_of_register stored]
  have book : bagBook (bagsHandedOver x s) = { bagBook (storeEvent (handoverMoves x s) false s) with
      bags := (bagsHandedOver x s).courier.bags
      staged := update (bagBook (storeEvent (handoverMoves x s) false s)).staged x.window [] } := by
    rw [bagsHandedOver, bagBook_fold_modBag, bagBook_modWindow, bagBook_fold_modBag]
  rw [register_parted, led, book, bagBook_of_register stored, bagBook_fold_applyMove]

/-- Bags of a window's list handed over and announced bags received, the holdings of the former moved out (R172). -/
theorem sound_handedOver {g : BagBook} {l : List BagIx} {w : WindowIx} {comps : Vector Counts 16} {holds : Vector Counts 32}
    {bags : Vector BagRec 32} (inbound : g.inbound = some l) (h : g.Sound)
    (others : ∀ b, b ∉ g.staged w → look holds b = look g.bagHold b)
    (gone : ∀ b ∈ g.staged w, look holds b = Counts.zero)
    (bag : ∀ b, look bags b = if b ∈ l then { (if b ∈ g.staged w then handed (look g.bags b) else look g.bags b) with
      state := .received } else if b ∈ g.staged w then handed (look g.bags b) else look g.bags b) :
    ({ g with compHold := comps, bagHold := holds, bags, staged := update g.staged w [], inbound := none } : BagBook).Sound := by
  have moved : ({ g with compHold := comps, bagHold := holds } : BagBook).Sound := h.holdings fun b bare => by
    by_cases hb : b ∈ g.staged w
    · exact gone b hb
    · rw [others b hb, h.empty b bare]
  have handed := moved.handed (bags := Vector.ofFn fun b =>
    if b ∈ g.staged w then Machine.handed (look g.bags b) else look g.bags b) w gone fun b => look_ofFn _ b
  have received := (handed.session (inbound := none) nofun).arrived (bags := bags) (f := fun r => { r with state := .received })
    rfl (handed.inbound l inbound) (by simp) fun b => by rw [bag]; simp only [look_ofFn]
  exact received

/-- The confirmation that the Store passes (R171, R172). -/
theorem keeps_confirmed {x : Session} (hx : s.courier.session = some x) (pass : confirmCheck x s = .pass) :
    Keeps s (confirmed x s) := by
  obtain ⟨room, fits⟩ := confirmCheck_pass pass
  obtain ⟨led, book⟩ := Prod.mk.inj (register_confirmed x s)
  obtain ⟨-, -, others, gone⟩ := handoverMoves_applied x s
  have inbound : (bagBook s).inbound = some x.inbound := by simp [bagBook, hx]
  have bag (b : BagIx) : look (bagsHandedOver x s).courier.bags b = _ := bagOf_bagsHandedOver x s b
  rw [confirmed_eq]
  refine Keeps.beside (Keeps.endSession ⟨fun h => ?_, fun h => ?_, fun h hc => ?_⟩) (register_raise ..)
  · rw [led]
    obtain none' | room := room
    · rw [none']
      exact h
    · exact counting_fold (handoverMoves_unheld x s) room h
  · rw [book]
    refine (sound_handedOver inbound h (fun b hb => ?_) (fun b hb => ?_) bag)
    · exact others b hb
    · exact gone (h.once x.window) b hb
  · rw [book]
    have moved := within_fold_applyMove (fits hc)
    rw [bagBook_fold_applyMove] at moved
    refine moved.records fun b => ?_
    rw [bag]
    by_cases hb : b ∈ (windowOf s x.window).staged
    · exact .inr (gone (h.once x.window) b hb)
    · rw [if_neg hb]
      split <;> exact .inl rfl

theorem keeps_replyConfirmHandover (k : BitVec 16) : Keeps s (replyConfirmHandover k s).state := by
  unfold replyConfirmHandover
  split
  · exact .refl s
  · next x hx =>
    split; · exact .refl s
    split; · exact .refl s
    split; · exact .refl s
    split
    · exact .refl s
    · exact .refl s
    · next pass => exact keeps_confirmed hx pass

end Sys2Proof.Machine
end

section
/-! The day and its plan, the tables, the station's conversation, the waiters and their passes keep the invariants of counting, bags
and caps (R24 to R40, R51 to R54, R71 to R76, R84, R129, R130). -/

namespace Sys2Proof.Machine

open Function (update)

variable {s t : State} {p : Port} {ops : List Nat}

/-- A fold of steps each of which keeps the invariants. -/
theorem keeps_fold {α : Type} {f : State → α → State} {l : List α} (hf : ∀ a ∈ l, ∀ u, Keeps u (f u a)) :
    Keeps s (l.foldl f s) := by
  induction l generalizing s with
  | nil => exact .refl s
  | cons a l ih =>
    exact (hf a List.mem_cons_self s).trans (ih fun b hb => hf b (List.mem_cons_of_mem a hb))

/-! ## The day (R24 to R29) -/

theorem keeps_completeClose : Keeps s (completeClose s) := by
  unfold completeClose
  exact ((Keeps.same (register_modDay _ s)).trans (keeps_resetWindows _)).beside (register_raiseDayState _)

theorem keeps_completionCheck : Keeps s (completionCheck s) := by
  unfold completionCheck
  split
  · exact keeps_completeClose
  · exact .refl s

/-- A bag whose record is HANDED or FREE (R26). -/
def bagGone (s : State) (b : BagIx) : Bool := (bagOf s b).state == .handed || (bagOf s b).state == .free

/-- Bag records and bag holdings replaced. -/
def putBags (bags : Vector BagRec 32) (bagHold : Vector Counts 32) (s : State) : State :=
  { s with courier := { s.courier with bags }, store := { s.store with bagHold } }

theorem register_putBags (bags : Vector BagRec 32) (bagHold : Vector Counts 32) (s : State) :
    register (putBags bags bagHold s) = (ledger s, { bagBook s with bags, bagHold }) := rfl

/-- HANDED and FREE bags freed, before the windows are reset (R26). -/
def bagsFreed (s : State) : State :=
  putBags (Vector.ofFn fun b => if bagGone s b then BagRec.free else bagOf s b)
    (Vector.ofFn fun b => if bagGone s b then Counts.zero else look s.store.bagHold b) s

theorem freeHanded_eq (s : State) : freeHanded s = resetWindows .planned (bagsFreed s) := rfl

theorem bagGone_iff {s : State} {b : BagIx} : bagGone s b = true
    ↔ (look (bagBook s).bags b).state = .handed ∨ (look (bagBook s).bags b).state = .free := by
  simp [bagGone, bagOf, bagBook]

theorem keeps_bagsFreed : Keeps s (bagsFreed s) := by
  have hold (h : (bagBook s).Sound) (b : BagIx) :
      (if bagGone s b then Counts.zero else look s.store.bagHold b) = look (bagBook s).bagHold b := by
    split
    · next gone => exact (h.empty b ((bagGone_iff.mp gone).elim (.inr ∘ .inl) .inl)).symm
    · rfl
  refine .ofBook (register_putBags ..) (fun h => h.freed (fun b => ?_) fun b => (look_ofFn _ b).trans (hold h b)) fun h hc =>
    BagBook.Within.same (g := bagBook s) (BagBook.load_same rfl rfl fun b => ?_) rfl hc
  · rw [look_ofFn]
    simp only [bagGone_iff]
    rfl
  · dsimp only
    rw [look_ofFn, look_ofFn, hold h]
    by_cases gone : bagGone s b = true
    · have zero := h.empty b ((bagGone_iff.mp gone).elim (.inr ∘ .inl) .inl)
      exact .inr ⟨zero, zero⟩
    · rw [if_neg gone]
      exact .inl ⟨rfl, rfl⟩

theorem keeps_passEntry (i : PlanIx) : Keeps s (passEntry i s) := .same (register_passEntry i s)

theorem keeps_openRangeTo {low high : Nat} (h : openRangeTo low high s = .ok t) : Keeps s t := by
  unfold openRangeTo at h
  split at h <;> cases h
  exact .same rfl

theorem keeps_lockAllNow (h : lockAllNow s = .ok t) : Keeps s t := by
  unfold lockAllNow at h
  split at h <;> cases h
  exact .same rfl

/-- A plan action (R37). -/
theorem keeps_planAction {a : PlanAction} (h : planAction a s = .ok t) : Keeps s t := by
  cases a with
  | windowOpen w => exact keeps_openWindowAt h
  | windowClose w => cases h; exact keeps_closeWindowAt w
  | openRange low high => exact keeps_openRangeTo h
  | lockAll => exact keeps_lockAllNow h
  | freeze => cases h; exact .same rfl
  | pickupRound =>
    obtain rfl : pickupRound s = t := Except.ok.inj h
    exact .same (register_pickupRound s)
  | stop => cases h; exact .refl s

theorem keeps_executeEntry (i : PlanIx) : Keeps s (executeEntry i s) := by
  unfold executeEntry
  split
  · next hp => exact (keeps_passEntry i).trans (keeps_planAction hp)
  · exact (keeps_passEntry i).beside (register_raise ..)

theorem keeps_catchUpEntry (set : List PlanIx) (i : PlanIx) : Keeps s (catchUpEntry set s i) := by
  unfold catchUpEntry
  split
  · split
    · exact (keeps_passEntry i).trans (keeps_missWindow _)
    · exact keeps_executeEntry i
  all_goals exact keeps_executeEntry i

theorem keeps_catchUp : Keeps s (catchUp s) := by
  unfold catchUp
  split
  · exact keeps_fold fun i _ _ => keeps_catchUpEntry _ i
  · exact .refl s

theorem keeps_runPlan : Keeps s (runPlan s) := by
  unfold runPlan
  split
  · exact keeps_fold fun i _ _ => keeps_executeEntry i
  · exact .refl s

theorem keeps_openTheDay : Keeps s (openTheDay s) := by
  unfold openTheDay
  dsimp only
  rw [freeHanded_eq]
  have based : Keeps s (takeBase (modDay (fun d => { d with number := (d.number + 1) % 65536, state := .opened
                                                            clockLimit := false }) s)) := .same rfl
  have freed := (based.trans keeps_bagsFreed).trans (keeps_resetWindows .planned)
  exact ((freed.beside (register_modDay ..)).trans keeps_catchUp).beside (register_raiseDayState _)

/-! ## The tables (R2, R122) -/

/-- A denomination replaced whose face is kept wherever a container holds cash at its index (R2). -/
theorem keeps_putDenom {i : DenomIx} {e : DenomEntry}
    (he : (∃ c, look (holding s c) i ≠ 0) → e.face = (look s.store.denoms i).face) : Keeps s (putDenom i e s) := by
  have value (c : Container) : valueWith (put s.store.denoms i e) (holding s c) = valueWith s.store.denoms (holding s c) := by
    rw [valueWith_eq_sum, valueWith_eq_sum]
    refine Finset.sum_congr rfl fun j _ => ?_
    by_cases hj : j = i
    · subst hj
      by_cases zero : look (holding s c) j = 0
      · simp [zero]
      · simp [faceAt, he ⟨c, zero⟩]
    · simp [faceAt, look_put_ne _ _ hj]
  refine .ofBags rfl (fun h => ⟨h.empty, h.listed, h.once, h.staged, h.inbound, h.counts, h.distinct⟩) fun _ hc =>
    BagBook.Within.same (g := bagBook s) (fun c => ?_) rfl hc
  refine congrArg₂ (· + ·) (value (.comp c)) (Finset.sum_congr rfl fun b _ => ?_)
  exact congrArg (fun v : Int => if (look s.courier.bags b).location = some c then v else 0) (value (.bag b))

theorem keeps_replySetDenomination (i : Nat) (st : Coded DenomStatus) (face : Nat) (form : Coded Form) (pack mass : Nat) :
    Keeps s (replySetDenomination i st face form pack mass s).state := by
  unfold replySetDenomination
  split; · exact .refl s
  split
  · next i e _ _ =>
    split; · exact .refl s
    split
    · exact .refl s
    · next keep =>
      refine keeps_putDenom fun ⟨c, hc⟩ => ?_
      have held : heldSomewhere s i = true := List.any_eq_true.mpr ⟨c, mem_containers c, by simpa using hc⟩
      simp only [held, reshapes, Bool.true_and, Bool.or_eq_true, decide_eq_true_eq, not_or, not_not] at keep
      obtain ⟨⟨⟨⟨-, face⟩, -⟩, -⟩, -⟩ := keep
      exact face.symm
  · exact .refl s

theorem keeps_replySetCap (c n : Nat) : Keeps s (replySetCap c n s).state := by
  unfold replySetCap
  split
  · next c _ =>
    split; · exact .refl s
    split
    · exact .refl s
    · next fits =>
      rw [not_lt, capLoad_eq_load] at fits
      have cap (d : CompIx) : (bagBook (modComp c (fun x => { x with cap := n }) s)).cap d
          = if d = c then n else (bagBook s).cap d := by
        simp only [bagBook, compOf, modComp, look_put]
        split <;> rfl
      refine .ofBags rfl (fun h => ⟨h.empty, h.listed, h.once, h.staged, h.inbound, h.counts, h.distinct⟩) fun _ hc d => ?_
      dsimp only [Reply.ok]
      rw [cap]
      split
      · next e => subst e; exact fits
      · exact hc d
  · exact .refl s

/-! ## The station's conversation (R71 to R76) -/

theorem register_sendCommand (c : LinkCommand) (s : State) : register (sendCommand c s) = register s :=
  register_modCount rfl rfl rfl

theorem register_abandonOver (s : State) : register (abandonOver s) = register s := register_modCount rfl rfl rfl

theorem register_sendSetUp (s : State) : register (sendSetUp s) = register s := by
  unfold sendSetUp
  split
  · rfl
  · next r hr => exact register_modCount rfl (by simp [hr]) rfl

theorem keeps_resultFails : Keeps s (resultFails s) := by
  unfold resultFails
  split
  · exact .refl s
  · next r hr =>
    split
    · exact keeps_failCount _
    · exact .same (register_modCount rfl (by simp [hr]) rfl)

theorem keeps_statusTaken (a b : Byte) : Keeps s (statusTaken a b s) := by
  unfold statusTaken
  split
  · split <;> exact keeps_failCount _
  · split
    · exact .same (register_sendCommand ..)
    · exact keeps_failCount _

theorem keeps_resultTaken (bs : List Byte) : Keeps s (resultTaken bs s) := by
  unfold resultTaken
  dsimp only
  split
  · exact .refl s
  · next r _ =>
    have noted : Keeps s (if r.reread then modCount (fun u => { u with recovered := min 65535 (u.recovered + 1) }) s else s) := by
      split
      · exact .same (register_modCount rfl rfl rfl)
      · exact .refl s
    generalize (if r.reread then modCount (fun u => { u with recovered := min 65535 (u.recovered + 1) }) s else s) = u at noted
    split
    · exact noted.trans (keeps_failCount _)
    · exact noted.trans (keeps_completeCount ..)

theorem keeps_readyTaken : Keeps s (readyTaken s) := by
  unfold readyTaken
  split
  · next r hr =>
    split
    · next ready =>
      refine .same (register_modCount rfl (by simp [hr]) ?_)
      simp [stationBusy, modCount, ready]
    · exact .refl s
  · exact .refl s

theorem keeps_selectAnswered (bs : List Byte) : Keeps s (selectAnswered bs s) := by
  unfold selectAnswered
  split
  · split
    · exact .same (register_sendSetUp s)
    · exact keeps_failCount _
  · exact .refl s

theorem keeps_setUpAnswered (bs : List Byte) : Keeps s (setUpAnswered bs s) := by
  unfold setUpAnswered
  split
  · split
    · exact .same (register_modCount rfl rfl rfl)
    · exact keeps_failCount _
  · exact .refl s

theorem keeps_statusAnswered (bs : List Byte) : Keeps s (statusAnswered bs s) := by
  unfold statusAnswered
  split
  · split
    · exact keeps_statusTaken ..
    · exact keeps_failCount _
  · exact .refl s

theorem keeps_resultAnswered (bs : List Byte) : Keeps s (resultAnswered bs s) := by
  unfold resultAnswered
  split
  · split
    · exact keeps_resultTaken _
    · exact keeps_resultFails
  · exact .refl s

theorem keeps_abandonAnswered : Keeps s (abandonAnswered s) := by
  unfold abandonAnswered
  split
  · exact .same (register_abandonOver s)
  · exact .refl s

theorem keeps_exchangeFails : Keeps s (exchangeFails s) := by
  unfold exchangeFails
  split
  · exact keeps_failCount _
  · exact keeps_failCount _
  · exact keeps_failCount _
  · exact keeps_resultFails
  · exact .same (register_abandonOver s)
  · exact .refl s

theorem keeps_stepExpires : Keeps s (stepExpires s) := by
  unfold stepExpires
  split
  · split
    · split
      · exact keeps_failCount _
      · exact .refl s
    · exact .refl s
  · exact .refl s

/-! ## Floats and top-ups (R48, R50 to R52) -/

theorem keeps_floatStore (kind : MoveKind) (t : TillIx) (mask : BitVec 16) (template : Option Counts) (target : Nat)
    {after : State → State} (results : State → List Field) (ha : ∀ u, register (after u) = register u) :
    Keeps s ((floatStore kind t mask template target p ops after results s).left s) := by
  unfold floatStore
  split
  · exact .refl s
  · next c _ =>
    dsimp only
    split
    · exact .refl s
    · split
      · exact .refl s
      · exact .refl s
      · next pass =>
        have unnamed (b : BagIx) : .bag b ∉ (floatMove kind c t
          (compose s.store.denoms (holding s (.comp c)) mask template target).1 p ops).ends := by simp [Movement.ends, floatMove]
        exact ((keeps_taken pass rfl (bagsOk_of_unnamed unnamed)).beside (ha _)).beside (register_evaluate ..)

theorem keeps_floatTry (ask : FloatAsk) : Keeps s ((floatTry p ops ask s).left s) := by
  unfold floatTry
  split_ifs
  · exact .refl s
  · exact .refl s
  · exact .refl s
  · cases ask with
    | float t profile =>
      dsimp only
      split_ifs
      · exact .refl s
      · exact .refl s
      · exact keeps_floatStore .issue t _ _ _ _ fun _ => rfl
    | topup t v =>
      dsimp only
      split_ifs
      · exact .refl s
      · exact .refl s
      · exact keeps_floatStore .topup t _ _ _ _ fun _ => rfl

theorem keeps_floatArrival (tag : Tag) (ask : FloatAsk) : Keeps s (floatArrival p tag ops ask s) := by
  have tried := keeps_floatTry (s := s) (p := p) (ops := ops) ask
  unfold floatArrival
  generalize floatTry p ops ask s = a at tried
  cases a with
  | refused c => exact .same (by simp)
  | short k => exact .same (by simp)
  | parked r c => exact .same (by simp)
  | done u results => exact Keeps.beside (t := u) tried (by simp)

theorem keeps_retryFloat (w : FloatWaiter) : Keeps s (retryFloat s w) := by
  have tried := keeps_floatTry (s := s) (p := w.port) (ops := w.ops) w.ask
  unfold retryFloat
  split
  · generalize floatTry w.port w.ops w.ask s = a at tried
    cases a with
    | refused c => exact .same (by simp)
    | short k => exact .same (by simp)
    | parked r c => exact .same (by simp)
    | done u results => exact Keeps.beside (t := u) tried (by simp)
  · exact .refl s

theorem keeps_floatPass : Keeps s (floatPass s) := keeps_fold fun w _ _ => keeps_retryFloat w

/-! ## The access waiters and their passes (R129, R130) -/

theorem keeps_moveTry {m : Movement} (results : State → List Field) (unheld : m.held = false) (hm : m.BagsOk s) :
    Keeps s ((moveTry m results s).left s) := by
  unfold moveTry
  split
  · exact .refl s
  · exact .refl s
  · next pass => exact keeps_taken pass unheld hm

theorem keeps_accessTry (tag : Tag) (req : AccessReq) : Keeps s ((accessTry p tag ops req s).left s) := by
  cases req with
  | startCount source tray reject => exact keeps_startTry tag source tray reject
  | manualCount t v source => exact keeps_manualTry v source
  | postTray t count => exact keeps_postTry (t := t) (some count)
  | transfer src dst v =>
    exact keeps_moveTry (m := transferMove src dst v p ops) (fun _ => []) rfl
      (bagsOk_of_unnamed fun b => by simp [Movement.ends, transferMove])
  | adjust c v =>
    exact keeps_moveTry (m := adjustMove c v p ops) (fun _ => []) rfl
      (bagsOk_of_unnamed fun b => by simp [Movement.ends, adjustMove])
  | fillBag b c v =>
    dsimp only [accessTry, fillTry]
    split
    · exact .refl s
    · next opened =>
      refine keeps_moveTry (m := fillMove b c v p ops) _ rfl fun d hd => ?_
      obtain rfl : d = b := by simpa [Movement.ends, fillMove] using hd
      exact .inl (by simpa using opened)

theorem keeps_accessArrival (tag : Tag) (req : AccessReq) : Keeps s (accessArrival p tag ops req s) := by
  have tried := keeps_accessTry (s := s) (p := p) (ops := ops) tag req
  unfold accessArrival
  generalize accessTry p tag ops req s = a at tried
  cases a with
  | refused c t => exact Keeps.beside (t := t) tried (by simp)
  | parked r c t => exact Keeps.beside (t := t) tried (by simp)
  | done t results => exact Keeps.beside (t := t) tried (by simp)
  | running t => exact tried
  | queued park => exact .same (by simp)

theorem keeps_retryAccess (w : AccessWaiter) : Keeps s (retryAccess s w) := by
  have tried := keeps_accessTry (s := s) (p := w.port) (ops := w.ops) w.tag w.req
  unfold retryAccess
  split
  · dsimp only
    generalize accessTry w.port w.tag w.ops w.req s = a at tried
    cases a with
    | refused c t => exact Keeps.beside (t := t) tried (by simp)
    | parked r c t => exact Keeps.beside (t := t) tried (by simp)
    | done t results => exact Keeps.beside (t := t) tried (by simp)
    | running t => exact Keeps.beside (t := t) tried (by simp)
    | queued park => exact .same (by simp)
  · exact .refl s

theorem keeps_accessPass (concerned : AccessWaiter → Bool) : Keeps s (accessPass concerned s) :=
  keeps_fold fun w _ _ => keeps_retryAccess w

theorem keeps_stepPass (c : Container) : Keeps s (stepPass c s) := by
  refine keeps_fold fun a _ u => ?_
  obtain ⟨n, w | w⟩ := a
  · exact keeps_retryFloat w
  · exact keeps_retryAccess w

/-! ## The pass over the count waiters, and the end of an event (R84, R189, R193) -/

theorem keeps_countTry (w : CountWaiter) : Keeps s ((countTry w s).left s) := by
  unfold countTry
  split
  · exact keeps_startTry ..
  · exact keeps_recountTry ..

theorem keeps_countPassOver (ws : List CountWaiter) : Keeps s (countPassOver ws s) := by
  induction ws generalizing s with
  | nil => exact .refl s
  | cons w ws ih =>
    have tried := keeps_countTry (s := s) w
    unfold countPassOver
    split
    · exact (Keeps.same (by simp)).trans ih
    · dsimp only
      generalize countTry w s = a at tried
      cases a with
      | running t => exact Keeps.beside (t := t) tried (by simp)
      | refused c t => exact (Keeps.beside (t := t) tried (by simp)).trans ih
      | parked r c t => exact (Keeps.beside (t := t) tried (by simp)).trans ih
      | queued park => exact (Keeps.same (by simp)).trans ih
      | done t results => exact Keeps.trans (t := t) tried ih

theorem keeps_runSignal (g : Signal) : Keeps s (runSignal g s) := by
  cases g with
  | countPass => exact keeps_countPassOver _
  | sessionPass => exact keeps_accessPass _
  | countOutPass c => exact keeps_accessPass _

theorem keeps_runSignals (n : Nat) : Keeps s (runSignals n s) := by
  induction n generalizing s with
  | zero => exact .refl s
  | succ n ih =>
    unfold runSignals
    split
    · exact .refl s
    · exact ((Keeps.same (register_event _ s)).trans (keeps_runSignal _)).trans ih

theorem register_ended (s : State) : register (ended s) = register s := (register_startFrames _).trans (register_event _ _)

theorem keeps_finish : Keeps s (finish s) := by
  have passed := keeps_runSignals (s := s) (passFuel s)
  unfold finish
  dsimp only
  split
  · exact (passed.trans keeps_completionCheck).beside (register_ended _)
  · exact passed.beside (register_ended _)

end Sys2Proof.Machine
end

section
/-! Every command keeps the invariants of counting, bags and caps, and so does every step (O57, O59). -/

namespace Sys2Proof.Machine

variable {s : State}

/-! ## Requests and happenings -/

theorem keeps_happening {effect : State → State} (he : ∀ u, Keeps u (effect u)) : Keeps s (happening effect s) := by
  unfold happening
  split
  · exact ((Keeps.same (register_event _ s)).trans (he _)).trans keeps_finish
  · exact .refl s

theorem keeps_framed {p : Port} {tag : Tag} {code : Nat} {after : State → State} (ha : ∀ u, Keeps u (after u)) :
    Keeps s (framed p tag code after s) := by
  have heard' : Keeps s (heard p { s with event := Scratch.empty }) := .same (register_heard p _)
  unfold framed
  split
  · dsimp only
    split
    · exact (heard'.beside (register_rejectTag ..)).trans keeps_finish
    · exact ((heard'.beside (register_takeSlot ..)).trans (ha _)).trans keeps_finish
  · exact .refl s

theorem keeps_request {q : Req} {code : Nat} {owner : State → State} (ho : ∀ u, Keeps u (owner u)) :
    Keeps s (request q code owner s) := by
  refine keeps_framed fun u => ?_
  split
  · exact ho u
  · exact .same (register_answer ..)

theorem keeps_immediate {q : Req} {code : Nat} {owner : State → Reply} (ho : ∀ u, Keeps u (owner u).state) :
    Keeps s (immediate q code owner s) :=
  keeps_request fun u => (ho u).beside (register_answer ..)

theorem keeps_authorised {level : Level} {q : Req} {owner : State → Reply} (ho : Keeps s (owner s).state) :
    Keeps s (authorised level q owner s).state := by
  unfold authorised
  split
  · exact .refl s
  · exact ho

/-! ## Configuration (R17, R21, R44, R53, R67, R112, R118, R121, R154, R197, R211) -/

theorem keeps_replySetOperator (n : Nat) (r : Coded RoleArg) (st : Coded Standing) :
    Keeps s (replySetOperator n r st s).state := by
  unfold replySetOperator
  repeat' split
  all_goals exact .same rfl

theorem keeps_replySetFloatProfile (i : Nat) (a : Coded (Option ProfileArg)) :
    Keeps s (replySetFloatProfile i a s).state := by
  unfold replySetFloatProfile
  repeat' split
  all_goals exact .same rfl

theorem keeps_replySetTill (i n k : Nat) : Keeps s (replySetTill i n k s).state := by
  unfold replySetTill
  split
  · split
    · exact .refl s
    · dsimp only [Reply.ok]
      split
      · exact .same rfl
      · exact .same ((register_evaluate ..).trans (register_modTill ..))
  · exact .refl s

theorem keeps_replySetToleranceClass (c a p : Nat) : Keeps s (replySetToleranceClass c a p s).state := by
  unfold replySetToleranceClass
  repeat' split
  all_goals exact .same rfl

theorem register_putLimit (l : Limit) (n : Nat) (s : State) : register (putLimit l n s) = register s := by
  cases l with
  | autoPost =>
    dsimp only [putLimit]
    split <;> rfl
  | _ => rfl

theorem keeps_replySetLimit (l : Coded Limit) (n : Nat) : Keeps s (replySetLimit l n s).state := by
  unfold replySetLimit
  split
  · split
    · exact .same (register_putLimit ..)
    · exact .refl s
  · exact .refl s

theorem keeps_replySetCompartment (c : Nat) (r : Coded CompRole) (l : Coded (Option Nat)) :
    Keeps s (replySetCompartment c r l s).state := by
  unfold replySetCompartment
  split; · exact .refl s
  split
  · split; · exact .refl s
    split; · exact .refl s
    split
    · exact .refl s
    · exact .same (register_modComp rfl)
  · exact .refl s

theorem keeps_replySetWindow (w : Nat) (b c : Coded (Option Nat)) : Keeps s (replySetWindow w b c s).state := by
  unfold replySetWindow
  dsimp only
  split
  · split; · exact .refl s
    split; · exact .refl s
    split
    · exact .refl s
    · exact .same (register_modWindow rfl)
  · exact .refl s

theorem keeps_replySetAuditStep (c : Coded Container) (b : Coded Bool) : Keeps s (replySetAuditStep c b s).state := by
  unfold replySetAuditStep
  split
  · exact .same (register_setStepBits ..)
  · exact .refl s

theorem keeps_releaseStepOf (q : Req) (c : Container) : Keeps s (releaseStepOf q c s) := by
  unfold releaseStepOf
  split
  · have answered : Keeps s (answer q.port q.tag .ok 0 [] (setStepBits c { flag := (stepBits s c).flag, mark := false } s)) :=
      .same (by simp)
    exact (answered.trans (keeps_stepPass c)).beside (register_parkingEnded ..)
  · exact .same (register_answer ..)

theorem keeps_replySetRouting (k : Coded NoticeKind) (p : Coded PortSet) (n : Nat) :
    Keeps s (replySetRouting k p n s).state := by
  unfold replySetRouting
  repeat' split
  all_goals exact .same rfl

theorem keeps_replyRestoreMemory : Keeps s (replyRestoreMemory s).state := by
  unfold replyRestoreMemory
  split <;> exact .same rfl

/-! ## The day (R25 to R39) -/

theorem keeps_replyOpenDay : Keeps s (replyOpenDay s).state := by
  unfold replyOpenDay
  split
  · exact keeps_openTheDay
  · exact .refl s

theorem keeps_closeTheDay (q : Req) : Keeps s (closeTheDay q s) :=
  (Keeps.same (by simp)).trans keeps_completionCheck

theorem keeps_replyReopen : Keeps s (replyReopen s).state := by
  unfold replyReopen
  split
  · exact .same ((register_raiseDayState _).trans (register_modDay ..))
  · exact .refl s

theorem keeps_replySetClock (n : Nat) : Keeps s (replySetClock n s).state := by
  unfold replySetClock
  dsimp only [Reply.ok]
  split
  · exact (Keeps.same (register_modDay ..)).trans keeps_catchUp
  · exact .same (register_modDay ..)

theorem keeps_replyLoadPlanEntry (i n : Nat) (a : Coded PlanArg) : Keeps s (replyLoadPlanEntry i n a s).state := by
  unfold replyLoadPlanEntry
  dsimp only
  repeat' split
  all_goals exact .same rfl

theorem keeps_replyHoldPlan : Keeps s (replyHoldPlan s).state := by
  unfold replyHoldPlan
  split <;> exact .same rfl

theorem keeps_replyResumePlan : Keeps s (replyResumePlan s).state := by
  unfold replyResumePlan
  split
  · exact (Keeps.same (register_modDay ..)).trans keeps_catchUp
  · exact .refl s

/-! ## Tills (R48 to R66) -/

theorem keeps_floatRequest (q : Req) (code : Nat) (level : Level) (ask : Option FloatAsk) :
    Keeps s (floatRequest q code level ask s) := by
  refine keeps_request fun u => ?_
  split
  · exact .same (register_answer ..)
  · exact .same (register_answer ..)
  · exact keeps_floatArrival ..

theorem keeps_replyTakingsUpdate (i n : Nat) : Keeps s (replyTakingsUpdate i n s).state := by
  unfold replyTakingsUpdate
  split
  · dsimp only
    split; · exact .refl s
    split
    · exact .refl s
    · exact .same ((register_evaluate ..).trans (register_modTill ..))
  · exact .refl s

theorem keeps_replyFinalTakings (i n : Nat) : Keeps s (replyFinalTakings i n s).state := by
  unfold replyFinalTakings
  split
  · split; · exact .refl s
    split
    · exact .refl s
    · exact .same ((register_afterFinal ..).trans (register_modTill ..))
  · exact .refl s

theorem keeps_replyRequestPickup (i n : Nat) : Keeps s (replyRequestPickup i n s).state := by
  unfold replyRequestPickup
  split
  · dsimp only
    split; · exact .refl s
    split; · exact .refl s
    split
    · exact .refl s
    · exact .same ((register_evaluate ..).trans (register_modTill ..))
  · exact .refl s

theorem keeps_replyReceivePouch (i n : Nat) : Keeps s (replyReceivePouch i n s).state := by
  unfold replyReceivePouch
  repeat' split
  all_goals exact .same rfl

theorem keeps_replySignOff (i : Nat) : Keeps s (replySignOff i s).state := by
  unfold replySignOff
  split
  · dsimp only
    split; · exact .refl s
    split
    · exact .refl s
    · exact .same ((register_dismissTopups ..).trans (register_modTill ..))
  · exact .refl s

theorem keeps_replyWithdrawTill (i : Nat) : Keeps s (replyWithdrawTill i s).state := by
  unfold replyWithdrawTill
  split
  · exact .same (register_dismissFloats ..)
  · exact .refl s

theorem register_moveTill (i : TillIx) (st : TillState) (s : State) : register (moveTill i st s) = register s := rfl

theorem keeps_replyReturnDrawer (i : Nat) : Keeps s (replyReturnDrawer i s).state := by
  unfold replyReturnDrawer
  split
  · dsimp only
    split; · exact .refl s
    split
    · exact .refl s
    · exact .same ((register_dismissTopups ..).trans (register_moveTill ..))
  · exact .refl s

theorem keeps_replySuspendTill (i : Nat) : Keeps s (replySuspendTill i s).state := by
  unfold replySuspendTill
  split
  · split
    · exact .refl s
    · exact .same ((register_dismissTopups ..).trans (register_moveTill ..))
  · exact .refl s

theorem keeps_replyRestoreTill (i : Nat) : Keeps s (replyRestoreTill i s).state := by
  unfold replyRestoreTill
  split
  · split; · exact .refl s
    split
    · exact .refl s
    · exact .same ((register_evaluate ..).trans (register_moveTill ..))
  · exact .refl s

/-! ## Counting, posting and the safe (R77 to R141) -/

theorem keeps_accessRequest (q : Req) (level : Level) (req : Option AccessReq) : Keeps s (accessRequest q level req s) := by
  unfold accessRequest
  split
  · exact .same (register_answer ..)
  · exact .same (register_answer ..)
  · exact keeps_accessArrival ..

theorem keeps_vectorRequest (q : Req) (level : Level) (vec : Option Counts) (arg : Counts → Option AccessReq) :
    Keeps s (vectorRequest q level vec arg s) := by
  unfold vectorRequest
  split
  · exact .same (register_answer ..)
  · exact keeps_accessRequest ..

theorem keeps_recountOwner (q : Req) (t n : Nat) : Keeps s (recountOwner q t n s) := by
  unfold recountOwner
  split
  · exact .same (register_answer ..)
  · exact .same (register_answer ..)
  · next t _ _ =>
    split
    · have tried := keeps_recountTry (s := s) (p := q.port) (ops := [q.op1]) q.tag t n
      unfold recountArrival
      generalize recountTry q.port q.tag [q.op1] t n s = a at tried
      cases a with
      | refused c u => exact Keeps.beside (t := u) tried (register_answer ..)
      | parked r c u => exact tried
      | done u results => exact tried
      | running u => exact tried
      | queued park => exact .same (by simp)
    · exact .same (register_answer ..)

theorem keeps_manualOwner (q : Req) (t : Nat) (vec : Coded Counts) (src : Coded (Option SourceArg)) :
    Keeps s (manualOwner q t vec src s) := by
  unfold manualOwner
  split
  · exact .same (register_answer ..)
  · exact .same (register_answer ..)
  · next v t src _ _ _ =>
    unfold manualByState
    split
    · split
      · exact .same (register_answer ..)
      · exact keeps_accessArrival ..
    · next invalid =>
      refine Keeps.beside ?_ (register_answer ..)
      have tried := keeps_manualInvalid (p := q.port) (ops := [q.op1, q.op2]) v invalid
      unfold invalidReply
      generalize manualInvalid q.port [q.op1, q.op2] t v s = a at tried
      cases a with
      | queued park => exact .refl s
      | _ => exact tried
    all_goals exact .same (register_answer ..)
  · exact .same (register_answer ..)

theorem keeps_replyRestoreCounter : Keeps s (replyRestoreCounter s).state := by
  unfold replyRestoreCounter
  split
  · next down =>
    refine .same ((register_signal ..).trans (register_modCount rfl rfl ?_))
    simp only [stationBusy, modCount, down]
    rfl
  · exact .refl s

theorem keeps_replyResetOperations : Keeps s (replyResetOperations s).state := by
  have withdrawn : Keeps s (withdrawRunning s) := by
    unfold withdrawRunning
    split
    · exact keeps_abandonCount.beside (register_answer ..)
    · exact .refl s
  exact withdrawn.beside (register_dismissCounts ..)

theorem keeps_replyAcceptVariance (q : Req) (i : Nat) : Keeps s (replyAcceptVariance q i s).state := by
  unfold replyAcceptVariance
  dsimp only
  split
  · exact .refl s
  · split
    · split
      · split; · exact .refl s
        split
        · exact .refl s
        · exact .same ((register_settleTill ..).trans (register_setDrawer ..))
      · exact .refl s
    · exact .refl s

theorem keeps_replyOpenRange (a b : Nat) : Keeps s (replyOpenRange a b s).state := by
  unfold replyOpenRange
  split
  · split
    · next h => exact keeps_openRangeTo h
    · exact .refl s
  · exact .refl s

theorem keeps_replyLockAll : Keeps s (replyLockAll s).state := by
  unfold replyLockAll
  split
  · next h => exact keeps_lockAllNow h
  · exact .refl s

theorem keeps_replyThaw : Keeps s (replyThaw s).state := by
  unfold replyThaw
  split <;> exact .same rfl

theorem keeps_replyClearAlarm (c : Nat) : Keeps s (replyClearAlarm c s).state := by
  unfold replyClearAlarm
  split
  · split
    · exact .refl s
    · exact .same (register_modComp rfl)
  · exact .refl s

theorem keeps_replyOpenWindow (w : Nat) : Keeps s (replyOpenWindow w s).state := by
  unfold replyOpenWindow
  split
  · split
    · next h => exact keeps_openWindowAt h
    · exact .refl s
  · exact .refl s

theorem keeps_replyCloseWindow (w : Nat) : Keeps s (replyCloseWindow w s).state := by
  unfold replyCloseWindow
  split
  · exact keeps_closeWindowAt _
  · exact .refl s

/-! ## The journal, the reads, and WITHDRAW (R182, R187, R194) -/

theorem keeps_replyArchive (n : Nat) : Keeps s (replyArchive n s).state := by
  unfold replyArchive
  split
  · refine Keeps.beside (t := { s with store := { s.store with journal :=
      { s.store.journal with entries := s.store.journal.entries.drop (archived s n) } } }) ?_ (register_journalMarks ..)
    refine .ofLedger rfl fun h => ⟨h.station, h.trays, ?_, h.held, h.numbers.drop _⟩
    have room := h.room
    exact le_trans (Nat.add_le_add_right ((List.length_drop ..).trans_le (Nat.sub_le ..)) _) room
  · exact .refl s

/-- A reply that leaves the state keeps the invariants. -/
theorem Keeps.unchanged {r : Reply} (h : r.state = s) : Keeps s r.state := h ▸ .refl s

theorem keeps_replyReadJournal (a b : Nat) : Keeps s (replyReadJournal a b s).state := by
  refine .unchanged ?_
  unfold replyReadJournal
  split <;> rfl

theorem keeps_replyReadHolding (p : Port) (c : Coded Container) : Keeps s (replyReadHolding p c s).state := by
  refine .unchanged ?_
  unfold replyReadHolding
  repeat' split
  all_goals rfl

theorem keeps_replyReadProfile (n : Nat) : Keeps s (replyReadProfile n s).state := by
  refine .unchanged ?_
  unfold replyReadProfile
  split <;> rfl

theorem keeps_replyReadTill (n : Nat) : Keeps s (replyReadTill n s).state := by
  refine .unchanged ?_
  unfold replyReadTill
  split <;> rfl

theorem keeps_replyReadResult (n : Nat) : Keeps s (replyReadResult n s).state := by
  refine .unchanged ?_
  unfold replyReadResult
  split <;> rfl

theorem keeps_replyReadTray (n : Nat) : Keeps s (replyReadTray n s).state := by
  refine .unchanged ?_
  unfold replyReadTray
  split <;> rfl

theorem keeps_replyReadBag (n : Nat) : Keeps s (replyReadBag n s).state := by
  refine .unchanged ?_
  unfold replyReadBag
  split <;> rfl

theorem keeps_replyReadWindow (p : Port) (n : Nat) : Keeps s (replyReadWindow p n s).state := by
  refine .unchanged ?_
  unfold replyReadWindow
  split <;> rfl

theorem keeps_withdrawTag (p : Port) (tag : Tag) : Keeps s (withdrawTag p tag s) := by
  unfold withdrawTag
  split
  · split
    · exact keeps_abandonCount.beside (register_answer ..)
    · exact .same (register_answer ..)
  · exact .same (by simp)
  all_goals exact .refl s

theorem keeps_replyWithdraw (p : Port) (tags : BitVec 8) : Keeps s (replyWithdraw p tags s).state :=
  keeps_fold fun t _ _ => keeps_withdrawTag p t

/-! ## Lines, timers, doors and passes owed (R52, R53, R85, R116, R131, R137 to R140, R165, R190) -/

theorem keeps_dropRequests (p : Port) : Keeps s (dropRequests p s) := by
  have dropped (runs : Bool) : Keeps s (discardAccess (fun w => w.port == p) (discardCounts (fun w => w.port == p)
      (if runs then abandonCount (discardFloats (fun w => w.port == p) s) else discardFloats (fun w => w.port == p) s))) := by
    refine Keeps.beside ?_ ((register_discardAccess ..).trans (register_discardCounts ..))
    have gone : Keeps s (discardFloats (fun w => w.port == p) s) := .same (register_discardFloats ..)
    split
    · exact gone.trans keeps_abandonCount
    · exact gone
  unfold dropRequests
  dsimp only
  cases p with
  | courier => exact (dropped _).trans (keeps_abortAny _)
  | _ => exact dropped _

theorem keeps_floatExpires (p : Port) (tag : Tag) : Keeps s (floatExpires p tag s) := by
  unfold floatExpires
  split
  · split
    · exact .same (by simp)
    · exact .refl s
  · exact .refl s

theorem keeps_countExpires (p : Port) (tag : Tag) : Keeps s (countExpires p tag s) := by
  unfold countExpires
  split
  · split
    · exact .same (by simp)
    · exact .refl s
  · exact .refl s

theorem keeps_accessExpires (b : Bool) (n d : Nat) (p : Port) (tag : Tag) : Keeps s (accessExpires b n d p tag s) := by
  unfold accessExpires
  split
  · split
    · exact .same (by simp)
    · exact .refl s
  · exact .refl s

theorem keeps_latchExpires (c : CompIx) : Keeps s (latchExpires c s) := by
  unfold latchExpires
  split
  · exact .same (register_modComp rfl)
  · exact .refl s

theorem keeps_heldExpires (c : CompIx) : Keeps s (heldExpires c s) := by
  unfold heldExpires
  dsimp only
  split
  · split
    · exact .same ((register_raise ..).trans (register_modComp rfl))
    · exact .refl s
  · exact .refl s

theorem keeps_idleExpires : Keeps s (idleExpires s) := by
  unfold idleExpires
  split
  · next hx =>
    split
    · exact keeps_abortSession _ hx
    · exact .refl s
  · exact .refl s

theorem keeps_doorOpened (c : CompIx) : Keeps s (doorOpened c s) := by
  unfold doorOpened
  dsimp only
  split
  · exact .refl s
  · split
    · exact .same (register_modComp rfl)
    · split
      · exact .same ((register_modComp rfl).trans (register_modComp rfl))
      · exact .same ((register_raise ..).trans ((register_modComp rfl).trans (register_modComp rfl)))

theorem keeps_doorClosed (c : CompIx) : Keeps s (doorClosed c s) := by
  refine .same (register_modComp ?_)
  split <;> rfl

theorem keeps_owedFloatPass : Keeps s (owedFloatPass s) := by
  unfold owedFloatPass
  split
  · exact .refl s
  · exact Keeps.trans (.same (by rfl)) keeps_floatPass

theorem keeps_tickLimits : Keeps s (tickLimits s) := .same rfl

theorem keeps_tickTimers : Keeps s (tickTimers s) := by
  have comp (c : CompIx) : compOf (tickTimers s) c = tickComp (compOf s c) := look_map ..
  have cap (c : CompIx) : (compOf (tickTimers s) c).cap = (compOf s c).cap := by rw [comp]; rfl
  refine .same ?_
  simp only [register, bagBook, cap, ledger]
  simp [tickTimers, stationBusy, trayOf, windowOf, Function.comp_def]

theorem keeps_tickDay : Keeps s (tickDay s) := by
  unfold tickDay
  dsimp only
  split
  · exact .same ((register_raise ..).trans (register_modDay ..))
  · exact .same (register_modDay ..)

theorem keeps_tickCut : Keeps s (tickCut s) := .same (register_modDay ..)

/-! ## Power return and cold start (R40, R96, R132, R142, R161, R210, R212) -/

theorem keeps_returnDay : Keeps s (returnDay s) := by
  unfold returnDay
  dsimp only
  split
  · exact keeps_catchUp.beside ((register_raise ..).trans (register_modDay ..))
  · exact keeps_catchUp

theorem keeps_reportedCheck : Keeps s (reportedCheck s) := by
  unfold reportedCheck
  split
  · exact (Keeps.same (register_event _ s)).trans keeps_completionCheck
  · exact .refl s

theorem keeps_compareWords : Keeps s (compareWords s) := by
  unfold compareWords
  dsimp only
  split
  · exact .refl s
  · exact .same ((register_raise ..).trans rfl)

theorem register_returnSafe (doors : List CompIx) (s : State) : register (returnSafe doors s) = register s := by
  have comp (c : CompIx) : compOf (returnSafe doors s) c = returnComp (doors.contains c) (compOf s c) := look_ofFn _ c
  have cap (c : CompIx) : (compOf (returnSafe doors s) c).cap = (compOf s c).cap := by rw [comp]; rfl
  simp only [register, bagBook, cap]
  rfl

theorem keeps_returnCount : Keeps s (returnCount s) :=
  ((Keeps.same (register_modCount rfl rfl rfl)).trans keeps_abandonCount).beside (register_discardCounts ..)

theorem keeps_warmStart (doors : List CompIx) (spacing : List Port) (drift : BitVec 32) :
    Keeps s (warmStart doors spacing drift s) := by
  have ports (u : State) : Keeps u (resetPorts spacing u) := .same (register_raise ..)
  have began : Keeps s
      { setSupply .good { s with event := Scratch.empty } with
        retention := { (setSupply .good { s with event := Scratch.empty }).retention with
          drift := (setSupply .good { s with event := Scratch.empty }).retention.drift + drift } } := .same rfl
  have counted := (began.trans (ports _)).trans keeps_returnCount
  have emptied (u : State) : Keeps u (returnSafe doors (returnRecon (returnFloat u))) :=
    .same ((register_returnSafe ..).trans rfl)
  have aborted := (counted.trans (emptied _)).trans (keeps_abortAny .powerReturn)
  unfold warmStart
  dsimp only
  refine Keeps.trans (Keeps.trans (Keeps.trans (Keeps.trans ?_ keeps_compareWords) keeps_reportedCheck) keeps_returnDay) keeps_finish
  exact aborted.trans (.same rfl)

/-- A cold start leaves the ledger and the bag book of the reset state. -/
theorem register_coldStart (doors : List CompIx) (spacing : List Port) (s : State) :
    register (coldStart doors spacing s) = register State.reset := by
  have comp (c : CompIx) : compOf (coldStart doors spacing s) c = CompRec.cold (doors.contains c) := look_ofFn _ c
  have cap (c : CompIx) : (compOf (coldStart doors spacing s) c).cap = (compOf State.reset c).cap := by
    rw [comp, reset_comp]
    rfl
  have store : (coldStart doors spacing s).store = State.reset.store := rfl
  have count : (coldStart doors spacing s).count = State.reset.count := rfl
  have courier : (coldStart doors spacing s).courier = State.reset.courier := rfl
  simp only [register, ledger, bagBook, stationBusy, trayOf, windowOf, store, count, courier, cap]

theorem keeps_coldStart (doors : List CompIx) (spacing : List Port) : Keeps s (coldStart doors spacing s) := by
  have same := register_coldStart doors spacing s
  have sound := (bagBook_sound_iff _).mpr reset_bags
  have caps := (bagBook_within_iff _).mpr reset_caps
  refine ⟨fun _ => ?_, fun _ => ?_, fun _ _ => ?_⟩
  · rw [ledger_of_register same]
    exact (ledger_sound_iff _).mpr ⟨reset_station, reset_journal⟩
  · rw [bagBook_of_register same]
    exact sound
  · rw [bagBook_of_register same]
    exact caps

/-! ## The commands one by one -/

theorem keeps_exec_badTagFrame (p : Port) (tag code : Nat) :
    Keeps s (if canReceive s p && decide (7 < tag) then
      finish (modPort p (malformedTag tag code) (heard p { s with event := Scratch.empty })) else s) := by
  split
  · have heard' : Keeps s (heard p { s with event := Scratch.empty }) := .same (register_heard p _)
    exact (heard'.beside (register_modPort ..)).trans keeps_finish
  · exact .refl s

theorem keeps_exec_linkReset (p : Port) :
    Keeps s (if (portOf s p).link = .brk then s
      else happening (fun s => dropRequests p (modPort p PortRec.afterBreak s)) s) := by
  split
  · exact .refl s
  · exact keeps_happening fun u => (Keeps.same (register_modPort ..)).trans (keeps_dropRequests p)

theorem keeps_exec_linkReturnsMarking (p : Port) :
    Keeps s (if (portOf s p).link = .brk then happening (modPort p fun r => { r with link := .quiet }) s else s) := by
  split
  · exact keeps_happening fun u => .same (register_modPort ..)
  · exact .refl s

theorem keeps_exec_clockTick :
    Keeps s (match s.retention.supply with
      | .good => happening (fun s => tickDay (tickTimers (tickLimits s))) s
      | .cut => tickCut (tickLimits s)
      | .dead => s) := by
  split
  · exact keeps_happening fun u => (keeps_tickLimits.trans keeps_tickTimers).trans keeps_tickDay
  · exact keeps_tickLimits.trans keeps_tickCut
  · exact .refl s

theorem keeps_setSupply (v : Supply) : Keeps s (setSupply v s) := .same rfl

theorem keeps_exec_mainSupplyLoss (backup : Bool) :
    Keeps s (if s.retention.supply = .good then setSupply (if backup then .cut else .dead) s else s) := by
  split
  · exact keeps_setSupply _
  · exact .refl s

theorem keeps_exec_backupSupplyLoss : Keeps s (if s.retention.supply = .cut then setSupply .dead s else s) := by
  split
  · exact keeps_setSupply _
  · exact .refl s

theorem keeps_exec_powerReturn (doors : List CompIx) (spacing : List Port) (drift : BitVec 32) :
    Keeps s (match s.retention.supply with
      | .good => s
      | .cut => warmStart doors spacing drift s
      | .dead => coldStart doors spacing s) := by
  split
  · exact .refl s
  · exact keeps_warmStart doors spacing drift
  · exact keeps_coldStart doors spacing

theorem keeps_exec_closeDay (q : Req) :
    Keeps s (request q ReqCode.closeDay
      (fun s => if s.day.state = .opened then closeTheDay q s else answer q.port q.tag .badState 0 [] s) s) :=
  keeps_request fun u => by
    split
    · exact keeps_closeTheDay q
    · exact .same (register_answer ..)

theorem keeps_exec_releaseStep (q : Req) (a : Coded Container) :
    Keeps s (request q ReqCode.releaseStep
      (fun s => match stepContainer a with
        | some c => releaseStepOf q c s
        | none => answer q.port q.tag .badOperand 0 [] s) s) :=
  keeps_request fun u => by
    split
    · exact keeps_releaseStepOf ..
    · exact .same (register_answer ..)

/-- Every command keeps the invariants of counting, bags and caps. -/
theorem exec_keeps (i : Instr) (s : State) : ∃ t, exec i s = .next t ∧ Keeps s t := by
  cases i with
  | setDenomination h index status face form pack mass =>
    exact ⟨_, rfl, keeps_immediate fun _ => keeps_replySetDenomination index status face form pack mass⟩
  | setOperator h number role standing => exact ⟨_, rfl, keeps_immediate fun _ => keeps_replySetOperator number role standing⟩
  | setFloatProfile h index profile => exact ⟨_, rfl, keeps_immediate fun _ => keeps_replySetFloatProfile index profile⟩
  | setTill h till limit cls => exact ⟨_, rfl, keeps_immediate fun _ => keeps_replySetTill till limit cls⟩
  | setToleranceClass h cls a p => exact ⟨_, rfl, keeps_immediate fun _ => keeps_replySetToleranceClass cls a p⟩
  | setLimit h limit value => exact ⟨_, rfl, keeps_immediate fun _ => keeps_replySetLimit limit value⟩
  | setCompartment h comp role link => exact ⟨_, rfl, keeps_immediate fun _ => keeps_replySetCompartment comp role link⟩
  | setCap h comp cap => exact ⟨_, rfl, keeps_immediate fun _ => keeps_replySetCap comp cap⟩
  | setWindow h window badge comp => exact ⟨_, rfl, keeps_immediate fun _ => keeps_replySetWindow window badge comp⟩
  | setAuditStep h container on => exact ⟨_, rfl, keeps_immediate fun _ => keeps_replySetAuditStep container on⟩
  | releaseStep h container => exact ⟨_, rfl, keeps_exec_releaseStep h container⟩
  | setRouting h kind ports priority => exact ⟨_, rfl, keeps_immediate fun _ => keeps_replySetRouting kind ports priority⟩
  | restoreMemory h => exact ⟨_, rfl, keeps_immediate fun _ => keeps_authorised keeps_replyRestoreMemory⟩
  | openDay h => exact ⟨_, rfl, keeps_immediate fun _ => keeps_replyOpenDay⟩
  | closeDay h => exact ⟨_, rfl, keeps_exec_closeDay h⟩
  | reopen h => exact ⟨_, rfl, keeps_immediate fun _ => keeps_replyReopen⟩
  | setClock h time => exact ⟨_, rfl, keeps_immediate fun _ => keeps_replySetClock time⟩
  | loadPlanEntry h index time action => exact ⟨_, rfl, keeps_immediate fun _ => keeps_replyLoadPlanEntry index time action⟩
  | holdPlan h => exact ⟨_, rfl, keeps_immediate fun _ => keeps_replyHoldPlan⟩
  | resumePlan h => exact ⟨_, rfl, keeps_immediate fun _ => keeps_replyResumePlan⟩
  | issueFloat h till profile => exact ⟨_, rfl, keeps_floatRequest ..⟩
  | requestFloat h till profile => exact ⟨_, rfl, keeps_floatRequest ..⟩
  | requestTopup h till value => exact ⟨_, rfl, keeps_floatRequest ..⟩
  | takingsUpdate h till value => exact ⟨_, rfl, keeps_immediate fun _ => keeps_replyTakingsUpdate till value⟩
  | finalTakings h till value => exact ⟨_, rfl, keeps_immediate fun _ => keeps_replyFinalTakings till value⟩
  | requestPickup h till declared => exact ⟨_, rfl, keeps_immediate fun _ => keeps_replyRequestPickup till declared⟩
  | signOff h till => exact ⟨_, rfl, keeps_immediate fun _ => keeps_replySignOff till⟩
  | withdrawTill h till => exact ⟨_, rfl, keeps_immediate fun _ => keeps_replyWithdrawTill till⟩
  | returnDrawer h till => exact ⟨_, rfl, keeps_immediate fun _ => keeps_replyReturnDrawer till⟩
  | suspendTill h till => exact ⟨_, rfl, keeps_immediate fun _ => keeps_replySuspendTill till⟩
  | restoreTill h till => exact ⟨_, rfl, keeps_immediate fun _ => keeps_replyRestoreTill till⟩
  | receivePouch h till number => exact ⟨_, rfl, keeps_immediate fun _ => keeps_replyReceivePouch till number⟩
  | startCount h source tray reject => exact ⟨_, rfl, keeps_request fun _ => keeps_accessRequest h _ _⟩
  | recount h tray reject => exact ⟨_, rfl, keeps_request fun _ => keeps_recountOwner h tray reject⟩
  | manualCount h tray vec source => exact ⟨_, rfl, keeps_request fun _ => keeps_manualOwner h tray vec source⟩
  | restoreCounter h => exact ⟨_, rfl, keeps_immediate fun _ => keeps_authorised keeps_replyRestoreCounter⟩
  | resetOperations h => exact ⟨_, rfl, keeps_immediate fun _ => keeps_replyResetOperations⟩
  | postTray h tray => exact ⟨_, rfl, keeps_request fun _ => keeps_accessRequest h _ _⟩
  | acceptVariance h till => exact ⟨_, rfl, keeps_immediate fun _ => keeps_replyAcceptVariance h till⟩
  | openRange h low high => exact ⟨_, rfl, keeps_immediate fun _ => keeps_replyOpenRange low high⟩
  | lockAll h => exact ⟨_, rfl, keeps_immediate fun _ => keeps_replyLockAll⟩
  | freeze h => exact ⟨_, rfl, keeps_immediate fun u => .same (register_freezeNow u)⟩
  | thaw h => exact ⟨_, rfl, keeps_immediate fun _ => keeps_authorised keeps_replyThaw⟩
  | transfer h src dst vec => exact ⟨_, rfl, keeps_request fun _ => keeps_vectorRequest h _ _ _⟩
  | adjust h comp vec => exact ⟨_, rfl, keeps_request fun _ => keeps_vectorRequest h _ _ _⟩
  | clearAlarm h comp => exact ⟨_, rfl, keeps_immediate fun _ => keeps_authorised (keeps_replyClearAlarm comp)⟩
  | newBag h comp => exact ⟨_, rfl, keeps_immediate fun _ => keeps_replyNewBag comp⟩
  | fillBag h bag comp vec => exact ⟨_, rfl, keeps_request fun _ => keeps_vectorRequest h _ _ _⟩
  | closeBag h bag tagNumber => exact ⟨_, rfl, keeps_immediate fun _ => keeps_replyCloseBag bag tagNumber⟩
  | reopenBag h bag => exact ⟨_, rfl, keeps_immediate fun _ => keeps_replyReopenBag bag⟩
  | freeBag h bag => exact ⟨_, rfl, keeps_immediate fun _ => keeps_replyFreeBag bag⟩
  | stageBag h bag window => exact ⟨_, rfl, keeps_immediate fun _ => keeps_replyStageBag bag window⟩
  | dropBag h bag => exact ⟨_, rfl, keeps_immediate fun _ => keeps_replyDropBag bag⟩
  | openWindow h window => exact ⟨_, rfl, keeps_immediate fun _ => keeps_replyOpenWindow window⟩
  | closeWindow h window => exact ⟨_, rfl, keeps_immediate fun _ => keeps_replyCloseWindow window⟩
  | arrive h window badge => exact ⟨_, rfl, keeps_immediate fun _ => keeps_replyArrive window badge⟩
  | readManifest h => exact ⟨_, rfl, keeps_immediate fun _ => keeps_replyReadManifest⟩
  | scanBag h tagNumber => exact ⟨_, rfl, keeps_immediate fun _ => keeps_replyScanBag tagNumber⟩
  | declareInbound h tagNumber vec => exact ⟨_, rfl, keeps_immediate fun _ => keeps_replyDeclareInbound tagNumber vec⟩
  | confirmHandover h checksum => exact ⟨_, rfl, keeps_immediate fun _ => keeps_replyConfirmHandover checksum⟩
  | depart h => exact ⟨_, rfl, keeps_immediate fun _ => keeps_replyDepart⟩
  | readJournal h start maximum => exact ⟨_, rfl, keeps_immediate fun _ => keeps_replyReadJournal start maximum⟩
  | archive h seq => exact ⟨_, rfl, keeps_immediate fun _ => keeps_replyArchive seq⟩
  | readStatus h => exact ⟨_, rfl, keeps_immediate fun u => .refl u⟩
  | withdraw h tags => exact ⟨_, rfl, keeps_immediate fun _ => keeps_replyWithdraw h.port tags⟩
  | readHolding h container => exact ⟨_, rfl, keeps_immediate fun _ => keeps_replyReadHolding h.port container⟩
  | readPosition h => exact ⟨_, rfl, keeps_immediate fun u => .refl u⟩
  | readDenominations h => exact ⟨_, rfl, keeps_immediate fun u => .refl u⟩
  | readPlan h => exact ⟨_, rfl, keeps_immediate fun u => .refl u⟩
  | readProfile h profile => exact ⟨_, rfl, keeps_immediate fun _ => keeps_replyReadProfile profile⟩
  | readTill h till => exact ⟨_, rfl, keeps_immediate fun _ => keeps_replyReadTill till⟩
  | readResult h till => exact ⟨_, rfl, keeps_immediate fun _ => keeps_replyReadResult till⟩
  | readTray h tray => exact ⟨_, rfl, keeps_immediate fun _ => keeps_replyReadTray tray⟩
  | readTolerance h => exact ⟨_, rfl, keeps_immediate fun u => .refl u⟩
  | readSafe h => exact ⟨_, rfl, keeps_immediate fun u => .refl u⟩
  | readBag h bag => exact ⟨_, rfl, keeps_immediate fun _ => keeps_replyReadBag bag⟩
  | readWindow h window => exact ⟨_, rfl, keeps_immediate fun _ => keeps_replyReadWindow h.port window⟩
  | readSession h => exact ⟨_, rfl, keeps_immediate fun u => .refl u⟩
  | readRouting h => exact ⟨_, rfl, keeps_immediate fun u => .refl u⟩
  | frameDiscarded p cause => exact ⟨_, rfl, keeps_happening fun u => .refl u⟩
  | unknownRequestCode p tag code => exact ⟨_, rfl, keeps_framed fun _ => .same (register_answer ..)⟩
  | badTagFrame p tag code => exact ⟨_, rfl, keeps_exec_badTagFrame p tag code⟩
  | linkReset p => exact ⟨_, rfl, keeps_exec_linkReset p⟩
  | linkReturnsMarking p => exact ⟨_, rfl, keeps_exec_linkReturnsMarking p⟩
  | frameTransmitted p => exact ⟨_, rfl, keeps_happening fun _ => .same (register_modPort ..)⟩
  | ready => exact ⟨_, rfl, keeps_happening fun _ => keeps_readyTaken⟩
  | selectReply block => exact ⟨_, rfl, keeps_happening fun _ => keeps_selectAnswered block⟩
  | setUpReply block => exact ⟨_, rfl, keeps_happening fun _ => keeps_setUpAnswered block⟩
  | statusReply block => exact ⟨_, rfl, keeps_happening fun _ => keeps_statusAnswered block⟩
  | resultReply block => exact ⟨_, rfl, keeps_happening fun _ => keeps_resultAnswered block⟩
  | abandonReply block => exact ⟨_, rfl, keeps_happening fun _ => keeps_abandonAnswered⟩
  | counterReplyTimeout => exact ⟨_, rfl, keeps_happening fun _ => keeps_exchangeFails⟩
  | stepLimitExpiry => exact ⟨_, rfl, keeps_happening fun _ => keeps_stepExpires⟩
  | autoPostAttempt t => exact ⟨_, rfl, keeps_happening fun _ => keeps_autoPostTry t⟩
  | floatRetryPass => exact ⟨_, rfl, keeps_happening fun _ => keeps_owedFloatPass⟩
  | floatWaitExpiry p tag => exact ⟨_, rfl, keeps_happening fun _ => keeps_floatExpires p tag⟩
  | counterWaitExpiry p tag => exact ⟨_, rfl, keeps_happening fun _ => keeps_countExpires p tag⟩
  | accessWaitExpiry p tag => exact ⟨_, rfl, keeps_happening fun _ => keeps_accessExpires _ _ _ p tag⟩
  | destinationWaitExpiry p tag => exact ⟨_, rfl, keeps_happening fun _ => keeps_accessExpires _ _ _ p tag⟩
  | latchWindowExpiry c => exact ⟨_, rfl, keeps_happening fun _ => keeps_latchExpires c⟩
  | doorHeldExpiry c => exact ⟨_, rfl, keeps_happening fun _ => keeps_heldExpires c⟩
  | handoverIdleExpiry => exact ⟨_, rfl, keeps_happening fun _ => keeps_idleExpires⟩
  | doorOpens c => exact ⟨_, rfl, keeps_happening fun _ => keeps_doorOpened c⟩
  | doorCloses c => exact ⟨_, rfl, keeps_happening fun _ => keeps_doorClosed c⟩
  | clockTick => exact ⟨_, rfl, keeps_exec_clockTick⟩
  | planEntryDue => exact ⟨_, rfl, keeps_happening fun _ => keeps_runPlan⟩
  | mainSupplyLoss backup => exact ⟨_, rfl, keeps_exec_mainSupplyLoss backup⟩
  | backupSupplyLoss => exact ⟨_, rfl, keeps_exec_backupSupplyLoss⟩
  | powerReturn doors spacing drift => exact ⟨_, rfl, keeps_exec_powerReturn doors spacing drift⟩
  | coldStart doors spacing => exact ⟨_, rfl, keeps_coldStart doors spacing⟩

theorem step_keeps {s t : State} (h : step s = .next t) : Keeps s t := by
  unfold step at h
  split at h
  · cases h
    exact .refl s
  · next c rest _ =>
    obtain ⟨u, hu, keeps⟩ := exec_keeps c { s with pending := rest }
    rw [hu] at h
    cases h
    exact (Keeps.same (s := s) (t := { s with pending := rest }) rfl).trans keeps

/-! ## The invariants of counting, bags and caps -/

/-- Settles O57: every step keeps the ledger sound. -/
theorem runningCountAndJournalKept : Obligations.RunningCountAndJournalKept := by
  intro s t station journal stepped
  exact (ledger_sound_iff t).mp ((step_keeps stepped).counting ((ledger_sound_iff s).mpr ⟨station, journal⟩))

/-- Settles O59: every step keeps the bag book sound, and with it every cap load within its cap. -/
theorem bagRecordsKept : Obligations.BagRecordsKept := by
  refine ⟨fun s t bags stepped => ?_, fun s t bags caps stepped => ?_⟩
  · exact (bagBook_sound_iff t).mp ((step_keeps stepped).bags ((bagBook_sound_iff s).mpr bags))
  · exact (bagBook_within_iff t).mp
      ((step_keeps stepped).caps ((bagBook_sound_iff s).mpr bags) ((bagBook_within_iff s).mpr caps))

end Sys2Proof.Machine
end

section
/-! The conversion of a weight, and the tray's flags (R86). -/

namespace Sys2Proof.Machine

/-! ## A set of bits (R204) -/

theorem testBit_bitSet (bs : List Bool) (k : Nat) : (bitSet bs).testBit k = bs[k]?.getD false := by
  induction bs generalizing k with
  | nil => simp [bitSet]
  | cons b bs ih =>
    cases k with
    | zero => cases b <;> simp [bitSet, Nat.testBit_zero]
    | succ k =>
      have half : ((if b then 1 else 0) + 2 * bitSet bs) / 2 = bitSet bs := by split <;> omega
      rw [bitSet, Nat.testBit_succ, half, ih, List.getElem?_cons_succ]

/-- A set of 16 bits has the bit of each index. -/
theorem getLsbD_bitSet (f : DenomIx → Bool) (i : DenomIx) :
    (BitVec.ofNat 16 (bitSet ((List.finRange 16).map f))).getLsbD i.1 = f i := by
  rw [BitVec.getLsbD_ofNat, testBit_bitSet]
  simp

/-! ## A weight (R86) -/

theorem convertCoin_saturated {w m : Nat} (h : 65535 < (w + m / 2) / m) :
    convertCoin w m = { count := 65535, saturated := true, uncertain := false } := if_pos h

theorem convertCoin_counted {w m : Nat} (h : (w + m / 2) / m ≤ 65535) :
    convertCoin w m = { count := ((w + m / 2) / m : Nat), saturated := false
                        uncertain := decide (m < 4 * ((w : Int) - ((w + m / 2) / m : Nat) * m).natAbs) } :=
  if_neg (Nat.not_lt.mpr h)

/-- Half a coin is less than a coin: no weight gives no coin. -/
theorem convertCoin_zero {m : Nat} (hm : 1 ≤ m) : convertCoin 0 m = { count := 0, saturated := false, uncertain := false } := by
  have none' : (0 + m / 2) / m = 0 := Nat.div_eq_of_lt (by omega)
  rw [convertCoin_counted (by omega), none']
  simp

theorem countedFlags_uncertain (mask : BitVec 16) (bs : List Byte) (s : State) (i : DenomIx) :
    (countedFlags mask bs s).uncertain.getLsbD i.1 = (convertIndex mask bs s i).uncertain := by
  rw [countedFlags, List.map_map]
  exact getLsbD_bitSet (fun j => (convertIndex mask bs s j).uncertain) i

theorem countedFlags_saturated (mask : BitVec 16) (bs : List Byte) (s : State) :
    (countedFlags mask bs s).saturated = true ↔ ∃ j, (convertIndex mask bs s j).saturated = true := by
  simp [countedFlags]

/-- A COIN index outside the mask is converted from its weight. -/
theorem convertIndex_coin {mask : BitVec 16} {s : State} {i : DenomIx} (bs : List Byte) (out : mask.getLsbD i.1 = false)
    (coin : coinInUse s i = true) :
    convertIndex mask bs s i = convertCoin (coinWeight bs i) ((look s.store.denoms i).unitMass.getD 1) := by
  rw [convertIndex, if_neg (by rw [out]; exact Bool.false_ne_true), if_pos coin]

/-- Settles O7: the count is the quotient of the weight and half a coin by the coin, which the division brackets. -/
theorem coinConversion : Obligations.CoinConversion := by
  refine ⟨fun w m _ hm _ => ?_, fun mask bs s i => ?_⟩
  · dsimp only
    refine ⟨⟨Nat.div_mul_le_self _ _, ?_⟩, convertCoin_saturated, fun within => ?_, convertCoin_zero hm⟩
    · rw [mul_comm]
      exact Nat.lt_mul_div_succ _ hm
    · rw [convertCoin_counted within]
      refine ⟨rfl, rfl, ?_⟩
      rw [decide_eq_true_eq, Int.abs_eq_natAbs]
      omega
  · exact ⟨convertIndex_coin bs, countedFlags_uncertain mask bs s i, countedFlags_saturated mask bs s⟩

end Sys2Proof.Machine
end

section
/-! The conversation on the Counter Link (R72 to R74, R207). -/

namespace Sys2Proof.Machine

variable {s : State}

/-! ## Blocks (R203, R207) -/

theorem toNat_byteOf {n : Nat} (h : n ≤ 255) : (byteOf n).toNat = n := by
  rw [byteOf, BitVec.toNat_ofNat]
  omega

/-- A block read back: its payload. -/
theorem payloadOf_frameOf (type : Nat) {payload : List Byte} (h : payload.length ≤ 255) :
    payloadOf? type (frameOf type payload) = some payload := by
  rw [frameOf, List.cons_append, List.cons_append, payloadOf?]
  simp [toNat_byteOf h, bytes2]

theorem reply_iff {type size : Nat} {block bs : List Byte} :
    reply? type size block = some bs ↔ bs.length = size ∧ payloadOf? type block = some bs := by
  unfold reply?
  cases payloadOf? type block with
  | none => simp
  | some p =>
    dsimp only
    by_cases hp : p.length = size
    · simp only [if_pos hp, Option.some.injEq]
      exact ⟨fun e => ⟨e ▸ hp, e⟩, fun both => both.2⟩
    · simp only [if_neg hp, Option.some.injEq]
      exact ⟨nofun, fun ⟨size, e⟩ => absurd (e ▸ size) hp⟩

/-- A reply of the length the station owes. -/
theorem reply_frameOf {type size : Nat} {payload : List Byte} (hs : payload.length = size) (short : size ≤ 255) :
    reply? type size (frameOf type payload) = some payload :=
  reply_iff.mpr ⟨hs, payloadOf_frameOf type (hs.trans_le short)⟩

/-- The reply that accepts SELECT or SET-UP. -/
theorem reply_accepted (type : Nat) : reply? type 1 (frameOf type [0x01#8]) = some [0x01#8] := reply_frameOf rfl (by decide)

/-! ## Events of the link -/

/-- An event of the link that changes the Count Unit alone. -/
theorem happening_counted {effect : State → State} {count : CountUnit} (good : s.retention.supply = .good)
    (he : effect (begun s) = { begun s with count }) : happening effect s = ended { begun s with count } := by
  rw [happening_plain effect s good (by rw [he]; rfl), he]

/-- An event of the link that is disregarded. -/
theorem happening_passed {effect : State → State} (good : s.retention.supply = .good) (he : effect (begun s) = begun s) :
    happening effect s = ended (begun s) := by
  rw [happening_plain effect s good (by rw [he]; rfl), he]

/-- An event of the link that fails the count. -/
theorem happening_fails {effect : State → State} {k : FaultReason} (good : s.retention.supply = .good)
    (he : effect (begun s) = failCount k (begun s)) : happening effect s = finish (failCount k (begun s)) := by
  rw [happening_good effect s good, he]

/-! ## SELECT and SET-UP (R72) -/

theorem sendSetUp_eq {r : RunningCount} (run : s.count.running = some r) :
    sendSetUp s = modCount (fun u => { u with
      running := some { r with mask := noteMask s, step := some { elapsed := 0, limit := s.count.stepLimit } }
      exchange := some (.setUp r.tray (noteMask s) (trayOf s r.tray).rejectLimit) }) s := by
  rw [sendSetUp, run]

theorem selectAnswered_accepted {block : List Byte} (exchange : s.count.exchange = some .select)
    (reply : reply? 0xD1 1 block = some [0x01#8]) : selectAnswered block s = sendSetUp s := by
  rw [selectAnswered, if_pos exchange, if_pos reply]

theorem selectAnswered_failed {block : List Byte} (exchange : s.count.exchange = some .select)
    (reply : reply? 0xD1 1 block ≠ some [0x01#8]) : selectAnswered block s = failCount .linkFault s := by
  rw [selectAnswered, if_pos exchange, if_neg reply]

theorem settingUp_iff : settingUp s = true ↔ ∃ t m k, s.count.exchange = some (.setUp t m k) := by
  unfold settingUp
  split <;> simp_all

theorem setUpAnswered_accepted {block : List Byte} (exchange : settingUp s = true)
    (reply : reply? 0xD2 1 block = some [0x01#8]) : setUpAnswered block s = modCount (fun u => { u with exchange := none }) s := by
  rw [setUpAnswered, if_pos exchange, if_pos reply]

theorem setUpAnswered_failed {block : List Byte} (exchange : settingUp s = true)
    (reply : reply? 0xD2 1 block ≠ some [0x01#8]) : setUpAnswered block s = failCount .linkFault s := by
  rw [setUpAnswered, if_pos exchange, if_neg reply]

/-! ## READY and STATUS (R73, R74) -/

theorem readyTaken_ready {r : RunningCount} (run : s.count.running = some r) (station : s.count.station = .running)
    (exchange : s.count.exchange = none) (step : r.step ≠ none) :
    readyTaken s = modCount (fun u => { u with
      station := .collecting, running := some { r with step := none }, exchange := some .status }) s := by
  rw [readyTaken, run]
  exact if_pos ⟨station, exchange, Option.isSome_iff_ne_none.mpr step⟩

theorem readyTaken_disregarded {r : RunningCount} (run : s.count.running = some r)
    (out : s.count.station ≠ .running ∨ s.count.exchange ≠ none ∨ r.step = none) : readyTaken s = s := by
  rw [readyTaken, run]
  refine if_neg fun ⟨station, exchange, step⟩ => ?_
  obtain h | h | h := out
  · exact h station
  · exact h exchange
  · simp [h] at step

theorem readyTaken_idle (run : s.count.running = none) : readyTaken s = s := by rw [readyTaken, run]

theorem statusAnswered_taken (flags reason : Byte) (exchange : s.count.exchange = some .status) :
    statusAnswered (frameOf 0xD3 [flags, reason]) s = statusTaken flags reason s := by
  have reply : reply? 0xD3 2 (frameOf 0xD3 [flags, reason]) = some [flags, reason] := reply_frameOf rfl (by decide)
  rw [statusAnswered, if_pos exchange, reply]

theorem statusAnswered_failed {block : List Byte} (exchange : s.count.exchange = some .status)
    (reply : reply? 0xD3 2 block = none) : statusAnswered block s = failCount .linkFault s := by
  rw [statusAnswered, if_pos exchange, reply]

theorem statusTaken_done {flags : Byte} (reason : Byte) (stop : flags.getLsbD 0 = false) (done : flags.getLsbD 1 = true) :
    statusTaken flags reason s = modCount (fun u => { u with exchange := some .result }) s := by
  rw [statusTaken, if_neg (by rw [stop]; exact Bool.false_ne_true), if_pos done]
  rfl

theorem statusTaken_neither {flags : Byte} (reason : Byte) (stop : flags.getLsbD 0 = false) (done : flags.getLsbD 1 = false) :
    statusTaken flags reason s = failCount .linkFault s := by
  rw [statusTaken, if_neg (by rw [stop]; exact Bool.false_ne_true), if_neg (by rw [done]; exact Bool.false_ne_true)]

/-- The reason of a STOP by its byte (R74). -/
theorem statusTaken_stop {flags : Byte} (stop : flags.getLsbD 0 = true) :
    statusTaken flags 1#8 s = failCount .jam s ∧ statusTaken flags 2#8 s = failCount .rejectLimit s
      ∧ statusTaken flags 3#8 s = failCount .feedFault s ∧ statusTaken flags 4#8 s = failCount .scaleFault s := by
  refine ⟨?_, ?_, ?_, ?_⟩ <;> rw [statusTaken, if_pos stop] <;> rfl

/-- A STOP for no reason of the table fails the count as an unreadable reply does. -/
theorem statusTaken_unknown {flags reason : Byte} (stop : flags.getLsbD 0 = true) (unknown : reason = 0#8 ∨ 4#8 < reason) :
    statusTaken flags reason s = failCount .linkFault s := by
  have outside : reason.toNat = 0 ∨ 4 < reason.toNat := by
    obtain rfl | above := unknown
    · exact .inl rfl
    · exact .inr (BitVec.lt_def.mp above)
  rw [statusTaken, if_pos stop]
  split
  · omega
  · omega
  · omega
  · omega
  · rfl

/-! ## The obligation -/

section Conversation

variable {r : RunningCount} (good : s.retention.supply = .good)
include good

theorem select_conversation (run : s.count.running = some r) (exchange : s.count.exchange = some .select) :
    exec (.selectReply (frameOf 0xD1 [0x01#8])) s
        = .next (ended { begun s with count := { s.count with
            running := some { r with mask := noteMask s, step := some { elapsed := 0, limit := s.count.stepLimit } }
            exchange := some (.setUp r.tray (noteMask s) (trayOf s r.tray).rejectLimit) } })
      ∧ ∀ block, reply? 0xD1 1 block ≠ some [0x01#8] →
        exec (.selectReply block) s = .next (finish (failCount .linkFault (begun s))) := by
  have accepted : selectAnswered (frameOf 0xD1 [0x01#8]) (begun s) = sendSetUp (begun s) :=
    selectAnswered_accepted exchange (reply_accepted 0xD1)
  have sent := sendSetUp_eq (s := begun s) run
  have mask : noteMask (begun s) = noteMask s := rfl
  rw [mask] at sent
  exact ⟨congrArg Host.Outcome.next (happening_counted good (accepted.trans sent)), fun block reply =>
    congrArg Host.Outcome.next (happening_fails good (selectAnswered_failed exchange reply))⟩

theorem setUp_conversation (exchange : ∃ t m k, s.count.exchange = some (.setUp t m k)) :
    exec (.setUpReply (frameOf 0xD2 [0x01#8])) s = .next (ended { begun s with count := { s.count with exchange := none } })
      ∧ ∀ block, reply? 0xD2 1 block ≠ some [0x01#8] →
        exec (.setUpReply block) s = .next (finish (failCount .linkFault (begun s))) := by
  have setting : settingUp (begun s) = true := settingUp_iff.mpr exchange
  have accepted := happening_counted good (setUpAnswered_accepted setting (reply_accepted 0xD2))
  exact ⟨congrArg Host.Outcome.next accepted, fun block reply =>
    congrArg Host.Outcome.next (happening_fails good (setUpAnswered_failed setting reply))⟩

/-- A STATUS reply whose flags and reason fail the count. -/
theorem status_fails {flags reason : Byte} {k : FaultReason} (exchange : s.count.exchange = some .status)
    (he : statusTaken flags reason (begun s) = failCount k (begun s)) :
    exec (.statusReply (frameOf 0xD3 [flags, reason])) s = .next (finish (failCount k (begun s))) :=
  congrArg Host.Outcome.next (happening_fails good ((statusAnswered_taken flags reason (s := begun s) exchange).trans he))

theorem status_done {flags : Byte} (reason : Byte) (exchange : s.count.exchange = some .status)
    (stop : flags.getLsbD 0 = false) (done : flags.getLsbD 1 = true) :
    exec (.statusReply (frameOf 0xD3 [flags, reason])) s
      = .next (ended { begun s with count := { s.count with exchange := some .result } }) :=
  congrArg Host.Outcome.next (happening_counted good
    ((statusAnswered_taken flags reason (s := begun s) exchange).trans (statusTaken_done reason stop done)))

/-- Replies that no exchange awaits. -/
theorem replies_disregarded (block : List Byte) :
    (s.count.exchange ≠ some .select → exec (.selectReply block) s = .next (ended (begun s)))
    ∧ ((∀ t m k, s.count.exchange ≠ some (.setUp t m k)) → exec (.setUpReply block) s = .next (ended (begun s)))
    ∧ (s.count.exchange ≠ some .status → exec (.statusReply block) s = .next (ended (begun s)))
    ∧ (s.count.exchange ≠ some .result → exec (.resultReply block) s = .next (ended (begun s)))
    ∧ (s.count.exchange ≠ some .abandon → exec (.abandonReply block) s = .next (ended (begun s))) := by
  refine ⟨fun h => congrArg _ (happening_passed good (if_neg h)), fun h => ?_, fun h => congrArg _ (happening_passed good (if_neg h)),
    fun h => congrArg _ (happening_passed good (if_neg h)), fun h => congrArg _ (happening_passed good (if_neg h))⟩
  refine congrArg _ (happening_passed good (if_neg fun setting => ?_))
  obtain ⟨t, m, k, e⟩ := settingUp_iff.mp setting
  exact h t m k e

end Conversation

/-- Settles O47: each reply and READY, case by case of the exchange in progress. -/
theorem stationConversation : Obligations.StationConversation := by
  refine ⟨fun s r good run => ?_, fun s good run => ?_, fun s block good => replies_disregarded good block,
    fun type size block bs => reply_iff⟩
  · refine ⟨select_conversation good run, fun t m k exchange => setUp_conversation good ⟨t, m, k, exchange⟩,
      fun station exchange step =>
        congrArg Host.Outcome.next (happening_counted good (readyTaken_ready run station exchange step)),
      fun exchange => ⟨fun flags reason => status_done good reason exchange, fun flags stop => ?_,
        fun flags reason stop done => status_fails good exchange (statusTaken_neither reason stop done),
        fun block reply => congrArg Host.Outcome.next (happening_fails good (statusAnswered_failed exchange reply))⟩,
      fun out => congrArg Host.Outcome.next (happening_passed good (readyTaken_disregarded run out))⟩
    obtain ⟨jam, rejects, feed, scale⟩ := statusTaken_stop (s := begun s) stop
    exact ⟨status_fails good exchange jam, status_fails good exchange rejects, status_fails good exchange feed,
      status_fails good exchange scale, fun reason unknown => status_fails good exchange (statusTaken_unknown stop unknown)⟩
  · exact congrArg Host.Outcome.next (happening_passed good (readyTaken_idle run))

end Sys2Proof.Machine
end

section
/-! The end of an exchange without a good reply, and the failure of a count (R71, R73, R75, R76, R89). -/

namespace Sys2Proof.Machine

variable {s t : State} {k : FaultReason} {r : RunningCount}

/-! ## Answers of any content (R193) -/

theorem answer_ports_congr (h : t.ports = s.ports) (p : Port) (tag : Tag) (c : Code) (d : Nat) (l : List Field) :
    (answer p tag c d l t).ports = (answer p tag c d l s).ports := by
  cases p <;> simp [answer, modPort, h]

theorem slotOf_answer_self (p : Port) (tag : Tag) (c : Code) (d : Nat) (l : List Field) (s : State) :
    (slotOf (answer p tag c d l s) p tag).state = .answered := by
  rw [answer, slotOf, portOf_modPort, if_pos rfl]
  simp

theorem enqueue_slots (n : Notice) (q : PortRec) : (enqueue n q).slots = q.slots := by
  unfold enqueue
  split_ifs <;> rfl

/-- A notice raised leaves the slots (R196). -/
theorem slotOf_raise (k : NoticeKind) (x : Subject) (l : List Field) (s : State) (p : Port) (tag : Tag) :
    slotOf (raise k x l s) p tag = slotOf s p tag := by
  have entered (n : Notice) (b : Bool) (q : Port) (u : State) :
      slotOf (if b then modPort q (enqueue n) u else u) p tag = slotOf u p tag := by
    cases b with
    | false => rfl
    | true =>
      rw [if_pos rfl, slotOf, portOf_modPort]
      split
      · next here => subst here; rw [enqueue_slots]; rfl
      · rfl
  unfold raise
  dsimp only
  rw [entered, entered, entered]

/-! ## What a failure leaves (R76, R89) -/

/-- A tray INVALID and the held entry released (R89). -/
theorem invalidate_eq (i : TrayIx) (s : State) : invalidate i s = { s with
    count := { s.count with trays := put s.count.trays i { trayOf s i with state := .invalid } }
    store := { s.store with journal := { s.store.journal with
      held := s.store.journal.held - 1
      high := s.store.journal.high
        && decide (Config.journalHigh ≤ s.store.journal.entries.length + (s.store.journal.held - 1))
      full := s.store.journal.full
        && decide (Config.journalSize ≤ s.store.journal.entries.length + (s.store.journal.held - 1)) } }
    event := { s.event with reported := true } } := by
  rw [invalidate, releaseEntry_eq]
  rfl

/-- The station and the link after a failure: ABANDON is sent unless a STOP reply ended the count (R71, R76, R89). -/
theorem stationFailed_eq (k : FaultReason) (s : State) : stationFailed k s = { s with
    count := { s.count with
      station := if goesDown k s then .down else .idle, faults := faultsAfter k s, running := none
      exchange := if abandonsOn k then some .abandon else none, selectWaiting := false } } := by
  unfold stationFailed
  by_cases sent : abandonsOn k = true
  · rw [if_pos sent, if_pos sent]
    rfl
  · rw [if_neg sent, if_neg sent]
    rfl

/-- What a failure does to the tray, the held entry, the station and the link (R76, R89). -/
def countFailed (k : FaultReason) (r : RunningCount) (s : State) : State := invalidate r.tray (stationFailed k s)

theorem dismissCounts_count (sel : CountWaiter → Bool) (c : Code) (s : State) :
    (dismissCounts sel c s).count = { s.count with waiters := s.count.waiters.filter fun w => !sel w } := by
  rw [dismissCounts_eq, answerEach_eq]
  rfl

theorem countFailed_waiters (k : FaultReason) (r : RunningCount) (s : State) :
    (countFailed k r s).count.waiters = s.count.waiters := by
  rw [countFailed, invalidate_eq, stationFailed_eq]

theorem failCount_store (k : FaultReason) (run : s.count.running = some r) :
    (failCount k s).store = (countFailed k r s).store := by
  rw [failCount_eq k run]
  split <;> simp [faultAnswered, countFailed]

/-- A failure empties the list of count waiters where the station goes DOWN. -/
theorem failCount_count (k : FaultReason) (run : s.count.running = some r) : (failCount k s).count
    = { (countFailed k r s).count with waiters := if goesDown k s then [] else s.count.waiters } := by
  have answered : (faultAnswered k r s).count = (countFailed k r s).count := by simp [faultAnswered, countFailed]
  have waiters := countFailed_waiters k r s
  rw [failCount_eq k run]
  by_cases down : goesDown k s = true
  · rw [if_pos down, if_pos down, dismissCounts_count]
    simp [answered]
  · rw [if_neg down, if_neg down, signal_count, answered, ← waiters]

/-- The answer to the request of a failed count, after COUNT_FAULT (R89, R205). -/
def faultSent (k : FaultReason) (r : RunningCount) (s : State) : State :=
  answer r.port r.tag .countFault (faultDetail k) []
    (raise .countFault (.tray r.tray) [.u8 (faultDetail k), countField (trayOf s r.tray).count] s)

theorem countFailed_ports (k : FaultReason) (r : RunningCount) (s : State) : (countFailed k r s).ports = s.ports := by
  rw [countFailed, invalidate_eq, stationFailed_eq]

theorem countFailed_day (k : FaultReason) (r : RunningCount) (s : State) : (countFailed k r s).day = s.day := by
  rw [countFailed, invalidate_eq, stationFailed_eq]

/-- The trays after a failure: the count's INVALID, the other as it was (R89). -/
theorem trayOf_countFailed (k : FaultReason) (r : RunningCount) (s : State) (i : TrayIx) : trayOf (countFailed k r s) i
    = if i = r.tray then { trayOf s r.tray with state := .invalid } else trayOf s i := by
  rw [countFailed, invalidate_eq, stationFailed_eq]
  exact look_put ..

theorem faultAnswered_ports (k : FaultReason) (r : RunningCount) (s : State) :
    (faultAnswered k r s).ports = (faultSent k r s).ports := by
  have number : (trayOf (countFailed k r s) r.tray).count = (trayOf s r.tray).count := by rw [trayOf_countFailed, if_pos rfl]
  refine answer_ports_congr ?_ ..
  rw [← countFailed, number]
  exact raise_ports_congr (countFailed_ports k r s) (countFailed_day k r s) ..

/-- Where the station stays up, the ports carry the one notice and the answer. -/
theorem failCount_ports_up (run : s.count.running = some r) (up : goesDown k s = false) :
    (failCount k s).ports = (faultSent k r s).ports := by
  rw [failCount_eq k run, if_neg (by rw [up]; exact Bool.false_ne_true), signal_ports, faultAnswered_ports]

/-- Where the station goes DOWN, COUNTER_DOWN follows, and then the answers to the count waiters (R76). -/
theorem failCount_answers_down (run : s.count.running = some r) (down : goesDown k s = true) :
    AnswersEach (s.count.waiters.map fun w => (w.port, w.tag)) .counterDown
      (raise .counterDown .station [.u8 (faultDetail k)] (faultSent k r s)) (failCount k s) := by
  have waiters : (faultAnswered k r s).count.waiters = s.count.waiters := by
    rw [← countFailed_waiters k r s]
    simp [faultAnswered, countFailed]
  have days : (faultAnswered k r s).day = (faultSent k r s).day := by
    simp [faultAnswered, stationFailed_eq, faultSent]
  rw [failCount_eq k run, if_pos down, dismissCounts_eq]
  refine AnswersEach.of_ports (u := discardCounts (fun _ => true)
    (raise .counterDown .station [.u8 (faultDetail k)] (faultAnswered k r s))) ?_
    (raise_ports_congr (faultAnswered_ports k r s) days ..)
  have each := answersEach (s.count.waiters.map fun w => (w.port, w.tag)) .counterDown
    (discardCounts (fun _ => true) (raise .counterDown .station [.u8 (faultDetail k)] (faultAnswered k r s)))
  simpa [waiters] using each

theorem slotOf_failCount (k : FaultReason) (run : s.count.running = some r) :
    (slotOf (failCount k s) r.port r.tag).state = .answered := by
  by_cases down : goesDown k s = true
  · rw [(failCount_answers_down run down).slots]
    split
    · rfl
    · rw [slotOf_raise, faultSent]
      exact slotOf_answer_self ..
  · rw [slotOf_congr (failCount_ports_up run (by simpa using down)), faultSent]
    exact slotOf_answer_self ..

/-! ## The station after a failure (R76) -/

theorem machineFault_iff (k : FaultReason) : machineFault k = true ↔ k ≠ .jam ∧ k ≠ .rejectLimit := by
  cases k <;> simp [machineFault]

theorem faultsAfter_machine (machine : machineFault k = true) (s : State) : faultsAfter k s = s.count.faults + 1 := if_pos machine

theorem goesDown_iff (k : FaultReason) (s : State) : goesDown k s = true ↔ machineFault k = true ∧ 1 ≤ s.count.faults := by
  rw [goesDown, Bool.and_eq_true, decide_eq_true_eq]
  refine and_congr_right fun machine => ?_
  rw [faultsAfter_machine machine]
  omega

theorem countFailed_count (k : FaultReason) (r : RunningCount) (s : State) : (countFailed k r s).count = { s.count with
    station := if goesDown k s then .down else .idle, faults := faultsAfter k s, running := none
    exchange := if abandonsOn k then some .abandon else none, selectWaiting := false
    trays := put s.count.trays r.tray { trayOf s r.tray with state := .invalid } } := by
  rw [countFailed, invalidate_eq, stationFailed_eq]
  rfl

theorem countFailed_store (k : FaultReason) (r : RunningCount) (s : State) : (countFailed k r s).store
    = { s.store with journal := (countFailed k r s).store.journal }
      ∧ (countFailed k r s).store.journal.entries = s.store.journal.entries
      ∧ (countFailed k r s).store.journal.held = s.store.journal.held - 1 := by
  rw [countFailed, invalidate_eq, stationFailed_eq]
  exact ⟨rfl, rfl, rfl⟩

/-- The trays, the store and the station after a failure (R76, R89). -/
theorem failCount_leaves (k : FaultReason) (run : s.count.running = some r) :
    trayOf (failCount k s) r.tray = { trayOf s r.tray with state := .invalid }
      ∧ (∀ o, o ≠ r.tray → trayOf (failCount k s) o = trayOf s o)
      ∧ (∀ c, holding (failCount k s) c = holding s c)
      ∧ (failCount k s).store.journal.entries = s.store.journal.entries
      ∧ (failCount k s).store.journal.held = s.store.journal.held - 1
      ∧ (failCount k s).store.inflow = s.store.inflow := by
  have tray (i : TrayIx) : trayOf (failCount k s) i = trayOf (countFailed k r s) i := by
    rw [trayOf, failCount_count k run]
    rfl
  obtain ⟨store, entries, held⟩ := countFailed_store k r s
  have same := failCount_store k run
  refine ⟨by rw [tray, trayOf_countFailed, if_pos rfl], fun o ho => by rw [tray, trayOf_countFailed, if_neg ho], fun c => ?_,
    by rw [same, entries], by rw [same, held], by rw [same, store]⟩
  cases c <;> simp only [holding] <;> rw [same, store]

/-! ## The other ends of an exchange (R71, R73, R75) -/

theorem exchangeFails_abandon (exchange : s.count.exchange = some .abandon) : exchangeFails s = abandonOver s := by
  rw [exchangeFails, exchange]

/-- SELECT, SET-UP and STATUS without a reply fail the count (R71). -/
theorem exchangeFails_link
    (exchange : s.count.exchange = some .select ∨ s.count.exchange = some .status ∨ ∃ t m k, s.count.exchange = some (.setUp t m k)) :
    exchangeFails s = failCount .linkFault s := by
  obtain e | e | ⟨t, m, k, e⟩ := exchange <;> rw [exchangeFails, e]

theorem exchangeFails_result (exchange : s.count.exchange = some .result) : exchangeFails s = resultFails s := by
  rw [exchangeFails, exchange]

/-- RESULT is asked for once more (R75). -/
theorem resultFails_again (exchange : s.count.exchange = some .result) (run : s.count.running = some r)
    (first : r.reread = false) :
    resultFails s = { s with count := { s.count with running := some { r with reread := true } } } := by
  have same : ({ s.count with running := some { r with reread := true }, exchange := some .result } : CountUnit)
      = { s.count with running := some { r with reread := true } } := by rw [← exchange]
  rw [resultFails, run, ← same]
  exact if_neg (by rw [first]; exact Bool.false_ne_true)

theorem resultFails_twice (run : s.count.running = some r) (second : r.reread = true) :
    resultFails s = failCount .linkFault s := by
  rw [resultFails, run]
  exact if_pos second

theorem stepExpires_reached {x : StepTimer} (run : s.count.running = some r) (step : r.step = some x)
    (station : s.count.station = .running) (reached : x.limit ≤ x.elapsed) : stepExpires s = failCount .noResponse s := by
  rw [stepExpires, run]
  simp only [step]
  exact if_pos ⟨station, reached⟩

/-- Settles O49: the ends of an exchange, then a failure read off its tray, its station, its slot and its notices. -/
theorem countFails : Obligations.CountFails := by
  refine ⟨fun s good => ⟨fun exchange => ⟨fun block => ?_, ?_⟩, fun exchange => ?_,
    fun r run exchange => ⟨fun first => ?_, fun second => ?_⟩, fun r x run step station reached => ?_⟩, fun s r k run => ?_⟩
  · exact congrArg Host.Outcome.next (happening_counted good (if_pos exchange))
  · exact congrArg Host.Outcome.next (happening_counted good (exchangeFails_abandon (s := begun s) exchange))
  · exact congrArg Host.Outcome.next (happening_fails good (exchangeFails_link (s := begun s) exchange))
  · exact congrArg Host.Outcome.next (happening_counted good
      ((exchangeFails_result (s := begun s) exchange).trans (resultFails_again (s := begun s) exchange run first)))
  · exact congrArg Host.Outcome.next (happening_fails good
      ((exchangeFails_result (s := begun s) exchange).trans (resultFails_twice (s := begun s) run second)))
  · exact congrArg Host.Outcome.next (happening_fails good (stepExpires_reached (s := begun s) run step station reached))
  · obtain ⟨tray, others, holdings, entries, held, inflow⟩ := failCount_leaves k run
    have count := failCount_count k run
    rw [countFailed_count] at count
    have machine : (k ≠ .jam ∧ k ≠ .rejectLimit) ↔ machineFault k = true := (machineFault_iff k).symm
    have down : ((k ≠ .jam ∧ k ≠ .rejectLimit) ∧ 1 ≤ s.count.faults) ↔ goesDown k s = true := by rw [machine, goesDown_iff]
    have sent (detail : Nat) (hd : detail = faultDetail k) :
        (¬ ((k ≠ .jam ∧ k ≠ .rejectLimit) ∧ 1 ≤ s.count.faults) →
          (failCount k s).ports = (answer r.port r.tag .countFault detail [] (raise .countFault (.tray r.tray)
            [.u8 detail, .u16 (((trayOf s r.tray).count.map (·.number)).getD 0)] s)).ports)
        ∧ ((k ≠ .jam ∧ k ≠ .rejectLimit) ∧ 1 ≤ s.count.faults →
          AnswersEach (s.count.waiters.map fun w => (w.port, w.tag)) .counterDown
            (raise .counterDown .station [.u8 detail] (answer r.port r.tag .countFault detail []
              (raise .countFault (.tray r.tray)
                [.u8 detail, .u16 (((trayOf s r.tray).count.map (·.number)).getD 0)] s))) (failCount k s)) := by
      subst hd
      rw [down]
      exact ⟨fun up => failCount_ports_up run (by simpa using up), failCount_answers_down run⟩
    refine ⟨tray, others, holdings, entries, held, inflow, by rw [count], fun m => ?_, fun m => ?_, fun m once => ?_, fun up => ?_,
      fun link => ?_, by simp, by simp, by simp, by simp, by simp, slotOf_failCount k run, sent _ (by cases k <;> rfl)⟩
    · rw [count]
      exact faultsAfter_machine (machine.mp m) s
    · rw [count]
      exact if_neg fun fault => m (machine.mpr fault)
    · have goes := down.mp ⟨m, once⟩
      rw [count]
      exact ⟨if_pos goes, if_pos goes⟩
    · have stays : ¬ goesDown k s = true := fun goes => by
        obtain ⟨m, once⟩ := down.mpr goes
        obtain h | h := up
        · exact h m
        · omega
      rw [count]
      exact ⟨if_neg stays, if_neg stays⟩
    · rw [count]
      obtain rfl | rfl := link <;> rfl

end Sys2Proof.Machine
end

section
/-! RESULT's reply (R75, R86, R87): its content, and what becomes of the count. -/

namespace Sys2Proof.Machine

variable {s t : State} {r : RunningCount} {mask : BitVec 16} {bs : List Byte} {i : DenomIx}

/-! ## The content of a RESULT payload (R75, R87, R207) -/

theorem coinInUse_iff (s : State) (i : DenomIx) :
    coinInUse s i = true ↔ (look s.store.denoms i).form = some .coin ∧ (look s.store.denoms i).status ≠ .unused := by
  simp [coinInUse, and_comm]

theorem numberOf_three (a b c : Byte) : numberOf [a, b, c] = a.toNat * 65536 + b.toNat * 256 + c.toNat := by
  simp only [numberOf, List.foldl]
  omega

/-- The content fault of R75, index by index. -/
theorem contentFault_iff (mask : BitVec 16) (bs : List Byte) (s : State) : contentFault mask bs s = true ↔ ∃ i : DenomIx,
    (threeAt bs i.1 ≠ 0 ∧ mask.getLsbD i.1 = false) ∨ (threeAt bs (16 + i.1) ≠ 0 ∧ ¬ coinInUse s i = true) := by
  simp only [contentFault, List.any_eq_true, List.mem_finRange, true_and, Bool.or_eq_true, Bool.and_eq_true, decide_eq_true_eq,
    Bool.not_eq_true', Bool.not_eq_true]
  rfl

/-- A note count is saturated above 65,535 (R87). -/
theorem convertNote_eq (n : Nat) :
    convertNote n = { count := (min 65535 n : Nat), saturated := decide (65535 < n), uncertain := false } := by
  unfold convertNote
  split
  · next above =>
    have top : min 65535 n = 65535 := Nat.min_eq_left (by omega)
    rw [top, decide_eq_true above]
    rfl
  · next within =>
    rw [Nat.min_eq_right (by omega), decide_eq_false within]

theorem convertIndex_note (bs : List Byte) (s : State) (inMask : mask.getLsbD i.1 = true) :
    convertIndex mask bs s i = convertNote (noteCount bs i) := if_pos inMask

/-- An index outside the mask that is no coin in use counts nothing. -/
theorem convertIndex_none (bs : List Byte) (out : mask.getLsbD i.1 = false) (other : ¬ coinInUse s i = true) :
    convertIndex mask bs s i = { count := 0, saturated := false, uncertain := false } := by
  rw [convertIndex, if_neg (by rw [out]; exact Bool.false_ne_true), if_neg other]

/-! ## The conversion reads the table alone -/

theorem coinInUse_congr (h : t.store.denoms = s.store.denoms) (i : DenomIx) : coinInUse t i = coinInUse s i := by
  rw [coinInUse, coinInUse, h]

theorem contentFault_congr (h : t.store.denoms = s.store.denoms) (mask : BitVec 16) (bs : List Byte) :
    contentFault mask bs t = contentFault mask bs s := by
  simp only [contentFault, coinInUse_congr h]

theorem convertIndex_congr (h : t.store.denoms = s.store.denoms) (mask : BitVec 16) (bs : List Byte) (i : DenomIx) :
    convertIndex mask bs t i = convertIndex mask bs s i := by
  rw [convertIndex, convertIndex, coinInUse_congr h, h]

theorem countedVector_congr (h : t.store.denoms = s.store.denoms) (mask : BitVec 16) (bs : List Byte) :
    countedVector mask bs t = countedVector mask bs s := by
  simp only [countedVector, convertIndex_congr h]

theorem countedFlags_congr (h : t.store.denoms = s.store.denoms) (mask : BitVec 16) (bs : List Byte) :
    countedFlags mask bs t = countedFlags mask bs s := by
  have each : convertIndex mask bs t = convertIndex mask bs s := funext (convertIndex_congr h mask bs)
  rw [countedFlags, countedFlags, each]

/-! ## The reply (R75) -/

theorem resultAnswered_taken (exchange : s.count.exchange = some .result) (hl : bs.length = 99) :
    resultAnswered (frameOf 0xD4 bs) s = resultTaken bs s := by
  have reply : reply? 0xD4 99 (frameOf 0xD4 bs) = some bs := reply_frameOf hl (by decide)
  rw [resultAnswered, if_pos exchange, reply]

theorem resultAnswered_failed {block : List Byte} (exchange : s.count.exchange = some .result)
    (reply : reply? 0xD4 99 block = none) : resultAnswered block s = resultFails s := by
  rw [resultAnswered, if_pos exchange, reply]

/-- The recovered count after a payload that passes at the second asking (R75). -/
def recovered (r : RunningCount) (s : State) : State :=
  if r.reread then { s with count := { s.count with recovered := min 65535 (s.count.recovered + 1) } } else s

theorem recovered_denoms (r : RunningCount) (s : State) : (recovered r s).store.denoms = s.store.denoms := by
  unfold recovered
  split <;> rfl

theorem resultTaken_converted (run : s.count.running = some r) (clean : contentFault r.mask bs s = false) : resultTaken bs s
    = completeCount (countedVector r.mask bs s) (min 65535 (threeAt bs 32)) (countedFlags r.mask bs s) (recovered r s) := by
  have same := recovered_denoms r s
  have clean' : ¬ contentFault r.mask bs (recovered r s) = true := by
    rw [contentFault_congr same, clean]
    exact Bool.false_ne_true
  rw [resultTaken, run, ← countedVector_congr same, ← countedFlags_congr same]
  exact if_neg clean'

theorem resultTaken_faulty (run : s.count.running = some r) (fault : contentFault r.mask bs s = true) :
    resultTaken bs s = failCount .linkFault (recovered r s) := by
  rw [resultTaken, run]
  exact if_pos ((contentFault_congr (recovered_denoms r s) _ _).trans fault)

section Reply

variable (good : s.retention.supply = .good) (run : s.count.running = some r) (exchange : s.count.exchange = some .result)
include good run exchange

theorem result_taken (hl : bs.length = 99) :
    (contentFault r.mask bs s = false → exec (.resultReply (frameOf 0xD4 bs)) s
        = .next (finish (completeCount (countedVector r.mask bs s) (min 65535 (threeAt bs 32)) (countedFlags r.mask bs s)
            (recovered r (begun s)))))
      ∧ (contentFault r.mask bs s = true →
        exec (.resultReply (frameOf 0xD4 bs)) s = .next (finish (failCount .linkFault (recovered r (begun s))))) := by
  have taken : happening (resultAnswered (frameOf 0xD4 bs)) s = finish (resultTaken bs (begun s)) := by
    rw [happening_good _ s good, resultAnswered_taken (s := begun s) exchange hl]
  exact ⟨fun clean => congrArg Host.Outcome.next (taken.trans (congrArg finish (resultTaken_converted (s := begun s) run clean))),
    fun fault => congrArg Host.Outcome.next (taken.trans (congrArg finish (resultTaken_faulty (s := begun s) run fault)))⟩

theorem result_failed {block : List Byte} (reply : reply? 0xD4 99 block = none) :
    (r.reread = false → exec (.resultReply block) s
        = .next (ended { begun s with count := { s.count with
            running := some { r with reread := true }, exchange := some .result } }))
      ∧ (r.reread = true → exec (.resultReply block) s = .next (finish (failCount .linkFault (begun s)))) := by
  have failed := resultAnswered_failed (s := begun s) exchange reply
  refine ⟨fun first => ?_, fun second => ?_⟩
  · have again := failed.trans (resultFails_again (s := begun s) exchange run first)
    refine congrArg Host.Outcome.next ((happening_counted good again).trans ?_)
    rw [← exchange]
    rfl
  · exact congrArg Host.Outcome.next
      (happening_fails good (failed.trans (resultFails_twice (s := begun s) run second)))

end Reply

end Sys2Proof.Machine
end

section
/-! The completion of a count (R88): what the Store and the station are left with, COUNT_DONE and the answer; the Reconciliation
Unit's part leaves slots and responses as they are. -/

namespace Sys2Proof.Machine

variable {s t u : State}

/-! ## Slots and responses beside notices (R191, R193, R196) -/

/-- A port's slots and the responses waiting on it: what the answers to requests change. -/
def served (s : State) (p : Port) : Vector Slot 8 × List Frame := ((portOf s p).slots, (portOf s p).responses)

theorem served_congr (h : t.ports = s.ports) : served t = served s := by
  funext p
  rw [served, portOf_congr h]
  rfl

theorem enqueue_served (n : Notice) (q : PortRec) : ((enqueue n q).slots, (enqueue n q).responses) = (q.slots, q.responses) := by
  unfold enqueue
  split_ifs <;> rfl

@[simp] theorem served_raise (k : NoticeKind) (x : Subject) (l : List Field) (s : State) : served (raise k x l s) = served s := by
  have entered (n : Notice) (b : Bool) (q : Port) (u : State) :
      served (if b then modPort q (enqueue n) u else u) = served u := by
    cases b with
    | false => rfl
    | true =>
      funext p
      rw [if_pos rfl, served, portOf_modPort]
      split
      · next here => subst here; exact enqueue_served ..
      · rfl
  unfold raise
  dsimp only
  rw [entered, entered, entered]

@[simp] theorem served_report (s : State) : served (report s) = served s := rfl
@[simp] theorem served_signal (g : Signal) (s : State) : served (signal g s) = served s := rfl
@[simp] theorem served_modTill (i : TillIx) (f : TillRec → TillRec) (s : State) : served (modTill i f s) = served s := rfl
@[simp] theorem served_setDrawer (i : TillIx) (d : Option DrawerResult) (s : State) : served (setDrawer i d s) = served s := rfl

theorem served_fold_raise {α : Type} (k : NoticeKind) (x : α → Subject) (f : α → List Field) (l : List α) (s : State) :
    served (l.foldl (fun acc a => raise k (x a) (f a) acc) s) = served s := by
  induction l generalizing s with
  | nil => rfl
  | cons a l ih => rw [List.foldl_cons, ih, served_raise]

theorem served_applyMove (m : Movement) (s : State) : served (applyMove m s) = served s :=
  (served_congr (applyMove_ports m s)).trans (served_fold_raise _ _ _ _ _)

theorem served_journalMarks (n : Nat) (s : State) : served (journalMarks n s) = served s := by
  unfold journalMarks
  dsimp only
  split <;> split <;> (try simp) <;> rfl

theorem served_storeEvent (m : Movement) (s : State) : served (storeEvent [m] false s) = served s :=
  (served_journalMarks _ _).trans (served_applyMove m s)

/-! ## The Reconciliation Unit's part (R98) -/

@[simp] theorem served_evaluate (i : TillIx) (s : State) : served (evaluate i s) = served s := by
  unfold evaluate
  dsimp only
  split <;> simp [raisePickup]

@[simp] theorem served_oweAttempt (y : TrayIx) (s : State) : served (oweAttempt y s) = served s := by
  unfold oweAttempt
  split <;> rfl

@[simp] theorem served_settleTill (i : TillIx) (k : Classification) (s : State) : served (settleTill i k s) = served s :=
  (served_congr (settleTill_ports i k s)).trans (served_raise ..)

@[simp] theorem served_holdTill (i : TillIx) (h : HoldReasons) (l : List Field) (s : State) :
    served (holdTill i h l s) = served s := by simp [holdTill]

@[simp] theorem served_runComputation (i : TillIx) (s : State) : served (runComputation i s) = served s := by
  unfold runComputation
  dsimp only
  split
  · split <;> simp
  · rfl

theorem served_drawerComplete (i : TillIx) (y : TrayIx) (s : State) : served (drawerComplete i y s) = served s := by
  unfold drawerComplete
  dsimp only
  split <;> split <;> simp

@[simp] theorem served_latePouch (i : TillIx) (s : State) : served (latePouch i s) = served s := by
  unfold latePouch afterRemoval
  dsimp only
  split
  · split <;> simp
  · rfl

theorem served_pouchComplete (i : TillIx) (n : Nat) (y : TrayIx) (s : State) : served (pouchComplete i n y s) = served s := by
  unfold pouchComplete
  dsimp only
  split
  · rfl
  · split <;> simp

theorem served_inboundComplete (b : BagIx) (y : TrayIx) (s : State) : served (inboundComplete b y s) = served s := by
  have entered (d : Int) (v : State) : served (enterDifference y d v) = served v := rfl
  have marked : served (if (bagOf s b).state = .counting then report (modBag b (fun r => { r with state := .counted }) s) else s)
      = served s := by split <;> rfl
  unfold inboundComplete
  dsimp only
  split
  · rw [served_raise, entered, marked]
  · rw [entered, marked]

theorem served_compartmentComplete (c : CompIx) (y : TrayIx) (s : State) : served (compartmentComplete c y s) = served s := by
  unfold compartmentComplete
  dsimp only
  split
  · exact served_raise ..
  · rfl

theorem served_handOver (y : TrayIx) (s : State) : served (handOver y s) = served s := by
  unfold handOver
  split
  · next src _ =>
    cases src with
    | drawer i n =>
      dsimp only [reconcile]
      split
      · exact served_drawerComplete ..
      · rfl
    | pouch i n k =>
      dsimp only [reconcile]
      rw [served_oweAttempt]
      split
      · exact served_pouchComplete ..
      · rfl
    | inbound b => exact served_inboundComplete ..
    | compartment c => exact served_compartmentComplete ..
    | loose => exact served_oweAttempt ..
  · rfl

/-! ## The stages of a completion (R88) -/

section Stages

variable (v : Counts) (n : Nat) (f : TrayFlags) (r : RunningCount) (s : State)

/-- The COUNT_RESULT of a completion, in the held entry's place (R88). -/
def completionMove : Movement :=
  countResultMove r.tray v r.port r.ops { MoveFlags.clear with uncertain := trayUncertain f, saturated := f.saturated } true

/-- The state before COUNT_DONE: the Store's event applied, the tray COUNTED and the station IDLE. -/
def countEntered : State :=
  modCount (fun u => { u with station := .idle, faults := 0, running := none, exchange := none })
    (report (modTray r.tray (fun x => { x with state := .counted, rejects := n, flags := f })
      (storeEvent [completionMove v f r] false s)))

/-- The content of COUNT_DONE (R88). -/
def countContent : List Field :=
  [countField (trayOf s r.tray).count] ++ ((trayOf s r.tray).source.map sourceFields).getD []
    ++ [.value (valueOf s v), .u8 (trayFlagBits f)]

/-- The results of the request whose count completes (R88, R205). -/
def countResults : List Field :=
  [.u8 r.tray.1, countField (trayOf s r.tray).count, .items v, .value (valueOf s v), .u16 n, .u8 (trayFlagBits f),
    .u16 f.uncertain.toNat] ++ optional (r.outSeq.map fun n => [.u32 n]) ++ [.u32 s.store.journal.nextSeq]

/-- The state handed to the Reconciliation Unit: COUNT_DONE raised and the request answered. -/
def countSent : State :=
  answer r.port r.tag .ok 0 (countResults v n f r s)
    (raise .countDone (.tray r.tray) (countContent v f r s) (countEntered v n f r s))

theorem trayOf_countEntered (i : TrayIx) : trayOf (countEntered v n f r s) i
    = if i = r.tray then { trayOf s r.tray with state := .counted, rejects := n, flags := f } else trayOf s i := by
  have stored (j : TrayIx) : trayOf (storeEvent [completionMove v f r] false s) j = trayOf s j := by simp [trayOf]
  rw [← stored r.tray, ← stored i]
  exact look_put ..

theorem holding_stored (c : Container) :
    holding (storeEvent [completionMove v f r] false s) c = if c = .tray r.tray then v else holding s c :=
  (holding_storeEvent ..).trans (holding_applyMove_result ..)

theorem valueOf_stored : valueOf (storeEvent [completionMove v f r] false s) v = valueOf s v := by simp [valueOf]

theorem countEntered_store : (countEntered v n f r s).store = (storeEvent [completionMove v f r] false s).store := rfl

theorem countEntered_content : raiseCountDone r.tray (countEntered v n f r s)
    = raise .countDone (.tray r.tray) (countContent v f r s) (countEntered v n f r s) := by
  have tray : trayOf (countEntered v n f r s) r.tray = _ := (trayOf_countEntered v n f r s r.tray).trans (if_pos rfl)
  have held : holding (countEntered v n f r s) (.tray r.tray) = v :=
    (holding_congr _ _ (countEntered_store v n f r s) _).trans ((holding_stored v f r s _).trans (if_pos rfl))
  have worth : valueOf (countEntered v n f r s) v = valueOf s v := valueOf_stored v f r s
  rw [raiseCountDone]
  rw [tray, held, worth]
  rfl

theorem completeCount_eq {r : RunningCount} (run : s.count.running = some r) :
    completeCount v n f s = signal .countPass (handOver r.tray (countSent v n f r s)) := by
  have number : (trayOf (raise .countDone (.tray r.tray) (countContent v f r s) (countEntered v n f r s)) r.tray).count
      = (trayOf s r.tray).count := by
    have same : trayOf (raise .countDone (.tray r.tray) (countContent v f r s) (countEntered v n f r s)) r.tray
        = trayOf (countEntered v n f r s) r.tray := by simp [trayOf]
    rw [same, trayOf_countEntered, if_pos rfl]
  have worth : valueOf (raise .countDone (.tray r.tray) (countContent v f r s) (countEntered v n f r s)) v = valueOf s v := by
    have raised : valueOf (raise .countDone (.tray r.tray) (countContent v f r s) (countEntered v n f r s)) v
        = valueOf (countEntered v n f r s) v := by simp [valueOf]
    exact raised.trans (valueOf_stored v f r s)
  have entered := countEntered_content v n f r s
  unfold completeCount
  rw [run]
  dsimp only
  rw [countSent, countResults, ← number, ← worth, ← entered]
  rfl

end Stages

end Sys2Proof.Machine
end

section
/-! A count completed (R88): what the Custody Store, the station, the tray and the request are left with. -/

namespace Sys2Proof.Machine

section Completed

variable (v : Counts) (n : Nat) (f : TrayFlags) (r : RunningCount) (s : State)

/-! ## The state handed over -/

theorem countSent_store : (countSent v n f r s).store = (storeEvent [completionMove v f r] false s).store := by
  simp [countSent, countEntered_store]

theorem countSent_count : (countSent v n f r s).count = { s.count with
    station := .idle, faults := 0, running := none, exchange := none
    trays := put s.count.trays r.tray { trayOf s r.tray with state := .counted, rejects := n, flags := f } } := by
  simp [countSent, countEntered, modTray, modCount, trayOf]

theorem countSent_frame : (countSent v n f r s).float.tills = s.float.tills ∧ (countSent v n f r s).recon = s.recon
    ∧ (countSent v n f r s).courier = s.courier ∧ (countSent v n f r s).safe = s.safe ∧ (countSent v n f r s).day = s.day := by
  have safe : (storeEvent [completionMove v f r] false s).safe = s.safe := safe_storeEvent_unnamed rfl s
  refine ⟨?_, ?_, ?_, ?_, ?_⟩ <;> simp [countSent, countEntered, modTray, modCount, safe]

theorem trayOf_countSent (i : TrayIx) : trayOf (countSent v n f r s) i
    = if i = r.tray then { trayOf s r.tray with state := .counted, rejects := n, flags := f } else trayOf s i := by
  rw [trayOf, countSent_count]
  exact look_put ..

theorem holding_countSent (c : Container) :
    holding (countSent v n f r s) c = if c = .tray r.tray then v else holding s c :=
  (holding_congr _ _ (countSent_store v n f r s) c).trans (holding_stored v f r s c)

theorem served_countEntered : served (countEntered v n f r s) = served s :=
  (served_congr rfl).trans (served_storeEvent _ s)

/-- The responses gain the frames of the answer, and no others. -/
theorem responses_countSent : (portOf (countSent v n f r s) r.port).responses = (portOf s r.port).responses ++ framesOf
    { tag := r.tag.1, code := (slotOf s r.port r.tag).code, outcome := .ok, detail := 0, results := countResults v n f r s } := by
  have before := congrFun ((served_raise .countDone (.tray r.tray) (countContent v f r s) (countEntered v n f r s)).trans
    (served_countEntered v n f r s)) r.port
  obtain ⟨slots, responses⟩ := Prod.mk.inj before
  rw [countSent, answer, portOf_modPort, if_pos rfl, slotOf]
  dsimp only
  rw [slots, responses]

theorem countSent_ports : (countSent v n f r s).ports = (answer r.port r.tag .ok 0 (countResults v n f r s)
    (raise .countDone (.tray r.tray) (countContent v f r s) (storeEvent [completionMove v f r] false s))).ports := by
  have ports : (countEntered v n f r s).ports = (storeEvent [completionMove v f r] false s).ports := rfl
  have day : (countEntered v n f r s).day = (storeEvent [completionMove v f r] false s).day := rfl
  rw [countSent]
  exact answer_ports_congr (raise_ports_congr ports day ..) ..

/-! ## The state after the completion -/

variable {r s} (run : s.count.running = some r)
include run

theorem totalsAlone_completeCount : TotalsAlone (countSent v n f r s) (completeCount v n f s) := by
  have handed := totalsAlone_handOver r.tray (countSent v n f r s)
  rw [completeCount_eq v n f s run]
  exact ⟨handed.store, handed.fillOps⟩

theorem completeCount_count : (completeCount v n f s).count = (countSent v n f r s).count := by
  rw [completeCount_eq v n f s run]
  simp

theorem trayOf_completeCount (i : TrayIx) : trayOf (completeCount v n f s) i
    = if i = r.tray then { trayOf s r.tray with state := .counted, rejects := n, flags := f } else trayOf s i := by
  rw [trayOf, completeCount_count v n f run]
  exact trayOf_countSent v n f r s i

theorem holding_completeCount (c : Container) :
    holding (completeCount v n f s) c = if c = .tray r.tray then v else holding s c :=
  ((totalsAlone_completeCount v n f run).holding c).trans (holding_countSent v n f r s c)

/-- The store after a completion: the event's, but for the totals. -/
theorem completeCount_store : (completeCount v n f s).store
    = { (storeEvent [completionMove v f r] false s).store with totals := (completeCount v n f s).store.totals } := by
  rw [← countSent_store v n f r s]
  exact (totalsAlone_completeCount v n f run).store

theorem completeCount_journal : (completeCount v n f s).store.journal.held = s.store.journal.held - 1
    ∧ (completeCount v n f s).store.journal.entries = s.store.journal.entries ++ [entryOf (completionMove v f r) s] := by
  have journal := applyMove_journal (completionMove v f r) s
  rw [completeCount_store v n f run, storeEvent_store]
  exact ⟨congrArg Journal.held journal, congrArg Journal.entries journal⟩

theorem completeCount_flows :
    (completeCount v n f s).store.inflow = s.store.inflow.add (v.sub (holding s (.tray r.tray)))
      ∧ (completeCount v n f s).store.outflow = s.store.outflow ∧ (completeCount v n f s).store.base = s.store.base := by
  rw [completeCount_store v n f run]
  obtain ⟨inflow, outflow⟩ := flows_applyMove_result r.tray v r.port r.ops
    { MoveFlags.clear with uncertain := trayUncertain f, saturated := f.saturated } true s
  refine ⟨?_, ?_, by simp⟩
  · rw [storeEvent_store]
    exact inflow
  · rw [storeEvent_store]
    exact outflow

theorem slotOf_completeCount : (slotOf (completeCount v n f s) r.port r.tag).state = .answered := by
  have slots : slotOf (completeCount v n f s) r.port r.tag = slotOf (countSent v n f r s) r.port r.tag := by
    rw [completeCount_eq v n f s run]
    exact congrArg (fun p => look p.1 r.tag) (congrFun (served_handOver r.tray (countSent v n f r s)) r.port)
  rw [slots, countSent]
  exact slotOf_answer_self ..

end Completed

/-! ## What the fields of a completion spell out (R88, R205) -/

theorem sourceFields_getD (o : Option Source) : (o.map sourceFields).getD [] = match o with
    | some (.drawer i n) => [.u8 0, .u8 i.1, .u16 n]
    | some (.pouch i n k) => [.u8 1, .u8 i.1, .u16 n, .u8 k]
    | some (.inbound b) => [.u8 2, .u8 b.1]
    | some (.compartment c) => [.u8 3, .u8 c.1]
    | some .loose => [.u8 4]
    | none => [] := by
  cases o with
  | none => rfl
  | some src => cases src <;> rfl

theorem optional_seq (o : Option Nat) : optional (o.map fun n => [.u32 n]) = match o with
    | some n => [.u8 1, .u32 n]
    | none => [.u8 0] := by
  cases o <;> rfl

end Sys2Proof.Machine
end

section
/-! The Reconciliation Unit's part of a completion, by the kind of the source (R98 to R100, R106, R108 to R111, R118). -/

namespace Sys2Proof.Machine

variable {s : State} {t : TrayIx} {src : Source} {i : TillIx} {n k : Nat}

/-! ## Open sources (R78) -/

theorem sourceOpen_drawer (s : State) (i : TillIx) (n : Nat) : sourceOpen s (.drawer i n) = true
    ↔ (tillOf s i).session = n ∧ ((tillOf s i).state = .counting ∨ (tillOf s i).state = .held) := by
  simp [sourceOpen, tillOf]

theorem sourceOpen_pouch (s : State) (i : TillIx) (n k : Nat) :
    sourceOpen s (.pouch i n k) = true ↔ (tillOf s i).session = n ∧ (tillOf s i).state ≠ .idle := by
  simp [sourceOpen, tillOf]

theorem handOver_none (source : (trayOf s t).source = none) : handOver t s = s := by rw [handOver, source]

theorem handOver_some (source : (trayOf s t).source = some src) : handOver t s = reconcile src (sourceOpen s src) t s := by
  rw [handOver, source]

theorem reconcile_closed_drawer (closed : sourceOpen s (.drawer i n) = false) :
    reconcile (.drawer i n) (sourceOpen s (.drawer i n)) t s = s := by
  rw [closed]
  rfl

theorem reconcile_open_drawer (opened : sourceOpen s (.drawer i n) = true) :
    reconcile (.drawer i n) (sourceOpen s (.drawer i n)) t s = drawerComplete i t s := by
  rw [opened]
  rfl

theorem reconcile_closed_pouch (closed : sourceOpen s (.pouch i n k) = false) :
    reconcile (.pouch i n k) (sourceOpen s (.pouch i n k)) t s = oweAttempt t s := by
  rw [closed]
  rfl

theorem reconcile_open_pouch (opened : sourceOpen s (.pouch i n k) = true) :
    reconcile (.pouch i n k) (sourceOpen s (.pouch i n k)) t s = oweAttempt t (pouchComplete i k t s) := by
  rw [opened]
  rfl

/-! ## A drawer (R99, R100) -/

theorem waitingReasons_eq (r : TillRec) : waitingReasons r =
    { undeclared := decide (r.final = none), pendingPickups := r.pouches.any fun p => p.state ≠ .counted
      outside := false, gross := false, uncertain := false } := by
  have none (o : Option Nat) : o.isNone = decide (o = none) := by cases o <;> rfl
  rw [waitingReasons, none]
  rfl

theorem waiting_iff (h : HoldReasons) : waiting h = true ↔ h.undeclared = true ∨ h.pendingPickups = true := by
  simp [waiting]

theorem not_waiting {h : HoldReasons} (u : h.undeclared = false) (p : h.pendingPickups = false) : ¬ waiting h = true := by
  simp [waiting, u, p]

/-- The state with the drawer result entered (R97). -/
def drawerEntered (i : TillIx) (t : TrayIx) (s : State) : State := setDrawer i (some (drawerResult s i t)) s

section Drawer

variable (t)

theorem drawerComplete_waits (counting : (tillOf s i).state = .counting) (h : waiting (waitingReasons (tillOf s i)) = true) :
    drawerComplete i t s
      = holdTill i (waitingReasons (tillOf s i)) [.value (drawerResult s i t).counted] (drawerEntered i t s) := by
  rw [drawerComplete, counting]
  exact (if_neg (by decide)).trans (if_pos h)

theorem drawerComplete_computes (counting : (tillOf s i).state = .counting) (h : ¬ waiting (waitingReasons (tillOf s i)) = true) :
    drawerComplete i t s = runComputation i (drawerEntered i t s) := by
  rw [drawerComplete, counting]
  exact (if_neg (by decide)).trans (if_neg h)

theorem drawerComplete_held_waits (held : (tillOf s i).state = .held) (h : waiting (tillOf s i).hold = true) :
    drawerComplete i t s = drawerEntered i t s := by
  rw [drawerComplete, held]
  exact (if_pos rfl).trans (if_pos h)

theorem drawerComplete_held_computes (held : (tillOf s i).state = .held) (h : ¬ waiting (tillOf s i).hold = true) :
    drawerComplete i t s = runComputation i
      (modTill i (fun r => { r with hold := { r.hold with outside := false, gross := false, uncertain := false } })
        (drawerEntered i t s)) := by
  rw [drawerComplete, held]
  exact (if_pos rfl).trans (if_neg h)

end Drawer

/-! ## A pouch (R106, R108, R109) -/

/-- The state with a pouch's counted value and difference entered and P increased. -/
def pouchEntered (i : TillIx) (k : Nat) (c added : Int) (s : State) : State :=
  modTill i (fun r => { r with
    pouches := modPouch k (fun q => { q with state := .counted, counted := some c, diff := some (c - q.declared) }) r.pouches
    p := r.p + added }) s

section Pouch

variable {p : Pouch} (found : pouch? (tillOf s i) k = some p)
include found

theorem pouchComplete_again (counted : p.state = .counted) : pouchComplete i k t s
    = evaluate i (pouchEntered i k (valueOf s (holding s (.tray t)))
        (valueOf s (holding s (.tray t)) - p.counted.getD 0) s) := by
  simp only [pouchComplete, found, counted, if_true, add_sub_assoc]
  rfl

theorem pouchComplete_first (first : p.state ≠ .counted) : pouchComplete i k t s
    = latePouch i (evaluate i (report
        (pouchEntered i k (valueOf s (holding s (.tray t))) (valueOf s (holding s (.tray t))) s))) := by
  simp only [pouchComplete, found, first, if_false]
  rfl

end Pouch

/-- The till is HELD with PENDING_PICKUPS and its pouches are all COUNTED (R106). -/
def pickupsOver (s : State) (i : TillIx) : Prop :=
  (tillOf s i).state = .held ∧ (tillOf s i).hold.pendingPickups = true ∧ ∀ q ∈ (tillOf s i).pouches, q.state = .counted

/-- The state with PENDING_PICKUPS removed (R106). -/
def pickupsRemoved (i : TillIx) (s : State) : State :=
  modTill i (fun r => { r with hold := { r.hold with pendingPickups := false } }) s

theorem pickupsOver_iff (s : State) (i : TillIx) : pickupsOver s i
    ↔ ((tillOf s i).state = .held && (tillOf s i).hold.pendingPickups
        && (tillOf s i).pouches.all (fun p => p.state == .counted)) = true := by
  simp [pickupsOver, and_assoc]

theorem latePouch_stays (pending : ¬ pickupsOver s i) : latePouch i s = s :=
  if_neg fun h => pending ((pickupsOver_iff s i).mpr h)

theorem tillOf_pickupsRemoved (i : TillIx) (s : State) : tillOf (pickupsRemoved i s) i
    = { tillOf s i with hold := { (tillOf s i).hold with pendingPickups := false } } :=
  (tillOf_modTill ..).trans (if_pos rfl)

theorem latePouch_computes (all : pickupsOver s i) (declared : (tillOf s i).hold.undeclared = false) :
    latePouch i s = runComputation i (pickupsRemoved i s) := by
  have none : ¬ waiting (tillOf (pickupsRemoved i s) i).hold = true := by
    rw [tillOf_pickupsRemoved]
    exact not_waiting declared rfl
  exact (if_pos ((pickupsOver_iff s i).mp all)).trans (if_neg none)

theorem latePouch_holds (all : pickupsOver s i) (undeclared : (tillOf s i).hold.undeclared = true) :
    latePouch i s = raise .tillHeld (.till i)
      [.u8 (bitSet [true, false, (tillOf s i).hold.outside, (tillOf s i).hold.gross, (tillOf s i).hold.uncertain])]
      (pickupsRemoved i s) := by
  have held : waiting (tillOf (pickupsRemoved i s) i).hold = true := by
    rw [tillOf_pickupsRemoved, waiting_iff]
    exact .inl undeclared
  have bits : holdBits (tillOf (pickupsRemoved i s) i).hold
      = bitSet [true, false, (tillOf s i).hold.outside, (tillOf s i).hold.gross, (tillOf s i).hold.uncertain] := by
    rw [tillOf_pickupsRemoved, holdBits, undeclared]
  rw [← bits]
  exact (if_pos ((pickupsOver_iff s i).mp all)).trans (if_pos held)

/-! ## An inbound bag and a compartment (R110, R111) -/

/-- The custody total with a tray's difference entered in place of the one it had added (R110, R111). -/
def differenceEntered (t : TrayIx) (d : Int) (s : State) : DayTotals :=
  { s.store.totals with custody := s.store.totals.custody + (d - (look s.recon.diffs t).getD 0) }

/-- The ports after a difference: VARIANCE_NOTED where it is not 0 (R110, R111). -/
def varianceNoted (x : Subject) (l : List Field) (d : Int) (s : State) : State :=
  if d = 0 then s else raise .varianceNoted x l s

theorem noted_eq (x : Subject) (l : List Field) (d : Int) (s : State) :
    (if d ≠ 0 then raise .varianceNoted x l s else s) = { s with ports := (varianceNoted x l d s).ports } := by
  unfold varianceNoted
  by_cases zero : d = 0
  · rw [if_neg (not_not.mpr zero), if_pos zero]
  · rw [if_pos zero, if_neg zero]
    exact raise_eq ..

theorem varianceNoted_ports_congr {u : State} (hp : u.ports = s.ports) (hd : u.day = s.day) (x : Subject) (l : List Field) (d : Int) :
    (varianceNoted x l d u).ports = (varianceNoted x l d s).ports := by
  unfold varianceNoted
  split
  · exact hp
  · exact raise_ports_congr hp hd ..

theorem compartmentComplete_eq (c : CompIx) (t : TrayIx) (s : State) {d : Int}
    (hd : d = valueOf s (holding s (.tray t)) - valueOf s (trayOf s t).prior) : compartmentComplete c t s = { s with
      store := { s.store with totals := differenceEntered t d s }
      recon := { s.recon with diffs := put s.recon.diffs t (some d) }
      ports := (varianceNoted (.comp c)
        [.value (valueOf s (trayOf s t).prior), .value (valueOf s (holding s (.tray t))), .signed d] d s).ports } := by
  subst hd
  rw [compartmentComplete]
  refine (noted_eq ..).trans ?_
  rw [varianceNoted_ports_congr (u := enterDifference t _ s) (s := s) rfl rfl]
  rfl

/-- An inbound bag marked COUNTED where it was COUNTING (R110). -/
def inboundMarked (b : BagIx) (s : State) : State :=
  if (bagOf s b).state = .counting then report (modBag b (fun r => { r with state := .counted }) s) else s

theorem bagOf_inboundMarked (b c : BagIx) (s : State) : bagOf (inboundMarked b s) c
    = if c = b then (if (bagOf s b).state = .counting then { bagOf s b with state := .counted } else bagOf s b)
      else bagOf s c := by
  unfold inboundMarked
  split
  · refine (bagOf_modBag b c (fun r => { r with state := .counted }) s).trans ?_
    split
    · next here => rw [here]
    · rfl
  · split
    · next here => rw [here]
    · rfl

theorem inboundMarked_frame (b : BagIx) (s : State) : (inboundMarked b s).store = s.store ∧ (inboundMarked b s).recon = s.recon
    ∧ (inboundMarked b s).float = s.float ∧ (inboundMarked b s).ports = s.ports ∧ (inboundMarked b s).day = s.day := by
  unfold inboundMarked
  split <;> simp

theorem reported_inboundMarked (b : BagIx) (s : State) :
    (inboundMarked b s).event.reported = true ↔ s.event.reported = true ∨ (bagOf s b).state = .counting := by
  unfold inboundMarked
  split
  · next counting => simp [counting, report]
  · next other => simp [other]

theorem inboundComplete_eq (b : BagIx) (t : TrayIx) (s : State) {declared d : Int}
    (hdecl : declared = ((bagOf s b).declared.map (·.value)).getD 0) (hd : d = valueOf s (holding s (.tray t)) - declared) :
    inboundComplete b t s = { inboundMarked b s with
      store := { s.store with totals := differenceEntered t d s }
      recon := { s.recon with diffs := put s.recon.diffs t (some d) }
      ports := (varianceNoted (.bag b) [.u32 ((bagOf s b).tag.getD 0), .value declared,
        .value (valueOf s (holding s (.tray t))), .signed d] d s).ports } := by
  subst hd hdecl
  obtain ⟨store, recon, _, ports, day⟩ := inboundMarked_frame b s
  rw [inboundComplete]
  refine (noted_eq ..).trans ?_
  rw [← inboundMarked, varianceNoted_ports_congr (u := enterDifference t _ (inboundMarked b s)) (s := s) ports day,
    enterDifference, differenceEntered, ← store, ← recon]

end Sys2Proof.Machine
end

section
/-! RESULT and the completion of a count (R75, R86 to R88, R98): the statement's parts put together. -/

namespace Sys2Proof.Machine

variable {s : State} {t : TrayIx} {i : TillIx} {k : Nat}

/-- The conversion of a payload, index by index (R75, R86, R87). -/
theorem conversion_parts (mask : BitVec 16) (bs : List Byte) (s : State) (i : DenomIx) :
    look (countedVector mask bs s) i = (convertIndex mask bs s i).count
      ∧ (mask.getLsbD i.1 = true → convertIndex mask bs s i
          = { count := min 65535 (threeAt bs i.1 : Int), saturated := decide (65535 < threeAt bs i.1), uncertain := false })
      ∧ (mask.getLsbD i.1 = false → coinInUse s i = true → convertIndex mask bs s i
          = convertCoin (threeAt bs (16 + i.1)) ((look s.store.denoms i).unitMass.getD 1))
      ∧ (mask.getLsbD i.1 = false → ¬ coinInUse s i = true →
          convertIndex mask bs s i = { count := 0, saturated := false, uncertain := false }) := by
  refine ⟨look_ofFn .., fun inMask => ?_, fun out coin => convertIndex_coin bs out coin, fun out other =>
    convertIndex_none bs out other⟩
  rw [convertIndex_note bs s inMask, convertNote_eq]
  push_cast
  rfl

/-- A pouch completion with its till open: what is entered, and what follows the last pouch of a HELD till (R106, R108). -/
theorem pouch_handed {p : Pouch} (found : pouch? (tillOf s i) k = some p) (first : p.state ≠ .counted) :
    let e := evaluate i (report (pouchEntered i k (valueOf s (holding s (.tray t))) (valueOf s (holding s (.tray t))) s))
    (¬ pickupsOver e i → pouchComplete i k t s = e)
      ∧ (pickupsOver e i → (tillOf e i).hold.undeclared = false →
          pouchComplete i k t s = runComputation i (pickupsRemoved i e))
      ∧ (pickupsOver e i → (tillOf e i).hold.undeclared = true → pouchComplete i k t s = raise .tillHeld (.till i)
          [.u8 (bitSet [true, false, (tillOf e i).hold.outside, (tillOf e i).hold.gross, (tillOf e i).hold.uncertain])]
          (pickupsRemoved i e)) := by
  intro e
  rw [pouchComplete_first found first]
  exact ⟨latePouch_stays, latePouch_computes, latePouch_holds⟩

/-- Settles O48: RESULT's reply, its conversion, the completion's effects, and the handover by the kind of the source. -/
theorem countCompletes : Obligations.CountCompletes := by
  refine ⟨fun s r good run exchange => ⟨fun bs hl => result_taken good run exchange hl, fun block reply =>
    result_failed good run exchange reply⟩, fun mask bs s => ?_, fun s r v n f run => ?_, fun s i n k =>
    ⟨sourceOpen_drawer s i n, sourceOpen_pouch s i n k⟩, fun s t => handOver_none, fun s t src source => ?_⟩
  · intro three coin
    have inUse (i : DenomIx) : coin i ↔ coinInUse s i = true := (coinInUse_iff s i).symm
    simp only [inUse]
    exact ⟨fun k => rfl, numberOf_three, contentFault_iff mask bs s, conversion_parts mask bs s⟩
  · intro t number marks source results result
    have content : countContent v f r s = [number] ++ source ++ [.value (valueOf s v), marks] := by
      rw [countContent, sourceFields_getD]
      rfl
    have answered : countResults v n f r s = results := by
      rw [countResults, optional_seq]
      rfl
    obtain ⟨held, entries⟩ := completeCount_journal v n f run
    obtain ⟨inflow, outflow, base⟩ := completeCount_flows v n f run
    obtain ⟨tills, recon, courier, safe, day⟩ := countSent_frame v n f r s
    have count := (completeCount_count v n f run).trans (countSent_count v n f r s)
    have store := countSent_store v n f r s
    have totals : (countSent v n f r s).store.totals = s.store.totals := by simp [store]
    have denoms : (countSent v n f r s).store.denoms = s.store.denoms := by simp [store]
    have responses := responses_countSent v n f r s
    have ports := countSent_ports v n f r s
    rw [answered] at responses ports
    rw [content] at ports
    refine ⟨holding_completeCount v n f run, (trayOf_completeCount v n f run r.tray).trans (if_pos rfl),
      fun o other => (trayOf_completeCount v n f run o).trans (if_neg other), congrArg CountUnit.station count,
      congrArg CountUnit.running count, congrArg CountUnit.faults count, congrArg CountUnit.exchange count, held, entries,
      inflow, outflow, base, slotOf_completeCount v n f run, by simp [t], countSent v n f r s, completeCount_eq v n f s run,
      holding_countSent v n f r s, (trayOf_countSent v n f r s r.tray).trans (if_pos rfl), tills, recon, courier, safe, store,
      totals, denoms, day, responses, ports⟩
  · intro u counted owed
    have handed : u = reconcile src (sourceOpen s src) t s := handOver_some source
    refine ⟨fun i n hsrc => ?_, fun i n k hsrc => ?_, fun b hsrc => ?_, fun c hsrc => ?_, fun hsrc => ?_⟩
    · subst hsrc
      intro r d b h
      have reasons : waitingReasons r = h := waitingReasons_eq r
      refine ⟨fun closed => handed.trans (reconcile_closed_drawer closed), fun opened counting => ?_, fun opened held => ?_⟩
      · have complete := handed.trans (reconcile_open_drawer opened)
        refine ⟨fun waits => ?_, fun declared counted => ?_⟩
        · have waits' : waiting (waitingReasons r) = true := by rwa [reasons, waiting_iff]
          have holds := complete.trans (drawerComplete_waits t counting waits')
          rw [reasons] at holds
          exact holds
        · have none : ¬ waiting (waitingReasons r) = true := by
            rw [reasons]
            exact not_waiting declared counted
          exact complete.trans (drawerComplete_computes t counting none)
      · have complete := handed.trans (reconcile_open_drawer opened)
        exact ⟨fun waits => complete.trans (drawerComplete_held_waits t held ((waiting_iff _).mpr waits)),
          fun declared counted => complete.trans (drawerComplete_held_computes t held (not_waiting declared counted))⟩
    · subst hsrc
      refine ⟨fun closed => handed.trans (reconcile_closed_pouch closed), fun opened p found => ?_⟩
      have complete := handed.trans (reconcile_open_pouch opened)
      intro entered
      refine ⟨fun again => complete.trans (congrArg owed (pouchComplete_again found again)), fun first => ?_⟩
      obtain ⟨stays, computes, holds⟩ := pouch_handed (t := t) found first
      exact ⟨fun pending => complete.trans (congrArg owed (stays pending)),
        fun all declared => complete.trans (congrArg owed (computes all declared)),
        fun all undeclared => complete.trans (congrArg owed (holds all undeclared))⟩
    · subst hsrc
      intro declared d
      have complete := handed.trans (inboundComplete_eq b t s (declared := declared) (d := d) rfl rfl)
      obtain ⟨_, _, float, _, _⟩ := inboundMarked_frame b s
      have bags (c : BagIx) : bagOf u c = bagOf (inboundMarked b s) c := by rw [complete]; rfl
      refine ⟨?_, fun c other => ?_, ?_, ?_, ?_, ?_, ?_⟩
      · rw [bags, bagOf_inboundMarked, if_pos rfl]
      · rw [bags, bagOf_inboundMarked, if_neg other]
      · rw [complete]
        rfl
      · rw [complete]
      · rw [complete]
        exact float
      · rw [complete]
        exact reported_inboundMarked b s
      · rw [complete]
        rfl
    · subst hsrc
      intro prior d
      exact handed.trans (compartmentComplete_eq c t s rfl)
    · subst hsrc
      exact handed

end Sys2Proof.Machine
end

section
/-! START COUNT and RECOUNT attempted (R80, R82, R93): what stops an attempt, and what becomes of the request. -/

namespace Sys2Proof.Machine

variable {s u : State} {h : Req} {p : Port} {tag : Tag} {ops : List Nat} {arg : SourceArg} {src : Source} {tray : Option TrayIx}
  {t : TrayIx} {reject : Nat}

/-! ## The steps of START COUNT (R80) -/

theorem stationBusy_iff (s : State) : stationBusy s = true ↔ s.count.station = .running ∨ s.count.station = .collecting := by
  simp [stationBusy]

theorem not_busy_of_idle (idle : s.count.station = .idle) : ¬ stationBusy s = true := by
  rw [stationBusy_iff, idle]
  simp

theorem up_of_busy (busy : s.count.station = .running ∨ s.count.station = .collecting) : s.count.station ≠ .down := by
  intro down
  obtain h | h := busy <;> exact nomatch down.symm.trans h

theorem up_of_idle (idle : s.count.station = .idle) : s.count.station ≠ .down := fun down => nomatch down.symm.trans idle

/-- The movement by which a start is checked (R82). -/
def checkedMove (src : Source) (t : TrayIx) (p : Port) (ops : List Nat) (s : State) : Movement :=
  if allZero (sourceVector s src) = true then emptyStart (some src) p ops else countOutMove src t p ops false s

/-- The entries a start needs free: the held one, and that of a COUNT_OUT (R82, R183). -/
def entriesNeeded (src : Source) (s : State) : Nat := if allZero (sourceVector s src) = true then 1 else 2

/-- The check of a start (R82). -/
def startCheck (src : Source) (t : TrayIx) (p : Port) (ops : List Nat) (s : State) : Check :=
  checkMovement (entriesNeeded src s) (checkedMove src t p ops s) s

/-- The state a start leaves (R81 to R83). -/
def countStarted (p : Port) (tag : Tag) (ops : List Nat) (src : Source) (t : TrayIx) (reject : Nat) (s : State) : State :=
  startCount p tag ops src t (sourceVector s src) reject
    (if allZero (sourceVector s src) = true then none else some s.store.journal.nextSeq)
    (storeEvent (sourceMoves src t p ops false s) true s)

theorem startTry_down (down : s.count.station = .down) :
    startTry p tag ops arg tray reject s = .refused .counterDown s := if_pos down

section Steps

variable (up : s.count.station ≠ .down) (is : sourceOf s arg = some src)
include up is

theorem startTry_unready (unready : sourceReady s src = false) :
    startTry p tag ops arg tray reject s = .refused .badState s := by
  rw [startTry, if_neg up, is]
  exact if_pos (by rw [unready]; rfl)

variable (ready : sourceReady s src = true)
include ready

theorem startTry_reaches : startTry p tag ops arg tray reject s
    = if stationBusy s = true then .queued .counter
      else match chooseTray s tray with
        | none => .queued .tray
        | some t => match startCheck src t p ops s with
          | .refused k => .refused k s
          | .parked r c => .parked r c s
          | .pass => .running (countStarted p tag ops src t reject s) := by
  rw [startTry, if_neg up, is]
  dsimp only
  rw [if_neg (by rw [ready]; exact Bool.false_ne_true)]
  unfold startCheck entriesNeeded checkedMove countStarted sourceMoves
  cases allZero (sourceVector s src) <;> rfl

theorem startTry_busy (busy : stationBusy s = true) : startTry p tag ops arg tray reject s = .queued .counter := by
  rw [startTry_reaches up is ready, if_pos busy]

theorem startTry_untrayed (free : ¬ stationBusy s = true) (none : chooseTray s tray = none) :
    startTry p tag ops arg tray reject s = .queued .tray := by
  rw [startTry_reaches up is ready, if_neg free, none]

theorem startTry_checked (free : ¬ stationBusy s = true) (chosen : chooseTray s tray = some t) :
    startTry p tag ops arg tray reject s = match startCheck src t p ops s with
      | .refused k => .refused k s
      | .parked r c => .parked r c s
      | .pass => .running (countStarted p tag ops src t reject s) := by
  rw [startTry_reaches up is ready, if_neg free, chosen]

end Steps

/-! ## The steps of RECOUNT (R93) -/

/-- A tray that may be recounted: INVALID, or COUNTED with its source open (R93). -/
def trayFit (s : State) (t : TrayIx) : Prop :=
  (trayOf s t).state = .invalid ∨ ((trayOf s t).state = .counted ∧ ∀ src, (trayOf s t).source = some src → sourceOpen s src = true)

/-- The state a recount leaves (R93). -/
def countRestarted (p : Port) (tag : Tag) (ops : List Nat) (t : TrayIx) (reject : Nat) (s : State) : State :=
  beginRun p tag ops t none (recordFill t ops (giveCount t (clearPending t (report
    (modTray t (fun r => { r with state := .counting, rejects := 0, flags := TrayFlags.clear, rejectLimit := reject })
      (storeEvent [] true s))))))

/-- Whether a tray's source is open; only a drawer or a pouch can be closed (R78). -/
def sourcesOpen (s : State) : Option Source → Bool
  | some (.drawer i n) => sourceOpen s (.drawer i n)
  | some (.pouch i n k) => sourceOpen s (.pouch i n k)
  | _ => true

theorem sourcesOpen_iff (s : State) (o : Option Source) :
    sourcesOpen s o = true ↔ ∀ src, o = some src → sourceOpen s src = true := by
  cases o with
  | none => simp [sourcesOpen]
  | some src => cases src <;> simp [sourcesOpen, sourceOpen]

theorem recountTry_eq : recountTry p tag ops t reject s
    = if s.count.station = .down then .refused .counterDown s
      else if (trayOf s t).state ≠ .counted && (trayOf s t).state ≠ .invalid then .refused .badState s
      else if (trayOf s t).state == .counted && !sourcesOpen s (trayOf s t).source then .refused .badState s
      else if stationBusy s = true then .queued .counter
      else match checkMovement 1 (emptyStart none p ops) s with
        | .refused k => .refused k s
        | .parked r c => .parked r c s
        | .pass => .running (countRestarted p tag ops t reject s) := rfl

theorem recountTry_down (down : s.count.station = .down) :
    recountTry p tag ops t reject s = .refused .counterDown s := if_pos down

theorem recountTry_unfit (up : s.count.station ≠ .down) (unfit : ¬ trayFit s t) :
    recountTry p tag ops t reject s = .refused .badState s := by
  obtain ⟨valid, closed⟩ := not_or.mp unfit
  rw [recountTry_eq, if_neg up]
  by_cases counted : (trayOf s t).state = .counted
  · have shut : ¬ sourcesOpen s (trayOf s t).source = true := fun every => closed ⟨counted, (sourcesOpen_iff s _).mp every⟩
    rw [if_neg (by simp [counted]), if_pos (by simpa [counted] using shut)]
  · rw [if_pos (by simp [counted, valid])]

theorem recountTry_reaches (up : s.count.station ≠ .down) (fit : trayFit s t) : recountTry p tag ops t reject s
    = if stationBusy s = true then .queued .counter
      else match checkMovement 1 (emptyStart none p ops) s with
        | .refused k => .refused k s
        | .parked r c => .parked r c s
        | .pass => .running (countRestarted p tag ops t reject s) := by
  rw [recountTry_eq, if_neg up]
  obtain invalid | ⟨counted, opened⟩ := fit
  · rw [if_neg (by simp [invalid]), if_neg (by simp [invalid])]
  · rw [if_neg (by simp [counted]), if_neg (by simp [(sourcesOpen_iff s _).mpr opened])]

/-- A recount's checks: the memory, the day and the room for the held entry (R82, R93). -/
theorem recount_passes (sound : s.retention.suspect = false) (opened : s.day.state ≠ .closed) (free : 1 ≤ freeEntries s) :
    checkMovement 1 (emptyStart none p ops) s = .pass := by
  have ends : (emptyStart none p ops).ends = [] := rfl
  have named : (emptyStart none p ops).named = [] := rfl
  have moved : moveHoldings (emptyStart none p ops) s = s := rfl
  refine (checkMovement_pass_iff ..).mpr ⟨by simp [sound], opened, by omega, ?_, ?_,
    (checkAccess_pass_iff ..).mpr (by simp [named]), by simp [ends], ?_⟩
  · simp [goesBelow, emptyStart]
  · simp [goesAbove, emptyStart]
  · simp [overCap, moved]

/-! ## What becomes of the request (R80, R193) -/

section Arrival

variable {c : Code} {r : AccessReason} {k : Container} {park : CountPark}

theorem accessArrival_refused (tried : startTry p tag ops arg tray reject s = .refused c u) :
    accessArrival p tag ops (.startCount arg tray reject) s = answer p tag c 0 [] u := by
  rw [accessArrival, accessTry, tried]

theorem accessArrival_parked (tried : startTry p tag ops arg tray reject s = .parked r k u) :
    accessArrival p tag ops (.startCount arg tray reject) s = parkAccess p tag ops (.startCount arg tray reject) r k u := by
  rw [accessArrival, accessTry, tried]

theorem accessArrival_running (tried : startTry p tag ops arg tray reject s = .running u) :
    accessArrival p tag ops (.startCount arg tray reject) s = u := by
  rw [accessArrival, accessTry, tried]

theorem accessArrival_queued (tried : startTry p tag ops arg tray reject s = .queued park) :
    accessArrival p tag ops (.startCount arg tray reject) s = parkCount p tag ops (.start arg tray) reject park s := by
  rw [accessArrival, accessTry, tried]
  rfl

theorem recountArrival_refused (tried : recountTry h.port h.tag [h.op1] t reject s = .refused c u) :
    recountArrival h t reject s = answer h.port h.tag c 0 [] u := by
  rw [recountArrival, tried]

theorem recountArrival_running (tried : recountTry h.port h.tag [h.op1] t reject s = .running u) :
    recountArrival h t reject s = u := by
  rw [recountArrival, tried]

theorem recountArrival_queued (tried : recountTry h.port h.tag [h.op1] t reject s = .queued park) :
    recountArrival h t reject s = parkCount h.port h.tag [h.op1] (.recount t) reject park s := by
  rw [recountArrival, tried]

end Arrival

/-! ## The requests taken up -/

theorem finish_answered (c : Code) (quiet : u.event = Scratch.empty) :
    finish (answer h.port h.tag c 0 [] u) = settled h c [] u :=
  finish_plain _ (by simpa using quiet)

section Taken

variable (isReady : officeReady s h = true) (allowed : authorise .one h s = none) (low : reject ≤ 255)
include isReady allowed low

theorem startCount_taken (named : sourceNamed s arg = true) : exec (.startCount h (.ok arg) (.ok (tray.map (·.1))) reject) s
    = .next (finish (accessArrival h.port h.tag [h.op1] (.startCount arg tray reject) (accepted h 0x30 s))) := by
  obtain ⟨isReady, port⟩ := officeReady_iff.mp isReady
  have operand : startArg (accepted h 0x30 s) (.ok arg) (.ok (tray.map (·.1))) reject = some (.startCount arg tray reject) := by
    simp [startArg, sourceNamed_accepted, named, valueIn, low]
  have owner : accessRequest h .one (startArg (accepted h 0x30 s) (.ok arg) (.ok (tray.map (·.1))) reject) (accepted h 0x30 s)
      = accessArrival h.port h.tag [h.op1] (.startCount arg tray reject) (accepted h 0x30 s) := by
    simp only [accessRequest, operand, authorise_accepted, allowed]
    rfl
  exact congrArg Host.Outcome.next ((request_ready h 0x30 _ s isReady (by rw [port]; rfl)).trans (congrArg finish owner))

omit low in
theorem startCount_unnamed (unnamed : sourceNamed s arg = false) :
    exec (.startCount h (.ok arg) (.ok (tray.map (·.1))) reject) s = .next (settled h .badOperand [] (accepted h 0x30 s)) := by
  obtain ⟨isReady, port⟩ := officeReady_iff.mp isReady
  have operand : startArg (accepted h 0x30 s) (.ok arg) (.ok (tray.map (·.1))) reject = none := by
    simp [startArg, sourceNamed_accepted, unnamed]
  have owner : accessRequest h .one (startArg (accepted h 0x30 s) (.ok arg) (.ok (tray.map (·.1))) reject) (accepted h 0x30 s)
      = answer h.port h.tag .badOperand 0 [] (accepted h 0x30 s) := by
    simp only [accessRequest, operand, authorise_accepted, allowed]
  exact congrArg Host.Outcome.next ((request_ready h 0x30 _ s isReady (by rw [port]; rfl)).trans
    ((congrArg finish owner).trans (finish_answered .badOperand (by simp))))

theorem recount_taken : exec (.recount h t.1 reject) s = .next (finish (recountArrival h t reject (accepted h 0x31 s))) := by
  obtain ⟨isReady, port⟩ := officeReady_iff.mp isReady
  have owner : recountOwner h t.1 reject (accepted h 0x31 s) = recountArrival h t reject (accepted h 0x31 s) := by
    simp [recountOwner, allowed, valueIn, low]
  exact congrArg Host.Outcome.next ((request_ready h 0x31 _ s isReady (by rw [port]; rfl)).trans (congrArg finish owner))

end Taken

/-! ## What an attempt reads of the state in which the request is taken up -/

theorem chooseTray_accepted (h : Req) (code : Nat) (s : State) (tray : Option TrayIx) :
    chooseTray (accepted h code s) tray = chooseTray s tray := by
  cases tray <;> simp [chooseTray]

theorem checkedMove_accepted (h : Req) (code : Nat) (s : State) (src : Source) (t : TrayIx) (p : Port) (ops : List Nat) :
    checkedMove src t p ops (accepted h code s) = checkedMove src t p ops s := by
  rw [checkedMove, checkedMove, sourceVector_accepted, countOutMove_accepted]

theorem startCheck_accepted (h : Req) (code : Nat) (s : State) (src : Source) (t : TrayIx) (p : Port) (ops : List Nat) :
    startCheck src t p ops (accepted h code s) = startCheck src t p ops s := by
  rw [startCheck, startCheck, checkedMove_accepted, entriesNeeded, entriesNeeded, sourceVector_accepted]
  exact (checkedAlike_accepted h code s).checkMovement _ _

theorem sourceOpen_accepted (h : Req) (code : Nat) (s : State) (src : Source) :
    sourceOpen (accepted h code s) src = sourceOpen s src := by
  cases src <;> simp [sourceOpen]

theorem trayFit_accepted (h : Req) (code : Nat) (s : State) (t : TrayIx) : trayFit (accepted h code s) t ↔ trayFit s t := by
  simp [trayFit, sourceOpen_accepted]

end Sys2Proof.Machine
end

section
/-! A count that begins (R83, R93): the station, the tray, the link and the slot, and the end of its event. -/

namespace Sys2Proof.Machine

variable {s w x : State} {t : TrayIx}

/-! ## The end of the event (R28, R193) -/

theorem startFrame_slots (r : PortRec) : (startFrame r).slots = r.slots := by
  unfold startFrame
  split
  · rfl
  · rfl
  · rfl
  · rfl
  · rfl
  · split <;> rfl

/-- The next frames leave the slots (R195). -/
theorem slotOf_startFrames (s : State) (p : Port) (tag : Tag) : slotOf (startFrames s) p tag = slotOf s p tag := by
  rw [slotOf, portOf_startFrames, startFrame_slots]
  rfl

/-- With a tray COUNTING the close of a day cannot complete, so the event ends with the next frames alone. -/
theorem finish_counting (calls : x.event.signals = []) (counting : (trayOf x t).state = .counting) : finish x = ended x := by
  have busy : ¬ quiet x = true := fun calm => by
    have empty := (Bool.and_eq_true_iff.mp (Bool.and_eq_true_iff.mp calm).1).2
    exact nomatch counting.symm.trans (eq_of_beq (Vector.all_eq_true.mp empty t.1 t.2))
  rw [finish_unsignalled x calls, completionCheck_open (.inr busy), ite_self]
  rfl

@[simp] theorem ended_frame (x : State) : (ended x).store = x.store ∧ (ended x).day = x.day ∧ (ended x).float = x.float
    ∧ (ended x).count = x.count ∧ (ended x).recon = x.recon ∧ (ended x).safe = x.safe ∧ (ended x).courier = x.courier
    ∧ (ended x).retention = x.retention := by
  simp [ended]

/-! ## The count number, the station and the slot (R78, R83, R93) -/

/-- The count as it is given its number and begins, the tray's other fields and the source's being set. -/
def countBegun (p : Port) (tag : Tag) (ops : List Nat) (t : TrayIx) (outSeq : Option Nat) (w : State) : State :=
  beginRun p tag ops t outSeq (recordFill t ops (giveCount t w))

section Begun

variable (p : Port) (tag : Tag) (ops : List Nat) (t : TrayIx) (outSeq : Option Nat) (w : State)

/-- The station and the link of a count that begins; SELECT waits behind an exchange in progress (R71, R72, R83). -/
theorem beginRun_count : (beginRun p tag ops t outSeq w).count = { w.count with
    station := .running
    running := some { port := p, tag, ops, tray := t, outSeq, mask := 0, reread := false, step := none }
    exchange := w.count.exchange.getD .select
    selectWaiting := w.count.selectWaiting || w.count.exchange.isSome } := by
  cases link : w.count.exchange with
  | none => simp [beginRun, sendSelect, modCount, setSlot, link]
  | some e => simp [beginRun, sendSelect, modCount, setSlot, link]

theorem slotOf_beginRun : (slotOf (beginRun p tag ops t outSeq w) p tag).state = .running := by
  rw [beginRun, setSlot, slotOf, portOf_modPort, if_pos rfl]
  simp

@[simp] theorem giveCount_frame : (giveCount t w).store = w.store ∧ (giveCount t w).day = w.day ∧ (giveCount t w).float = w.float
    ∧ (giveCount t w).recon = w.recon ∧ (giveCount t w).safe = w.safe ∧ (giveCount t w).courier = w.courier
    ∧ (giveCount t w).retention = w.retention ∧ (giveCount t w).event = w.event :=
  ⟨rfl, rfl, rfl, rfl, rfl, rfl, rfl, rfl⟩

/-- A count that begins changes the Count Unit, the slot and the record of the operators that fill the tray. -/
theorem countBegun_frame : (countBegun p tag ops t outSeq w).store = w.store ∧ (countBegun p tag ops t outSeq w).day = w.day
    ∧ (countBegun p tag ops t outSeq w).float = w.float ∧ (countBegun p tag ops t outSeq w).safe = w.safe
    ∧ (countBegun p tag ops t outSeq w).courier = w.courier ∧ (countBegun p tag ops t outSeq w).retention = w.retention
    ∧ (countBegun p tag ops t outSeq w).event = w.event
    ∧ (countBegun p tag ops t outSeq w).recon = { w.recon with fillOps := put w.recon.fillOps t ops } := by
  simp [countBegun, recordFill]

theorem countBegun_count : (countBegun p tag ops t outSeq w).count = { w.count with
    station := .running
    running := some { port := p, tag, ops, tray := t, outSeq, mask := 0, reread := false, step := none }
    exchange := w.count.exchange.getD .select
    selectWaiting := w.count.selectWaiting || w.count.exchange.isSome
    lastCount := some (nextCount w), trays := put w.count.trays t { trayOf w t with count := some (nextCount w) } } :=
  beginRun_count p tag ops t outSeq (recordFill t ops (giveCount t w))

end Begun

/-- What the end of the event of a count that begins has in common for START COUNT and RECOUNT: `w` has the entry held and the tray
COUNTING, and differs from `s` in no other part of the Count Unit. -/
structure BeginsFrom (s : State) (t : TrayIx) (r : TrayRec) (w : State) : Prop where
  count : w.count = { s.count with trays := put s.count.trays t r }
  counting : r.state = .counting
  held : w.store.journal.held = s.store.journal.held + 1
  totals : w.store.totals = s.store.totals
  day : w.day = s.day
  retention : w.retention = s.retention
  drawers : w.recon.drawers = s.recon.drawers
  calls : w.event.signals = []

section From

variable {r : TrayRec} (hw : BeginsFrom s t r w) (h : Req) (outSeq : Option Nat)
include hw

theorem BeginsFrom.trayOf_begun (i : TrayIx) : trayOf (countBegun h.port h.tag [h.op1] t outSeq w) i
    = if i = t then { r with count := some (nextCount s) } else trayOf s i := by
  have next : nextCount w = nextCount s := by simp [nextCount, hw.count, hw.day]
  have own : trayOf w t = r := by rw [trayOf, hw.count]; exact look_put_self ..
  rw [trayOf, countBegun_count, own, next, hw.count]
  by_cases here : i = t <;> simp [look_put, here, trayOf]

theorem BeginsFrom.finishes : finish (countBegun h.port h.tag [h.op1] t outSeq w) = ended (countBegun h.port h.tag [h.op1] t outSeq w) := by
  obtain ⟨_, _, _, _, _, _, event, _⟩ := countBegun_frame h.port h.tag [h.op1] t outSeq w
  refine finish_counting (t := t) (by rw [event, hw.calls]) ?_
  rw [hw.trayOf_begun h outSeq, if_pos rfl]
  exact hw.counting

theorem BeginsFrom.begins :
    let u := ended (countBegun h.port h.tag [h.op1] t outSeq w)
    u.count.station = .running
      ∧ u.count.running = some
          { port := h.port, tag := h.tag, ops := [h.op1], tray := t, outSeq, mask := 0, reread := false, step := none }
      ∧ u.count.lastCount = some (nextCount s) ∧ (∀ o, o ≠ t → trayOf u o = trayOf s o)
      ∧ (s.count.exchange = none → u.count.exchange = some .select)
      ∧ (s.count.exchange ≠ none → u.count.exchange = s.count.exchange ∧ u.count.selectWaiting = true)
      ∧ (slotOf u h.port h.tag).state = .running
      ∧ u.store.journal.held = s.store.journal.held + 1 ∧ u.day = s.day ∧ u.retention = s.retention
      ∧ look u.recon.fillOps t = [h.op1] ∧ u.recon.drawers = s.recon.drawers ∧ u.store.totals = s.store.totals := by
  intro u
  have next : nextCount w = nextCount s := by simp [nextCount, hw.count, hw.day]
  obtain ⟨store, day, _, _, _, retention, _, recon⟩ := countBegun_frame h.port h.tag [h.op1] t outSeq w
  have count : u.count = _ := ((ended_frame _).2.2.2.1).trans (countBegun_count h.port h.tag [h.op1] t outSeq w)
  have trays (o : TrayIx) : trayOf u o = trayOf (countBegun h.port h.tag [h.op1] t outSeq w) o := by simp [u, trayOf]
  have slot : slotOf u h.port h.tag = slotOf (countBegun h.port h.tag [h.op1] t outSeq w) h.port h.tag := slotOf_startFrames ..
  have exchange : w.count.exchange = s.count.exchange := by rw [hw.count]
  refine ⟨by rw [count], by rw [count], by rw [count, next], fun o other => ?_, fun free => ?_, fun waits => ?_, ?_, ?_, ?_, ?_, ?_, ?_,
    ?_⟩
  · rw [trays, hw.trayOf_begun h outSeq, if_neg other]
  · rw [count, exchange, free]
    rfl
  · obtain ⟨e, he⟩ := Option.ne_none_iff_exists'.mp waits
    rw [count, exchange, he]
    exact ⟨rfl, Bool.or_true _⟩
  · rw [slot]
    exact slotOf_beginRun ..
  · simp [u, store, hw.held]
  · simp [u, day, hw.day]
  · simp [u, retention, hw.retention]
  · simp [u, recon]
  · simp [u, recon, hw.drawers]
  · simp [u, store, hw.totals]

end From

end Sys2Proof.Machine
end

section
/-! START COUNT and RECOUNT that start (R81 to R83, R93): what the Store, the tray and the source are left with. -/

namespace Sys2Proof.Machine

variable {s w : State} {t : TrayIx} {src : Source}

/-! ## A Store's event that holds an entry (R12, R183) -/

theorem holding_storeEvent_held (ms : List Movement) (hold : Bool) (s : State) (c : Container) :
    holding (storeEvent ms hold s) c = holding (ms.foldl (fun acc m => applyMove m acc) s) c :=
  holding_of_books (books_storeEvent ms hold s) c

theorem storeEvent_held_journal (ms : List Movement) (s : State) :
    (storeEvent ms true s).store.journal.entries = s.store.journal.entries ++ ms.zipIdx.map (entryAt s)
      ∧ (storeEvent ms true s).store.journal.held = (ms.foldl (fun acc m => applyMove m acc) s).store.journal.held + 1 := by
  rw [← journal_entries_fold, storeEvent, journalMarks_store]
  exact ⟨rfl, rfl⟩

theorem sourceMoves_unheld (src : Source) (t : TrayIx) (p : Port) (ops : List Nat) (b : Bool) (s : State) :
    ∀ m ∈ sourceMoves src t p ops b s, m.held = false := by
  unfold sourceMoves
  split <;> simp [countOutMove]

/-- The entry of the source's cash, where there is any (R82). -/
theorem sourceMoves_entries (src : Source) (t : TrayIx) (p : Port) (ops : List Nat) (b : Bool) (s : State) :
    (sourceMoves src t p ops b s).zipIdx.map (entryAt s)
      = if allZero (sourceVector s src) = true then [] else [entryOf (countOutMove src t p ops b s) s] := by
  unfold sourceMoves
  split <;> rfl

/-! ## START COUNT (R81, R83) -/

section Start

variable (src : Source) (t : TrayIx) (p : Port) (ops : List Nat) (reject : Nat) (s : State)

/-- The tray's record as a start sets it, its count number apart (R83). -/
def startedTray : TrayRec :=
  { trayOf s t with
    state := .counting, source := some src, prior := sourceVector s src, rejects := 0, flags := TrayFlags.clear
    rejectLimit := reject }

/-- The state of a start before its count number is given: the source's cash taken, the entry held, the source marked. -/
def startEntered : State :=
  markSource t src (modTray t
    (fun r => { r with state := .counting, source := some src, prior := sourceVector s src, rejects := 0, flags := TrayFlags.clear
                       rejectLimit := reject })
    (storeEvent (sourceMoves src t p ops false s) true s))

theorem countStarted_eq (tag : Tag) : countStarted p tag ops src t reject s = countBegun p tag ops t
    (if allZero (sourceVector s src) = true then none else some s.store.journal.nextSeq) (startEntered src t p ops reject s) := rfl

theorem startEntered_store :
    (startEntered src t p ops reject s).store = (storeEvent (sourceMoves src t p ops false s) true s).store := by
  simp [startEntered]

theorem startEntered_begins (calls : s.event.signals = []) :
    BeginsFrom s t (startedTray src t reject s) (startEntered src t p ops reject s) where
  count := by simp [startEntered, startedTray, modTray, trayOf]
  counting := rfl
  held := by
    rw [startEntered_store, (storeEvent_held_journal _ _).2, (journal_fold (sourceMoves_unheld src t p ops false s) s).2]
  totals := by simp [startEntered_store]
  day := by simp [startEntered]
  retention := by simp [startEntered]
  drawers := by simp [startEntered]
  calls := by simp [startEntered, modTray, calls]

theorem holding_startEntered (c : Container) : holding (startEntered src t p ops reject s) c
    = if sourceContainer src = some c then Counts.zero
      else if c = .tray t then (holding s c).add (sourceVector s src) else holding s c := by
  have stored : holding (startEntered src t p ops reject s) c = _ :=
    (holding_congr _ _ (startEntered_store src t p ops reject s) c).trans
      ((holding_storeEvent_held ..).trans (holding_sourceMoves src t p ops false s c))
  rw [stored]
  by_cases here : c = .tray t
  · subst here
    rw [if_pos rfl, if_neg (sourceContainer_ne_tray src t), if_pos rfl]
  · rw [if_neg here, if_neg here]

theorem entries_startEntered : (startEntered src t p ops reject s).store.journal.entries = s.store.journal.entries
    ++ if allZero (sourceVector s src) = true then [] else [entryOf (checkedMove src t p ops s) s] := by
  rw [startEntered_store, (storeEvent_held_journal _ _).1, sourceMoves_entries, checkedMove]
  cases allZero (sourceVector s src) <;> rfl

/-! ## The source marked (R81) -/

theorem till_startEntered_drawer (i : TillIx) (n : Nat) :
    (tillOf (startEntered (.drawer i n) t p ops reject s) i).state = .counting := by
  rw [startEntered, tillOf_markSource]
  exact congrArg TillRec.state (if_pos rfl)

theorem pouch?_marked (r : TillRec) {k : Nat} {q : Pouch} (found : pouch? r k = some q) :
    pouch? { r with pouches := r.pouches.map fun q => if q.number = k then { q with state := .counting } else q } k
      = some { q with state := .counting } := by
  have number : q.number = k := eq_of_beq (List.find?_some (p := fun p : Pouch => p.number == k) found)
  have same : ((fun p : Pouch => p.number == k) ∘ fun q : Pouch => if q.number = k then { q with state := .counting } else q)
      = fun p => p.number == k := by
    funext p
    by_cases here : p.number = k <;> simp [here]
  rw [pouch?, List.find?_map, same]
  exact (congrArg (Option.map _) found).trans (congrArg some (if_pos number))

theorem pouch_startEntered (i : TillIx) (n k : Nat) {q : Pouch} (found : pouch? (tillOf s i) k = some q) :
    pouch? (tillOf (startEntered (.pouch i n k) t p ops reject s) i) k = some { q with state := .counting } := by
  have still : tillOf (modTray t (fun r => { r with
      state := .counting, source := some (.pouch i n k), prior := sourceVector s (.pouch i n k), rejects := 0
      flags := TrayFlags.clear, rejectLimit := reject }) (storeEvent (sourceMoves (.pouch i n k) t p ops false s) true s)) i
      = tillOf s i := tillOf_storeEvent ..
  rw [startEntered, tillOf_markSource, still]
  exact (congrArg (pouch? · k) (if_pos rfl)).trans (pouch?_marked (tillOf s i) found)

theorem bag_startEntered (b : BagIx) : (bagOf (startEntered (.inbound b) t p ops reject s) b).state = .counting := by
  rw [startEntered, bagOf_markSource, if_pos rfl]

theorem comp_startEntered (c : CompIx) : (compOf (startEntered (.compartment c) t p ops reject s) c).outForCount = some t := by
  rw [startEntered, outForCount_markSource, if_pos rfl]

end Start

/-! ## RECOUNT (R93) -/

section Again

variable (t : TrayIx) (reject : Nat) (s : State)

/-- The tray's record as a recount sets it: its source and prior holding stay (R93). -/
def restartedTray : TrayRec :=
  { trayOf s t with state := .counting, rejects := 0, flags := TrayFlags.clear, rejectLimit := reject }

/-- The state of a recount before its count number is given. -/
def againEntered : State :=
  clearPending t (report (modTray t
    (fun r => { r with state := .counting, rejects := 0, flags := TrayFlags.clear, rejectLimit := reject })
    (storeEvent [] true s)))

theorem countRestarted_eq (p : Port) (tag : Tag) (ops : List Nat) :
    countRestarted p tag ops t reject s = countBegun p tag ops t none (againEntered t reject s) := rfl

theorem againEntered_begins (calls : s.event.signals = []) :
    BeginsFrom s t (restartedTray t reject s) (againEntered t reject s) where
  count := by simp [againEntered, restartedTray, clearPending, modTray, trayOf]
  counting := rfl
  held := (storeEvent_held_journal [] s).2
  totals := by simp [againEntered, clearPending]
  day := by simp [againEntered, clearPending]
  retention := by simp [againEntered, clearPending]
  drawers := by simp [againEntered, clearPending]
  calls := by simp [againEntered, clearPending, modTray, calls]

theorem againEntered_leaves : (∀ c, holding (againEntered t reject s) c = holding s c)
    ∧ (againEntered t reject s).store.journal.entries = s.store.journal.entries
    ∧ (againEntered t reject s).float.tills = s.float.tills ∧ (againEntered t reject s).courier = s.courier
    ∧ (againEntered t reject s).safe = s.safe ∧ look (againEntered t reject s).recon.pending t = false := by
  have safe : (storeEvent [] true s).safe = s.safe := by simp [storeEvent]
  refine ⟨fun c => (holding_congr _ _ rfl c).trans (holding_storeEvent_held [] true s c),
    (storeEvent_held_journal [] s).1.trans (List.append_nil _), by simp [againEntered, clearPending],
    by simp [againEntered, clearPending], safe, ?_⟩
  simp [againEntered, clearPending]

end Again

/-- A request taken up begins its count from the state before it (R80, R93). -/
theorem BeginsFrom.of_accepted {h : Req} {code : Nat} {r : TrayRec} (hw : BeginsFrom (accepted h code s) t r w) :
    BeginsFrom s t r w where
  count := by simpa using hw.count
  counting := hw.counting
  held := by simpa using hw.held
  totals := by simpa using hw.totals
  day := by simpa using hw.day
  retention := by simpa using hw.retention
  drawers := by simpa using hw.drawers
  calls := hw.calls

end Sys2Proof.Machine
end

section
/-! START COUNT and RECOUNT (R80 to R84, R93): the requests assembled, and the pass over the count waiters. -/

namespace Sys2Proof.Machine

variable {s : State} {h : Req} {arg : SourceArg} {src : Source} {tray : Option TrayIx} {t : TrayIx} {reject : Nat}

/-! ## START COUNT -/

/-- The attempt once the source, the station and the tray are found fit (R80, R82). -/
theorem startTry_taken (is : sourceOf s arg = some src) (ready : sourceReady s src = true) (idle : s.count.station = .idle) (chosen : chooseTray s tray = some t) :
    startTry h.port h.tag [h.op1] arg tray reject (accepted h 0x30 s) = match startCheck src t h.port [h.op1] s with
      | .refused k => .refused k (accepted h 0x30 s)
      | .parked r c => .parked r c (accepted h 0x30 s)
      | .pass => .running (countStarted h.port h.tag [h.op1] src t reject (accepted h 0x30 s)) := by
  have idle' : (accepted h 0x30 s).count.station = .idle := by simpa using idle
  have tried := startTry_checked (reject := reject) (p := h.port) (tag := h.tag) (ops := [h.op1]) (up_of_idle idle')
    ((sourceOf_accepted ..).trans is) ((sourceReady_accepted ..).trans ready) (not_busy_of_idle idle')
    ((chooseTray_accepted ..).trans chosen)
  rw [startCheck_accepted] at tried
  exact tried

section Start

variable (isReady : officeReady s h = true) (allowed : authorise .one h s = none) (low : reject ≤ 255)
  (named : sourceNamed s arg = true)
include isReady allowed low named

theorem startCount_refused {k : Code}
    (tried : startTry h.port h.tag [h.op1] arg tray reject (accepted h 0x30 s) = .refused k (accepted h 0x30 s)) :
    exec (.startCount h (.ok arg) (.ok (tray.map (·.1))) reject) s = .next (settled h k [] (accepted h 0x30 s)) := by
  rw [startCount_taken isReady allowed low named, accessArrival_refused tried, finish_answered k (by simp)]

theorem startCount_queued {park : CountPark}
    (tried : startTry h.port h.tag [h.op1] arg tray reject (accepted h 0x30 s) = .queued park) :
    exec (.startCount h (.ok arg) (.ok (tray.map (·.1))) reject) s
      = .next (ended (parkCount h.port h.tag [h.op1] (.start arg tray) reject park (accepted h 0x30 s))) := by
  rw [startCount_taken isReady allowed low named, accessArrival_queued tried,
    finish_plain _ (by simp [parkCount, setSlot, setCountWaiters, modCount])]

theorem startCount_parked {r : AccessReason} {c : Container}
    (tried : startTry h.port h.tag [h.op1] arg tray reject (accepted h 0x30 s) = .parked r c (accepted h 0x30 s)) :
    exec (.startCount h (.ok arg) (.ok (tray.map (·.1))) reject) s
      = .next (ended (parkAccess h.port h.tag [h.op1] (.startCount arg tray reject) r c (accepted h 0x30 s))) := by
  rw [startCount_taken isReady allowed low named, accessArrival_parked tried, finish_plain _ (by simp)]

variable (is : sourceOf s arg = some src)
include is

theorem startCount_started (ready : sourceReady s src = true) (idle : s.count.station = .idle)
    (chosen : chooseTray s tray = some t) (pass : startCheck src t h.port [h.op1] s = .pass) :
    exec (.startCount h (.ok arg) (.ok (tray.map (·.1))) reject) s = .next (ended (countBegun h.port h.tag [h.op1] t
      (if allZero (sourceVector s src) = true then none else some s.store.journal.nextSeq)
      (startEntered src t h.port [h.op1] reject (accepted h 0x30 s)))) := by
  have tried := startTry_taken (h := h) (reject := reject) is ready idle chosen
  rw [pass] at tried
  have begins := (startEntered_begins src t h.port [h.op1] reject (accepted h 0x30 s) (by simp [Scratch.empty])).of_accepted
  have outSeq : (if allZero (sourceVector (accepted h 0x30 s) src) = true then none
      else some (accepted h 0x30 s).store.journal.nextSeq)
      = if allZero (sourceVector s src) = true then none else some s.store.journal.nextSeq := by
    rw [sourceVector_accepted, accepted_store]
  rw [startCount_taken isReady allowed low named, accessArrival_running tried, countStarted_eq, outSeq, begins.finishes]

end Start

/-! ## RECOUNT -/

section Again

variable (isReady : officeReady s h = true) (allowed : authorise .one h s = none) (low : reject ≤ 255)
include isReady allowed low

theorem recount_refused {k : Code}
    (tried : recountTry h.port h.tag [h.op1] t reject (accepted h 0x31 s) = .refused k (accepted h 0x31 s)) :
    exec (.recount h t.1 reject) s = .next (settled h k [] (accepted h 0x31 s)) := by
  rw [recount_taken isReady allowed low, recountArrival_refused tried, finish_answered k (by simp)]

theorem recount_queued {park : CountPark}
    (tried : recountTry h.port h.tag [h.op1] t reject (accepted h 0x31 s) = .queued park) :
    exec (.recount h t.1 reject) s
      = .next (ended (parkCount h.port h.tag [h.op1] (.recount t) reject park (accepted h 0x31 s))) := by
  rw [recount_taken isReady allowed low, recountArrival_queued tried,
    finish_plain _ (by simp [parkCount, setSlot, setCountWaiters, modCount])]

theorem recount_started (idle : s.count.station = .idle) (fit : trayFit s t) (sound : s.retention.suspect = false)
    (opened : s.day.state ≠ .closed) (free : 1 ≤ freeEntries s) :
    exec (.recount h t.1 reject) s = .next (ended (countBegun h.port h.tag [h.op1] t none
      (againEntered t reject (accepted h 0x31 s)))) := by
  have idle' : (accepted h 0x31 s).count.station = .idle := by simpa using idle
  have free' : freeEntries (accepted h 0x31 s) = freeEntries s := by rw [freeEntries, freeEntries, occupancy_accepted]
  have pass : checkMovement 1 (emptyStart none h.port [h.op1]) (accepted h 0x31 s) = .pass :=
    recount_passes (by simpa using sound) (by simpa using opened) (free.trans_eq free'.symm)
  have tried : recountTry h.port h.tag [h.op1] t reject (accepted h 0x31 s)
      = .running (countRestarted h.port h.tag [h.op1] t reject (accepted h 0x31 s)) := by
    rw [recountTry_reaches (up_of_idle idle') ((trayFit_accepted ..).mpr fit), if_neg (not_busy_of_idle idle'), pass]
  have begins := (againEntered_begins t reject (accepted h 0x31 s) (by simp [Scratch.empty])).of_accepted
  rw [recount_taken isReady allowed low, recountArrival_running tried, countRestarted_eq, begins.finishes]

end Again

/-! ## The count-waiter list (R84, R193) -/

theorem parkCount_parked (p : Port) (tag : Tag) (ops : List Nat) (ask : CountAsk) (reject : Nat) (park : CountPark) (s : State) :
    parkCount p tag ops ask reject park s = { s with
      count := { s.count with waiters := s.count.waiters ++ [{ port := p, tag, ask, reject, ops, park, elapsed := 0 }] }
      ports := (parkCount p tag ops ask reject park s).ports }
    ∧ SlotParked p tag s (parkCount p tag ops ask reject park s) := by
  refine ⟨setSlot_eq .., ?_⟩
  obtain ⟨slots, rest, routing⟩ := setSlot_parked p tag
    (setCountWaiters (s.count.waiters ++ [{ port := p, tag, ask, reject, ops, park, elapsed := 0 }]) s)
  exact ⟨slots, rest, routing⟩

section Pass

variable (w : CountWaiter) (ws : List CountWaiter)

/-- A waiter whose needs are not met keeps its place (R84). -/
theorem countPassOver_waits {park : CountPark} (need : countNeed s w.ask = some park) :
    countPassOver (w :: ws) s = countPassOver ws (reparkCount w.port w.tag park s) := by
  rw [countPassOver, need]

section Met

variable {w} (met : countNeed s w.ask = none) {u : State}
include met

/-- The pass ends when a count starts (R84). -/
theorem countPassOver_runs (tried : countTry w s = .running u) :
    countPassOver (w :: ws) s = discardCounts (isCountWaiter w.port w.tag) u := by
  rw [countPassOver, met]
  simp only [tried]

/-- A refused waiter is answered and leaves the list (R84). -/
theorem countPassOver_refuses {c : Code} (tried : countTry w s = .refused c u) :
    countPassOver (w :: ws) s
      = countPassOver ws (answer w.port w.tag c 0 [] (discardCounts (isCountWaiter w.port w.tag) u)) := by
  rw [countPassOver, met]
  simp only [tried]

/-- A waiter that parks for access goes over to that list (R84, R129). -/
theorem countPassOver_parks {r : AccessReason} {c : Container} (tried : countTry w s = .parked r c u) :
    countPassOver (w :: ws) s = countPassOver ws
      (parkAccess w.port w.tag w.ops (w.ask.access w.reject) r c (discardCounts (isCountWaiter w.port w.tag) u)) := by
  rw [countPassOver, met]
  simp only [tried]

end Met

theorem countTry_start {w : CountWaiter} (asks : w.ask = .start arg tray) (s : State) :
    countTry w s = startTry w.port w.tag w.ops arg tray w.reject s := by rw [countTry, asks]

theorem countTry_recount {w : CountWaiter} (asks : w.ask = .recount t) (s : State) :
    countTry w s = recountTry w.port w.tag w.ops t w.reject s := by rw [countTry, asks]

theorem countNeed_busy (busy : s.count.station ≠ .idle) (ask : CountAsk) : countNeed s ask = some .counter := if_pos busy

theorem countNeed_start (idle : s.count.station = .idle) (arg : SourceArg) (tray : Option TrayIx) :
    countNeed s (.start arg tray) = if chooseTray s tray = none then some .tray else none := by
  rw [countNeed, if_neg (not_not.mpr idle)]
  cases chooseTray s tray <;> rfl

theorem countNeed_recount (idle : s.count.station = .idle) (t : TrayIx) : countNeed s (.recount t) = none := by
  rw [countNeed, if_neg (not_not.mpr idle)]

end Pass

/-! ## What a start goes by (R78, R80, R81) -/

theorem nextCount_day (s : State) : (nextCount s).day = s.day.number := by
  unfold nextCount
  split <;> rfl

theorem nextCount_same {c : CountNumber} (last : s.count.lastCount = some c) (day : c.day = s.day.number) :
    (nextCount s).number = if c.number = 65535 then 1 else c.number + 1 := by
  rw [nextCount, last]
  exact if_pos day

theorem nextCount_first (other : ∀ c, s.count.lastCount = some c → c.day ≠ s.day.number) : (nextCount s).number = 1 := by
  unfold nextCount
  split
  · next c last => exact if_neg (other c last)
  · rfl

theorem pouchReady_iff (s : State) (i : TillIx) (n k : Nat) :
    sourceReady s (.pouch i n k) = true ↔ ∃ p, pouch? (tillOf s i) k = some p ∧ p.state = .received := by
  have same : sourceReady s (.pouch i n k)
      = match pouch? (tillOf s i) k with | some p => p.state == .received | none => false := rfl
  rw [same]
  cases pouch? (tillOf s i) k with
  | none => simp
  | some p => simp

theorem index?_high {n k : Nat} (high : n ≤ k) : index? n k = none := by simp [index?, high]

/-! ## The parts of the statement -/

/-- What the end of the event of a count that begins keeps of the state before its count number was given. -/
theorem endedBegun_frame (p : Port) (tag : Tag) (ops : List Nat) (t : TrayIx) (outSeq : Option Nat) (w : State) :
    let u := ended (countBegun p tag ops t outSeq w)
    u.store = w.store ∧ u.float = w.float ∧ u.safe = w.safe ∧ u.courier = w.courier
      ∧ u.recon = { w.recon with fillOps := put w.recon.fillOps t ops } := by
  obtain ⟨store, _, float, safe, courier, _, _, recon⟩ := countBegun_frame p tag ops t outSeq w
  simp [store, float, safe, courier, recon]

theorem BeginsFrom.trayOf_ended {r : TrayRec} {w : State} (hw : BeginsFrom s t r w) (h : Req) (outSeq : Option Nat) :
    trayOf (ended (countBegun h.port h.tag [h.op1] t outSeq w)) t = { r with count := some (nextCount s) } := by
  have same : trayOf (ended (countBegun h.port h.tag [h.op1] t outSeq w)) t
      = trayOf (countBegun h.port h.tag [h.op1] t outSeq w) t := by simp [trayOf]
  rw [same, hw.trayOf_begun h outSeq, if_pos rfl]

theorem startedTray_accepted (src : Source) (t : TrayIx) (reject : Nat) (h : Req) (code : Nat) (s : State) :
    startedTray src t reject (accepted h code s) = startedTray src t reject s := by
  rw [startedTray, startedTray, trayOf_accepted, sourceVector_accepted]

theorem entryOf_accepted (m : Movement) (h : Req) (code : Nat) (s : State) : entryOf m (accepted h code s) = entryOf m s := by
  simp [entryOf]

/-- What a START COUNT that starts leaves beside the station: the tray, the holdings, the entries and the source (R81 to R83). -/
theorem start_leaves (src : Source) (t : TrayIx) (reject : Nat) (h : Req) (outSeq : Option Nat) (s : State) :
    let u := ended (countBegun h.port h.tag [h.op1] t outSeq (startEntered src t h.port [h.op1] reject (accepted h 0x30 s)))
    (∀ c, holding u c = if sourceContainer src = some c then Counts.zero
        else if c = .tray t then (holding s c).add (sourceVector s src) else holding s c)
      ∧ u.store.journal.entries = s.store.journal.entries
        ++ (if allZero (sourceVector s src) = true then [] else [entryOf (checkedMove src t h.port [h.op1] s) s])
      ∧ (∀ i n, src = .drawer i n → (tillOf u i).state = .counting)
      ∧ (∀ i n k p, src = .pouch i n k → pouch? (tillOf s i) k = some p →
          pouch? (tillOf u i) k = some { p with state := .counting })
      ∧ (∀ b, src = .inbound b → (bagOf u b).state = .counting)
      ∧ (∀ c, src = .compartment c → (compOf u c).outForCount = some t) := by
  intro u
  obtain ⟨store, float, safe, courier, _⟩ := endedBegun_frame h.port h.tag [h.op1] t outSeq
    (startEntered src t h.port [h.op1] reject (accepted h 0x30 s))
  have till (i : TillIx) : tillOf u i = tillOf (startEntered src t h.port [h.op1] reject (accepted h 0x30 s)) i := by
    rw [tillOf, tillOf, float]
  refine ⟨fun c => ?_, ?_, fun i n hsrc => ?_, fun i n k p hsrc found => ?_, fun b hsrc => ?_, fun c hsrc => ?_⟩
  · rw [holding_congr _ _ store, holding_startEntered, holding_accepted, sourceVector_accepted]
  · rw [store, entries_startEntered, checkedMove_accepted, sourceVector_accepted, entryOf_accepted, accepted_store]
  · subst hsrc
    rw [till]
    exact till_startEntered_drawer ..
  · subst hsrc
    rw [till]
    exact pouch_startEntered t h.port [h.op1] reject (accepted h 0x30 s) i n k ((congrArg (pouch? · k) (tillOf_accepted ..)).trans found)
  · subst hsrc
    rw [bagOf, courier]
    exact bag_startEntered ..
  · subst hsrc
    rw [compOf, safe]
    exact comp_startEntered ..

/-- What a RECOUNT that starts leaves beside the station: nothing is moved, and no source is marked (R93). -/
theorem recount_leaves (t : TrayIx) (reject : Nat) (h : Req) (s : State) (office : h.port = .office) :
    let u := ended (countBegun h.port h.tag [h.op1] t none (againEntered t reject (accepted h 0x31 s)))
    (∀ c, holding u c = holding s c) ∧ u.store.journal.entries = s.store.journal.entries
      ∧ u.float.tills = s.float.tills ∧ u.courier = s.courier ∧ u.safe = s.safe ∧ look u.recon.pending t = false := by
  obtain ⟨store, float, safe, courier, recon⟩ := endedBegun_frame h.port h.tag [h.op1] t none
    (againEntered t reject (accepted h 0x31 s))
  obtain ⟨holdings, entries, tills, bags, comps, pending⟩ := againEntered_leaves t reject (accepted h 0x31 s)
  refine ⟨fun c => ?_, ?_, ?_, ?_, ?_, ?_⟩
  · rw [holding_congr _ _ store, holdings, holding_accepted]
  · rw [store, entries, accepted_store]
  · rw [float, tills]
    simp
  · rw [courier, bags, accepted_courier h 0x31 s (by rw [office]; decide)]
  · rw [safe, comps]
    simp
  · rw [recon]
    exact pending

/-- What stops a START COUNT whose source is named, in the order of its steps (R80, R82, R84, R129). -/
theorem startCount_stops (isReady : officeReady s h = true) (allowed : authorise .one h s = none) (low : reject ≤ 255)
    (named : sourceNamed s arg = true) (is : sourceOf s arg = some src) :
    let a := accepted h 0x30 s
    let gives (u : State) := exec (.startCount h (.ok arg) (.ok (tray.map (·.1))) reject) s = .next u
    (s.count.station = .down → gives (settled h .counterDown [] a))
      ∧ (s.count.station ≠ .down → sourceReady s src = false → gives (settled h .badState [] a))
      ∧ (sourceReady s src = true → s.count.station = .running ∨ s.count.station = .collecting →
        gives (ended (parkCount h.port h.tag [h.op1] (.start arg tray) reject .counter a)))
      ∧ (sourceReady s src = true → s.count.station = .idle → chooseTray s tray = none →
        gives (ended (parkCount h.port h.tag [h.op1] (.start arg tray) reject .tray a)))
      ∧ (sourceReady s src = true → s.count.station = .idle → ∀ t, chooseTray s tray = some t →
        (∀ r c, startCheck src t h.port [h.op1] s = .parked r c →
          gives (ended (parkAccess h.port h.tag [h.op1] (.startCount arg tray reject) r c a)))
        ∧ ∀ k, startCheck src t h.port [h.op1] s = .refused k → gives (settled h k [] a)) := by
  intro a gives
  have is' : sourceOf a arg = some src := (sourceOf_accepted ..).trans is
  have station : a.count.station = s.count.station := by simp [a]
  have ready' : sourceReady a src = sourceReady s src := sourceReady_accepted ..
  have chosen' : chooseTray a tray = chooseTray s tray := chooseTray_accepted ..
  refine ⟨fun down => ?_, fun up unready => ?_, fun ready waits => ?_, fun ready idle none => ?_, fun ready idle t chosen => ?_⟩
  · exact startCount_refused isReady allowed low named (startTry_down (station.trans down))
  · exact startCount_refused isReady allowed low named (startTry_unready (station ▸ up) is' (ready'.trans unready))
  · have waits' : a.count.station = .running ∨ a.count.station = .collecting := station ▸ waits
    exact startCount_queued isReady allowed low named
      (startTry_busy (up_of_busy waits') is' (ready'.trans ready) ((stationBusy_iff a).mpr waits'))
  · have idle' : a.count.station = .idle := station.trans idle
    exact startCount_queued isReady allowed low named
      (startTry_untrayed (up_of_idle idle') is' (ready'.trans ready) (not_busy_of_idle idle') (chosen'.trans none))
  · have tried := startTry_taken (h := h) (reject := reject) is ready idle chosen
    refine ⟨fun r c parks => ?_, fun k refuses => ?_⟩
    · rw [parks] at tried
      exact startCount_parked isReady allowed low named tried
    · rw [refuses] at tried
      exact startCount_refused isReady allowed low named tried

/-- What stops a RECOUNT, in the order of its steps (R84, R93). -/
theorem recount_stops (isReady : officeReady s h = true) (allowed : authorise .one h s = none) (low : reject ≤ 255) :
    let a := accepted h 0x31 s
    let gives (u : State) := exec (.recount h t.1 reject) s = .next u
    (s.count.station = .down → gives (settled h .counterDown [] a))
      ∧ (s.count.station ≠ .down → ¬ trayFit s t → gives (settled h .badState [] a))
      ∧ (trayFit s t → s.count.station = .running ∨ s.count.station = .collecting →
        gives (ended (parkCount h.port h.tag [h.op1] (.recount t) reject .counter a))) := by
  intro a gives
  have station : a.count.station = s.count.station := by simp [a]
  have fit : trayFit a t ↔ trayFit s t := trayFit_accepted h 0x31 s t
  refine ⟨fun down => ?_, fun up unfit => ?_, fun fits waits => ?_⟩
  · exact recount_refused isReady allowed low (recountTry_down (station.trans down))
  · exact recount_refused isReady allowed low (recountTry_unfit (station ▸ up) fun fits => unfit (fit.mp fits))
  · have waits' : a.count.station = .running ∨ a.count.station = .collecting := station ▸ waits
    refine recount_queued isReady allowed low ?_
    rw [recountTry_reaches (up_of_busy waits') (fit.mpr fits), if_pos ((stationBusy_iff a).mpr waits')]

/-- Settles O32: the starts, what stops one, the waiter list, what a start goes by, and the pass. -/
theorem countBegins : Obligations.CountBegins := by
  refine ⟨fun s h t reject isReady allowed low idle => ?_, fun s h reject isReady allowed low => ?_, fun s p tag ops ask reject park =>
    parkCount_parked p tag ops ask reject park s, fun s => ?_, fun s w ws => ?_⟩
  · refine ⟨fun arg src tray named is ready chosen pass => ?_, fun fit sound opened free => ?_⟩
    · have begun := (startEntered_begins src t h.port [h.op1] reject (accepted h 0x30 s) (by simp [Scratch.empty])).of_accepted
      have record := begun.trayOf_ended h (if allZero (sourceVector s src) = true then none else some s.store.journal.nextSeq)
      rw [startedTray_accepted] at record
      exact ⟨_, startCount_started isReady allowed low named is ready idle chosen pass, begun.begins h _, record,
        start_leaves src t reject h _ s⟩
    · have begun := (againEntered_begins t reject (accepted h 0x31 s) (by simp [Scratch.empty])).of_accepted
      have record := begun.trayOf_ended h none
      rw [restartedTray, trayOf_accepted] at record
      exact ⟨_, recount_started isReady allowed low idle fit sound opened free, begun.begins h none, record,
        recount_leaves t reject h s (officeReady_iff.mp isReady).2⟩
  · exact ⟨fun arg tray unnamed => startCount_unnamed isReady allowed unnamed, fun arg src tray named is =>
      startCount_stops isReady allowed low named is, fun t => recount_stops isReady allowed low⟩
  · refine ⟨nextCount_day s, fun c => nextCount_same, nextCount_first, fun t => rfl, rfl, fun arg src => ?_⟩
    intro is
    refine ⟨fun i harg hsrc => ?_, fun i k harg hsrc => ?_, fun b harg hsrc => ?_, fun c harg hsrc => ?_,
      fun harg hsrc => ?_, ?_⟩
    · subst harg hsrc
      exact ⟨by simp [sourceNamed], by simp [sourceOf, tillOf], by simp [sourceReady, tillOf], rfl⟩
    · subst harg hsrc
      exact ⟨by simp [sourceNamed, Option.isSome_iff_exists, tillOf], by simp [sourceOf, tillOf], pouchReady_iff s i _ k, rfl⟩
    · subst harg hsrc
      exact ⟨by simp [sourceNamed], by simp [sourceOf], by simp [sourceReady, bagOf], rfl⟩
    · subst harg hsrc
      exact ⟨by simp [sourceNamed], by simp [sourceOf], by simp [sourceReady], rfl⟩
    · subst harg hsrc
      exact ⟨by simp [sourceNamed], by simp [sourceOf], by simp [sourceReady], rfl⟩
    · rintro (⟨n, high, rfl | ⟨k, rfl⟩⟩ | ⟨n, high, rfl⟩ | ⟨n, high, rfl⟩) <;> simp [sourceNamed, index?_high high]
  · intro mine gone again is
    refine ⟨rfl, rfl, fun busy => countPassOver_waits w ws (countNeed_busy busy _), fun idle => ⟨fun arg tray asks => ⟨fun none => ?_,
      fun some => ?_⟩, fun t asks => ?_⟩⟩
    · exact countPassOver_waits w ws (((congrArg _ asks).trans (countNeed_start idle arg tray)).trans (if_pos none))
    · have met : countNeed s w.ask = none := ((congrArg _ asks).trans (countNeed_start idle arg tray)).trans (if_neg some)
      have access : w.ask.access w.reject = .startCount arg tray w.reject := by rw [asks]; rfl
      exact ⟨fun u starts => countPassOver_runs ws met ((countTry_start asks s).trans starts),
        fun k u refuses => countPassOver_refuses ws met ((countTry_start asks s).trans refuses),
        fun r c u parks => access ▸ countPassOver_parks ws met ((countTry_start asks s).trans parks)⟩
    · have met : countNeed s w.ask = none := (congrArg _ asks).trans (countNeed_recount idle t)
      exact ⟨fun u starts => countPassOver_runs ws met ((countTry_recount asks s).trans starts),
        fun k u refuses => countPassOver_refuses ws met ((countTry_recount asks s).trans refuses)⟩

end Sys2Proof.Machine
end
